-- ==== Sys2Proof/Word.lean ====
section
/-! DEFINITION. The plain word types of the part, its two line ports, and the two containers of a
fixed number of like things: one value for each port, and a table of a stated number of entries. -/

namespace Sys2Proof

/-- One octet of a frame or telegram. -/
abbrev Byte := BitVec 8

/-- A 16-bit quantity, such as the check of R3. -/
abbrev Half := BitVec 16

/-- A 32-bit count that wraps: part time (R165), the odometer (R86), moving time (R85). -/
abbrev Word := BitVec 32

/-- A node address 0..63; 63 is broadcast as a destination and invalid as a source (R3). -/
abbrev Addr := BitVec 6

/-- Line Port A or Line Port B (Chapter 1). -/
inductive Port
  | A
  | B
  deriving DecidableEq, Repr

/-- The partner of a port: the "other port" of Chapter 1. -/
def Port.other : Port → Port
  | .A => .B
  | .B => .A

/-- One value for each line port. -/
structure Both (α : Type) where
  a : α
  b : α
  deriving DecidableEq, Repr

/-- The value of one port. -/
def Both.get {α : Type} (t : Both α) : Port → α
  | .A => t.a
  | .B => t.b

/-- The pair with the value of one port replaced. -/
def Both.set {α : Type} (t : Both α) (p : Port) (x : α) : Both α :=
  match p with
  | .A => { t with a := x }
  | .B => { t with b := x }

/-- The pair with the value of one port changed by a function. -/
def Both.modify {α : Type} (t : Both α) (p : Port) (f : α → α) : Both α := t.set p (f (t.get p))

/-- The same value for both ports. -/
def Both.same {α : Type} (x : α) : Both α := { a := x, b := x }

/-- A function applied to both values. -/
def Both.map {α β : Type} (f : α → β) (t : Both α) : Both β := { a := f t.a, b := f t.b }

/-- A table of exactly `n` entries, numbered from 0. -/
structure Tab (α : Type) (n : Nat) where
  data : List α
  size : data.length = n
  deriving DecidableEq, Repr

/-- Entry `i` of a table, or `d` where the table has no entry `i`. -/
def Tab.get {α : Type} {n : Nat} (t : Tab α n) (i : Nat) (d : α) : α := t.data.getD i d

/-- The table with entry `i` replaced; unchanged where it has no entry `i`. -/
def Tab.set {α : Type} {n : Nat} (t : Tab α n) (i : Nat) (x : α) : Tab α n :=
  { data := t.data.set i x, size := by rw [List.length_set]; exact t.size }

/-- The table whose entries all equal `x`. -/
def Tab.fill {α : Type} (n : Nat) (x : α) : Tab α n :=
  { data := List.replicate n x, size := List.length_replicate }

/-- The table with a function applied to every entry. -/
def Tab.map {α β : Type} {n : Nat} (f : α → β) (t : Tab α n) : Tab β n :=
  { data := t.data.map f, size := by rw [List.length_map]; exact t.size }

/-- The table with a function applied to every entry and its number. -/
def Tab.mapIdx {α β : Type} {n : Nat} (f : Nat → α → β) (t : Tab α n) : Tab β n :=
  { data := t.data.mapIdx f, size := by rw [List.length_mapIdx]; exact t.size }

end Sys2Proof
end

