-- ==== Sys2Proof/Syntax.lean ====
section
/-! DEFINITION. The commands of the LW3260: one constructor for each row of spec/opcode_table.json,
with the operands the row's event brings from outside the part. A command that takes a frame from
the Local Dispatch Queue (R52) has no operand: the frame's buffer holds what it says. -/

namespace Sys2Proof

/-- The two sound channels (R153). -/
inductive Channel
  | exterior
  | interior
  deriving DecidableEq, Repr

/-- The nine discrete inputs, in the order of R75. -/
inductive Input
  | key
  | deadman
  | estop
  | doorRelease
  | horn
  | bell
  | routeLeft
  | routeStraight
  | routeRight
  deriving DecidableEq, Repr

/-- The eight attributes, in the order of their ids 1..8 (R160). -/
inductive Attr
  | portALine
  | portBLine
  | buffer
  | loopLink
  | loopCheck
  | speedSource
  | adhesion
  | stopPanel
  deriving DecidableEq, Repr

/-- A train line frame from dest to check (R3, R181). The length octet is the number of payload
octets, so it is not held a second time. -/
structure Frame where
  dest : Byte
  src : Byte
  kind : Byte
  /-- tag in bits 7..5, hop in bits 4..0 -/
  tagHop : Byte
  seq : Byte
  payload : List Byte
  check : Half
  deriving DecidableEq, Repr

/-- A loop telegram from type to check (R108, R184). The length octet is the number of field
octets. -/
structure Telegram where
  kind : Byte
  fields : List Byte
  check : Half
  deriving DecidableEq, Repr

/-- The commands: one for each row of spec/opcode_table.json, in the table's order. -/
inductive Instr
  /-- POWER_ON_RESET, with the address straps ADDR0..ADDR5 as read at the reset. -/
  | powerOnReset (straps : Addr)
  | frameStart (p : Port)
  /-- FRAME_END, with the frame whose octets have arrived. -/
  | frameEnd (p : Port) (f : Frame)
  | skippedFrameEnd (p : Port)
  /-- LENGTH. -/
  | lengthError (p : Port)
  | syncLoss (p : Port)
  | receiverDown (p : Port)
  | receiverUp (p : Port)
  | autoloopEnter (p : Port)
  | autoloopExit (p : Port)
  | learningTimerExpiry (node : Addr)
  | loopReportHoldExpiry (p : Port)
  | fillPairSent (p : Port)
  | frameSent (p : Port)
  | takeCabAnnounce
  | takeInverterStatus
  | takeStopPress
  | announceTimerExpiry
  | claimWindowExpiry
  | cabEntryTimeout (cab : Addr)
  | clearTimerExpiry
  | releasingTimerExpiry
  /-- DEBOUNCED_CHANGE: the input has read at `level` (true is active) for 10 ms. -/
  | debouncedChange (i : Input) (level : Bool)
  | graceTimerExpiry
  /-- HANDLE_FAULT, with the sample that forms the handle value declared faulty. -/
  | handleFault (sample : BitVec 10)
  | handleFaultCleared
  | demandPeriod
  | carrierGain
  | carrierLoss
  | telegramStart
  | loopLengthError
  /-- TELEGRAM_RECEIVED, with the telegram whose last check bit has been taken. -/
  | telegramReceived (t : Telegram)
  | pointRequestTransmit
  | pointRequestSent
  | retryTimerExpiry (junction : Nat)
  | refreshTimerExpiry
  | inhibitTimerExpiry
  | stepEnd (c : Channel)
  | recoveryTimerExpiry (a : Attr)
  | reportTimerExpiry
  | unknownCommand
  | readTable
  | writeNode
  | writeClass
  | writeTagMap
  | writeWeights
  | writePortConfig
  | writeQueueMap
  | writeRoute
  | writeProfile
  | writePattern
  | writeTone
  | writeSoundMap
  | writeAttributeConfig
  | commitRoute
  | commitProfile
  | readState
  | readLog
  | clearLatches
  | clearLog
  | clearAttributes
  | clearCounters
  | setNormal
  | setLocalLoopback
  | setRemoteLoopback
  | setDisabled
  | sendLoopup
  | sendLoopdown
  | stopLoopcode
  | setManager
  | setReport
  | preselect
  | resetPart
  /-- HANDLE_SAMPLE, with the converted sample 0..1023. -/
  | handleSample (sample : BitVec 10)
  /-- BIT_JUDGED, with the loop bit taken. -/
  | bitJudged (bit : Bool)
  | cabLampFlash
  deriving DecidableEq, Repr

end Sys2Proof
end

