-- ==== Sys2Proof/Decode.lean ====
section
/-! DEFINITION. The command that a word spells. No row of spec/opcode_table.json has bits, so no word
spells a command. -/

namespace Sys2Proof

/-- The command spelled by a word of `nbits` bits: none, for the table gives no row an encoding. -/
def decodeTableWord (_nbits _w : Nat) : Option Instr := none

end Sys2Proof
end

