-- ==== Sys2Proof/Config.lean ====
section
/-! DEFINITION. The free values of the model: values the spec leaves open, held as constants with no
body, so that no proof can see what they are (log entries 4, 9, 10, 14, 15). -/

namespace Sys2Proof

/-- How the part reads an address octet above 63, which R3 gives no meaning (log entry 4). -/
opaque Config.wideAddress : Byte → Addr

/-- The command code octet of the REPLY to a CONTROL frame with no payload (log entry 9). -/
opaque Config.absentCommandCode : Nat → Byte

/-- The figure of a REPLY refused with BAD_INDEX where the command names no index (log entry 10). -/
opaque Config.figureWithoutIndex : Nat → Half

/-- The handle value read before the first sample after a reset (log entry 14). -/
opaque Config.unsampledHandle : Nat → BitVec 10

/-- The target Dt that the record of an EMERGENCY period holds (log entry 15). -/
opaque Config.unformedTarget : Nat → Int

end Sys2Proof
end

