-- ==== Sys2Proof/Machine/Bits.lean ====
section
/-! DEFINITION. Octets and numbers (R181), saturating counters, and the 16-bit check (R3). -/

namespace Sys2Proof.Machine

/-- The largest value of a 32-bit counter. -/
def max32 : Nat := 4294967295

/-- A 32-bit counter raised by one, saturating (R10, R35, R46, R117 and their like). -/
def bump (n : Nat) : Nat := if n < max32 then n + 1 else n

/-- A 32-bit counter raised by `k`, saturating. -/
def bumpBy (n k : Nat) : Nat := min (n + k) max32

/-- A number clamped to the nearer end of a range. -/
def clampNat (lo hi n : Nat) : Nat := if n < lo then lo else if hi < n then hi else n

/-- A signed number clamped to the nearer end of a range. -/
def clampInt (lo hi n : Int) : Int := if n < lo then lo else if hi < n then hi else n

/-- A number in one octet. -/
def oct1 (n : Nat) : List Byte := [BitVec.ofNat 8 n]

/-- A number in two octets, low octet first (R181). -/
def oct2 (n : Nat) : List Byte := [BitVec.ofNat 8 n, BitVec.ofNat 8 (n / 256)]

/-- A number in four octets, low octet first (R181). -/
def oct4 (n : Nat) : List Byte :=
  [BitVec.ofNat 8 n, BitVec.ofNat 8 (n / 256), BitVec.ofNat 8 (n / 65536),
   BitVec.ofNat 8 (n / 16777216)]

/-- A signed number in two octets, two's complement, low octet first (R181). -/
def octS2 (i : Int) : List Byte := oct2 (BitVec.ofInt 16 i).toNat

/-- A signed number in four octets (R181). -/
def octS4 (i : Int) : List Byte := oct4 (BitVec.ofInt 32 i).toNat

/-- A flag in one octet (R173). -/
def octFlag (b : Bool) : List Byte := oct1 (if b then 1 else 0)

/-- An optional number in one octet, 0xFF when absent (R181). -/
def octOpt1 (o : Option Nat) : List Byte := oct1 (o.getD 0xFF)

/-- An optional number in two octets, 0xFFFF when absent (R181). -/
def octOpt2 (o : Option Nat) : List Byte := oct2 (o.getD 0xFFFF)

/-- An optional number in four octets, all ones when absent (R173). -/
def octOpt4 (o : Option Nat) : List Byte := oct4 (o.getD max32)

/-- All ones in `n` octets: an absent item of that width (R173). -/
def octAbsent (n : Nat) : List Byte := List.replicate n 0xFF

/-- The octet at offset `i`, 0 beyond the end. -/
def octetAt (l : List Byte) (i : Nat) : Byte := l.getD i 0

/-- The number in the octet at offset `i`. -/
def num1 (l : List Byte) (i : Nat) : Nat := (octetAt l i).toNat

/-- The number in the two octets from offset `i`, low octet first. -/
def num2 (l : List Byte) (i : Nat) : Nat := num1 l i + 256 * num1 l (i + 1)

/-- The signed number in the two octets from offset `i`. -/
def numS2 (l : List Byte) (i : Nat) : Int := (BitVec.ofNat 16 (num2 l i)).toInt

/-- Bools packed oldest first from bit 0, into a number (R173). -/
def packBits : List Bool → Nat
  | [] => 0
  | b :: l => (if b then 1 else 0) + 2 * packBits l

/-- `n` octets of a number, low octet first. -/
def octN : Nat → Nat → List Byte
  | 0, _ => []
  | k + 1, n => BitVec.ofNat 8 n :: octN k (n / 256)

/-- One bit of the check: the register shifts right, and takes the polynomial
x^16 + x^12 + x^5 + 1 (0x8408 when the least significant bit goes first) when a one leaves (R3). -/
def checkShift (c : Half) : Half := if c.getLsbD 0 then (c >>> 1) ^^^ 0x8408#16 else c >>> 1

/-- `n` bits of the check. -/
def checkShifts : Nat → Half → Half
  | 0, c => c
  | n + 1, c => checkShifts n (checkShift c)

/-- The check register after one octet, least significant bit first (R3). -/
def checkOctet (c : Half) (b : Byte) : Half := checkShifts 8 (c ^^^ b.setWidth 16)

/-- The check of R3 over a list of octets: initial value all ones, final value inverted. -/
def checkOf (l : List Byte) : Half := ~~~ (l.foldl checkOctet 0xFFFF#16)

end Sys2Proof.Machine
end

