-- ==== Sys2Proof/Machine/Units.lean ====
section
/-! DEFINITION. The state of each of the thirteen units of the LW3260 (00_scope.md, block diagram):
every item of state the chapters give that unit. -/

namespace Sys2Proof.Machine

/-! ### Line ports (Chapter 1) -/

/-- Receiver state (section 1.3). FRAME holds the buffer of the frame in reception, or none while
the frame is skipped (R8). -/
inductive RxState
  | down
  | hunt
  | frame (buffer : Option Nat)
  deriving DecidableEq, Repr

/-- Transmitter state (R11). SENDING holds the buffer of the frame in transmission. -/
inductive TxState
  | fill
  | sending (buffer : Nat)
  | silent
  deriving DecidableEq, Repr

/-- Port mode (R14). -/
inductive PortMode
  | normal
  | localLoopback
  | remoteLoopback
  | disabled
  deriving DecidableEq, Repr

/-- Loop-code setting (R12), and the pattern of a fill pair (R2): IDLE fill is `none`. -/
inductive LoopCode
  | none
  | loopup
  | loopdown
  deriving DecidableEq, Repr

/-- The five error latches of a port (R10). -/
structure Latches where
  check : Bool
  length : Bool
  syncLoss : Bool
  downSeen : Bool
  overrun : Bool
  deriving DecidableEq, Repr

/-- The loop-code persistence timer while it runs (R18): the code of the run and its length in bit
times of 1 µs. -/
structure FillRun where
  code : LoopCode
  micros : Nat
  deriving DecidableEq, Repr

/-- What a receiver has of the signal at its input: the valid bit times that follow one another, up to
16, and the bit times since the last valid one, up to 1000 (R4); the bits of the search window, or of the
octet under way (R1, R5); the fill run being followed (R5); the octets of the frame in reception (R6);
and the event found at the last bit time. -/
structure Front where
  valid : Nat
  silent : Nat
  bits : List Bool
  run : Option LoopCode
  octets : List Byte
  found : Option Instr
  deriving DecidableEq, Repr

/-- One line port. -/
structure LinePort where
  rx : RxState
  /-- the bit times still to come at the receive pair, as levels of their two halves; after the last of
  them the pair has no transitions. The model's own field: the far end of the segment -/
  line : List (Bool × Bool)
  front : Front
  /-- in LOCAL_LOOPBACK, whether the receiver has joined the looped stream (R15) -/
  joined : Bool
  tx : TxState
  /-- the pattern of the fill pair on the wire, or of the last one sent -/
  fill : LoopCode
  /-- the bits already sent of the transmitter's present output -/
  pos : Nat
  /-- the frame in transmission was chosen as its predecessor ended: one fill pair precedes it (R11) -/
  lead : Bool
  mode : PortMode
  loopCode : LoopCode
  persistence : Option FillRun
  latches : Latches
  good : Nat
  discarded : Nat
  sent : Nat
  /-- buffer references, oldest first (R16) -/
  returnList : List Nat
  deriving DecidableEq, Repr

/-! ### Frame Switch (Chapter 2) -/

/-- Configured role of a node (section 2.1). -/
inductive NodeRole
  | any
  | none
  | vcu
  | inverter
  | stopPanel
  | cab
  | other
  deriving DecidableEq, Repr

/-- The learned side of a node with its 10 s learning timer (R22, R23). The age of the entry is read
from the time the timer has left. -/
structure Learned where
  side : Port
  left : Nat
  deriving DecidableEq, Repr

/-- One Node Table entry. -/
structure NodeEntry where
  role : NodeRole
  priority : Option Nat
  learned : Option Learned
  deriving DecidableEq, Repr

/-- The four actions of the Frame Class Table (R26). -/
inductive Action
  | forward
  | absorb
  | snoop
  | drop
  deriving DecidableEq, Repr

/-- One Frame Class Table entry (R26). -/
structure ClassEntry where
  active : Action
  passive : Action
  priority : Option Nat
  maxPayload : Nat
  deriving DecidableEq, Repr

/-- The Frame Switch counters of a port (R35) and its loop-report hold (R30). -/
structure SwitchStats where
  malformed : Nat
  ownSource : Nat
  refused : Nat
  filtered : Nat
  hold : Option Nat
  deriving DecidableEq, Repr

/-- The Frame Switch. Weights are in the order TAG, CLASS, NODE, PORT (R36). -/
structure Fsw where
  nodes : Tab NodeEntry 63
  classes : Tab ClassEntry 256
  tagMap : Tab Nat 8
  weights : Tab Nat 4
  stats : Both SwitchStats
  deriving DecidableEq, Repr

/-! ### Buffer and Queue Manager (Chapter 3) -/

/-- One buffer of the pool: its reference count (0 is free) and the frame in it (R41). -/
structure Buffer where
  refs : Nat
  frame : Frame
  deriving DecidableEq, Repr

/-- Queue type (R44). -/
inductive QueueType
  | strict
  | weighted
  deriving DecidableEq, Repr

/-- The Port Config fields of one queue (R44). -/
structure QueueConfig where
  type : QueueType
  weight : Nat
  depth : Nat
  deriving DecidableEq, Repr

/-- One Port Config entry (R44). -/
structure PortConfig where
  queueCount : Nat
  defaultPriority : Nat
  autoloop : Bool
  queues : Tab QueueConfig 4
  deriving DecidableEq, Repr

/-- One egress queue: its buffer references from the head (section 3.2), its drop counter (R46) and
its deficit (R49). -/
structure EgressQueue where
  entries : List Nat
  drops : Nat
  deficit : Nat
  deriving DecidableEq, Repr

/-- The egress side of one port: four queues, the scheduler's pointer (R49), the Port Config. -/
structure Egress where
  queues : Tab EgressQueue 4
  pointer : Option Nat
  config : PortConfig
  deriving DecidableEq, Repr

/-- What has become of the most recent own demand at one port (R53, R54): not queued there, waiting
in a queue in the named buffer, flushed, or taken by the transmitter. -/
inductive SlotState
  | notQueued
  | waiting (buffer : Nat)
  | flushed
  | taken
  deriving DecidableEq, Repr

/-- The marked REPLY of a RESET_PART and the ports at which a copy of it is still to be done (R56). -/
structure ResetReply where
  buffer : Nat
  undone : Both Bool
  deriving DecidableEq, Repr

/-- The Buffer and Queue Manager. Queue Map k is entry k − 1 of `maps`. -/
structure Bqm where
  pool : Tab Buffer 96
  egress : Both Egress
  maps : Tab (Tab Nat 8) 4
  ldq : List Nat
  localDrops : Nat
  ownFailures : Nat
  slot : Both SlotState
  resetReply : Option ResetReply
  deriving DecidableEq, Repr

/-! ### Cab Role Unit (Chapter 4) -/

/-- The role (R58). -/
inductive Role
  | inactive
  | passive
  | claiming
  | active
  | blocked
  | conflict
  deriving DecidableEq, Repr

/-- The role an announce carries (R59). -/
inductive Announced
  | claiming
  | active
  | conflict
  deriving DecidableEq, Repr

/-- One Cab Table entry (section 4.3) with its 500 ms timer. -/
structure CabEntry where
  cab : Addr
  role : Announced
  time : Word
  left : Nat
  deriving DecidableEq, Repr

/-- The Cab Role Unit. Each timer holds the milliseconds it has left, or none while stopped. -/
structure Cru where
  role : Role
  releasing : Bool
  cabs : List CabEntry
  announceTimer : Option Nat
  claimWindow : Option Nat
  clearTimer : Option Nat
  releasingTimer : Option Nat
  pendingKeyOn : Bool
  tableFull : Bool
  seq : Byte
  rejected : Nat
  lamp : Bool
  flashTimer : Option Nat
  deriving DecidableEq, Repr

/-! ### Cab Input Unit (sections 5.1, 5.2) -/

/-- One discrete input: the level at its pin as last read, its debounced level, and the stability timer,
which counts the milliseconds that the pin has read away from the debounced level, up to 10 (R75). -/
structure InputState where
  pin : Bool
  level : Bool
  stability : Option Nat
  deriving DecidableEq, Repr

/-- The Cab Input Unit. The window is empty or holds the last 8 samples, oldest first (R73). -/
structure Ciu where
  inputs : Tab InputState 9
  /-- what the nine pins will read at the coming milliseconds, the next one first; after the last of them
  each pin keeps its level. The model's own field: the vehicle's wiring (log entry 38) -/
  ahead : List (Tab Bool 9)
  /-- the level at the handle input as its converted value, and what it will be at the coming
  milliseconds, the next one first; after the last of them it keeps its level. The model's own fields: the
  wiper of the handle (log entry 47) -/
  wiper : BitVec 10
  wiperAhead : List (BitVec 10)
  window : List Nat
  handle : Option Nat
  fault : Bool
  /-- how long H has been in range while a fault exists (R74) -/
  inRange : Option Nat
  deriving DecidableEq, Repr

/-! ### Traction Demand Unit (Chapters 5 and 6) -/

/-- Traction state (R89). -/
inductive TractionState
  | off
  | run
  | hold
  | emergency
  deriving DecidableEq, Repr

/-- Inverter state (R79). -/
inductive InverterState
  | ready
  | fault
  | isolated
  deriving DecidableEq, Repr

/-- An allocated Inverter Table slot (R81). -/
structure Slot where
  node : Addr
  speed : Int
  effort : Int
  state : InverterState
  time : Word
  deriving DecidableEq, Repr

/-- The Traction Profile (R93), its fields in the table's order. -/
structure Profile where
  hb : Int
  hn1 : Int
  hn2 : Int
  hp : Int
  maxSpeed : Int
  taperBand : Int
  overspeedMargin : Int
  overspeedBrake : Int
  holdBrake : Int
  blindLimit : Int
  rateLimit : Int
  jerk : Int
  slipThreshold : Int
  adhesionCut : Int
  adhesionRestore : Int
  deadmanGrace : Int
  trainLength : Int
  doorCount : Int
  vehicleNumber : Int
  deriving DecidableEq, Repr

/-- The flags of a demand frame (R103). -/
structure DemandFlags where
  emergency : Bool
  hold : Bool
  blind : Bool
  sand : Bool
  deriving DecidableEq, Repr

/-- The period record (R89). -/
structure PeriodRecord where
  dh : Int
  dt : Int
  c : Int
  flags : DemandFlags
  deriving DecidableEq, Repr

/-- The speed facts (R82): the speed is known when `v` is present; `s` is the spread. -/
structure SpeedFacts where
  v : Option Int
  s : Option Int
  deriving DecidableEq, Repr

/-- The Traction Demand Unit. `periodD` is the demand the last demand period computed (R82), which
an entry to EMERGENCY does not change. -/
structure Tdu where
  state : TractionState
  d : Int
  r : Int
  f : Int
  slip : Bool
  seq : Byte
  periodTimer : Option Nat
  record : PeriodRecord
  periodD : Int
  grace : Option Nat
  slots : Tab (Option Slot) 6
  inverterOverflow : Bool
  rejected : Nat
  facts : SpeedFacts
  movingTime : Word
  odometer : Word
  carry : Nat
  shadow : Profile
  live : Option Profile
  deriving DecidableEq, Repr

/-! ### Loop Link Unit (Chapter 7) -/

/-- Loop receiver state (R107). -/
inductive LoopRx
  | idle
  | hunt
  | telegram
  deriving DecidableEq, Repr

/-- A direction at a junction (R120). -/
inductive Direction
  | left
  | straight
  | right
  deriving DecidableEq, Repr

/-- A waiting point request (R114). -/
structure PointRequest where
  junction : Nat
  direction : Direction
  attempt : Nat
  deriving DecidableEq, Repr

/-- The POINT_REQUEST in transmission, with the run and vehicle number it was built with (R114). -/
structure SendingRequest where
  request : PointRequest
  run : Nat
  vehicle : Int
  deriving DecidableEq, Repr

/-- An open depot test (R115). Bits and outcomes are oldest first; an outcome is true for a
mismatch. -/
structure DepotTest where
  loop : Nat
  inSync : Bool
  checked : Nat
  errors : Nat
  delay : List Bool
  history : List Bool
  window : List Bool
  deriving DecidableEq, Repr

/-- The last test record (R116). -/
structure TestRecord where
  pass : Bool
  loop : Nat
  checked : Nat
  errors : Nat
  time : Word
  deriving DecidableEq, Repr

/-- What the loop modem will present. The model's own field: the wayside and the modem (log entry 39).
`cd` holds the levels of LOOP_CD for the coming bit times of 1 µs, after which the pin keeps its level;
`bits` holds the bits of LOOP_RXD still to come, one for each 1/4800 s, after which there are none; and
`phase` is how much of the present loop bit has passed, in thirds of a microsecond: it is over at 625. -/
structure LoopLine where
  cd : List Bool
  bits : List Bool
  phase : Nat
  deriving DecidableEq, Repr

/-- What the loop receiver has of the bits it takes: the newest 27 that it has taken in HUNT (R109), and in
TELEGRAM the bits of the octet under way and the octets taken (R110). -/
structure LoopFront where
  heard : List Bool
  bits : List Bool
  octets : List Byte
  deriving DecidableEq, Repr

/-- The Loop Link Unit. -/
structure Llu where
  line : LoopLine
  /-- the level at the LOOP_CD pin -/
  cdPin : Bool
  carrier : Bool
  /-- how long LOOP_CD has held a level other than the carrier presence, in microseconds up to 5000
  (R106) -/
  filter : Option Nat
  rx : LoopRx
  front : LoopFront
  txen : Bool
  /-- how long LOOP_TXEN has held its present level, in thirds of a microsecond: while it is high, the
  part of the request sent; while it is low, up to one loop bit, 625 (R114, log entry 25) -/
  txHeld : Nat
  sending : Option SendingRequest
  queue : List PointRequest
  test : Option DepotTest
  lastTest : Option TestRecord
  good : Nat
  checkErrors : Nat
  lengthErrors : Nat
  rejected : Nat
  carrierDiscards : Nat
  sent : Nat
  cutOff : Nat
  deriving DecidableEq, Repr

/-! ### Junction Unit (Chapter 8) -/

/-- The header of the Route Table (R120). -/
structure RouteHeader where
  run : Nat
  line : Nat
  unconfirmed : Nat
  straightCap : Nat
  divergingCap : Nat
  junctionLength : Nat
  count : Nat
  deriving DecidableEq, Repr

/-- One entry of the Route Table (R120). -/
structure RouteEntry where
  junction : Nat
  direction : Direction
  straightCap : Option Nat
  divergingCap : Option Nat
  junctionLength : Option Nat
  deriving DecidableEq, Repr

/-- The live Route Table: the header and entries 1 to the entry count (R121). -/
structure LiveRoute where
  header : RouteHeader
  entries : List RouteEntry
  deriving DecidableEq, Repr

/-- Context state (R124). -/
inductive CtxState
  | noRoute
  | requesting
  | accepted
  | refused
  | unanswered
  | set
  | mismatch
  | passed
  deriving DecidableEq, Repr

/-- Where a context's direction came from (R123). -/
inductive DirSource
  | table
  | manual
  deriving DecidableEq, Repr

/-- Point status (R112). -/
inductive PointStatus
  | none
  | moving
  | set (d : Direction)
  | fault
  deriving DecidableEq, Repr

/-- A junction context (R123). -/
structure Ctx where
  junction : Nat
  /-- a Route Table was live at its creation, so that a route press can act on it (R126) -/
  tabled : Bool
  direction : Option Direction
  source : Option DirSource
  state : CtxState
  attempt : Nat
  status : Option PointStatus
  requestSent : Option Word
  wasSet : Bool
  straightCap : Nat
  divergingCap : Nat
  unconfirmedCap : Nat
  junctionLength : Nat
  odoCreated : Word
  movingCreated : Word
  odoCleared : Option Word
  movingCleared : Option Word
  trainLength : Option Nat
  retry : Option Nat
  deriving DecidableEq, Repr

/-- The Junction Unit. -/
structure Jcu where
  contexts : List Ctx
  overflow : Bool
  preselection : Option Direction
  /-- junction and part time of the last REQUEST ident (R122) -/
  lastIdent : Option (Nat × Word)
  unmatched : Nat
  shadowHeader : RouteHeader
  shadow : Tab RouteEntry 256
  live : Option LiveRoute
  routeLamp : Bool
  deriving DecidableEq, Repr

/-! ### Stop Request Unit (Chapter 9) -/

/-- Stop record state (R141). -/
inductive StopState
  | idle
  | requested
  | serving
  | inhibit
  deriving DecidableEq, Repr

/-- The Stop Request Record (R141). Bit n − 1 of the door set stands for door n (R181). -/
structure StopRecord where
  state : StopState
  doors : BitVec 16
  accessible : Bool
  firstPress : Option Word
  presses : Nat
  deriving DecidableEq, Repr

/-- The Stop Request Unit. -/
structure Sru where
  record : StopRecord
  inhibitTimer : Option Nat
  refreshTimer : Option Nat
  lamp : Bool
  seq : Byte
  rejected : Nat
  deriving DecidableEq, Repr

/-! ### Sound Unit (Chapter 10) -/

/-- The seven sources, in the order of R153. -/
inductive Source
  | horn
  | emergency
  | bell
  | warning
  | cabAlert
  | accessChime
  | chime
  deriving DecidableEq, Repr

/-- One step of a pattern: a tone index or REST (none), and a duration in units of 10 ms (R151). -/
structure Step where
  tone : Option Nat
  duration : Nat
  deriving DecidableEq, Repr

/-- The square wave on a tone output (R150): the tone it sounds, the level now, the frequency of the
present half-period, and how much of the half-period has passed: it is over at 1 000 000. -/
structure Wave where
  tone : Nat
  high : Bool
  hz : Nat
  phase : Nat
  deriving DecidableEq, Repr

/-- A channel's player (R154): the playing source, its step, and the time elapsed in the step; and the
wave on the channel's output. -/
structure Player where
  playing : Option Source
  step : Nat
  elapsed : Nat
  wave : Option Wave
  deriving DecidableEq, Repr

/-- The Sound Unit. Condition sources are active or not, CAB_ALERT with its two claims; the others
hold a standing request or none (R153). -/
structure Snu where
  tones : Tab Nat 8
  patterns : Tab (List Step) 16
  map : Tab Nat 7
  horn : Bool
  emergency : Bool
  bell : Bool
  warning : Bool
  alertRole : Bool
  alertJunction : Bool
  accessChime : Bool
  chime : Bool
  exterior : Player
  interior : Player
  discarded : Nat
  deriving DecidableEq, Repr

/-! ### Condition Monitor (Chapter 11) -/

/-- The state of one attribute (R160). -/
structure AttrState where
  n : Nat
  worst : Nat
  raw : Nat
  tripped : Bool
  recovery : Option Nat
  deriving DecidableEq, Repr

/-- The configuration of one attribute (R161). -/
structure AttrConfig where
  threshold : Nat
  penalty : Nat
  interval : Nat
  testLimit : Nat
  deriving DecidableEq, Repr

/-- Log kinds, in the order of the table of R167. -/
inductive LogKind
  | emergencyBrake
  | deadman
  | handleFault
  | roleConflict
  | keyOffMoving
  | profileMissing
  | cabTableFull
  | inverterOverflow
  | demandNotSent
  | loopDetected
  | portDown
  | portUp
  | autoloopEnter
  | autoloopExit
  | junctionUnanswered
  | junctionRefused
  | junctionMismatch
  | junctionTimeout
  | clearMissed
  | contextFull
  | routeChangeRefused
  | routeTableMissing
  | testPass
  | testFail
  | attributeTripped
  | attributeRecovered
  | controlReset
  deriving DecidableEq, Repr

/-- Source blocks, in the order listed in R167. -/
inductive Block
  | lpa
  | lpb
  | fsw
  | bqm
  | cru
  | ciu
  | tdu
  | llu
  | jcu
  | sru
  | snu
  | cmn
  | mgu
  deriving DecidableEq, Repr

/-- What a unit gives for an entry it appends (R167). -/
structure LogInfo where
  kind : LogKind
  block : Block
  junction : Option Nat := none
  node : Option Addr := none
  port : Option Port := none
  value : Option Int := none
  deriving DecidableEq, Repr

/-- A Fault Log entry (R167). -/
structure LogEntry where
  number : Nat
  time : Word
  info : LogInfo
  deriving DecidableEq, Repr

/-- The Fault Log (R166). Place n is entry n − 1 of `places`. -/
structure FaultLog where
  places : Tab (Option LogEntry) 32
  pointer : Nat
  held : Nat
  total : Nat
  deriving DecidableEq, Repr

/-- The Condition Monitor. Attribute id n is entry n − 1 of `attrs` and `config`. `micros` counts the
bit times since part time last advanced (the model's own field, log entry 3). -/
structure Cmn where
  attrs : Tab AttrState 8
  config : Tab AttrConfig 8
  log : FaultLog
  partTime : Word
  micros : Nat
  faultLamp : Bool
  deriving DecidableEq, Repr

/-! ### Management Unit (Chapter 12) -/

/-- The Management Unit. A pending reset holds the sender of its RESET_PART (R178). -/
structure Mgu where
  manager : Addr
  interval : Nat
  reportTimer : Option Nat
  reportSeq : Byte
  pendingReset : Option Addr
  executed : Nat
  refused : Nat
  deriving DecidableEq, Repr

end Sys2Proof.Machine
end

