-- ==== Sys2Proof/Machine/PowerOn.lean ====
section
/-! DEFINITION. The value of each unit's state after power-on reset. -/

namespace Sys2Proof.Machine

def Latches.clear : Latches :=
  { check := false, length := false, syncLoss := false, downSeen := false, overrun := false }

/-- A receiver that has heard nothing yet. -/
def Front.start : Front :=
  { valid := 0, silent := 0, bits := [], run := none, octets := [], found := none }

/-- A line port after power-on reset (R20). -/
def LinePort.powerOn : LinePort :=
  { rx := .down, line := [], front := Front.start, joined := false, tx := .fill, fill := .none,
    pos := 0, lead := false, mode := .normal, loopCode := .none,
    persistence := none, latches := Latches.clear, good := 0, discarded := 0, sent := 0,
    returnList := [] }

/-- A Node Table entry after power-on reset (R21). -/
def NodeEntry.powerOn : NodeEntry := { role := .any, priority := none, learned := none }

/-- A Frame Class Table entry with no class priority and the longest payload (R26). -/
def ClassEntry.plain (active passive : Action) : ClassEntry :=
  { active := active, passive := passive, priority := none, maxPayload := 240 }

/-- The Frame Class Table after power-on reset (R26). -/
def Fsw.powerOnClasses : Tab ClassEntry 256 :=
  (((Tab.fill 256 (ClassEntry.plain .forward .forward)).set 0x10
    (ClassEntry.plain .snoop .snoop)).set 0x21
    (ClassEntry.plain .snoop .forward)).set 0x30
    (ClassEntry.plain .absorb .forward)

def SwitchStats.zero : SwitchStats :=
  { malformed := 0, ownSource := 0, refused := 0, filtered := 0, hold := none }

/-- The Frame Switch after power-on reset (R40). -/
def Fsw.powerOn : Fsw :=
  { nodes := Tab.fill 63 NodeEntry.powerOn
    classes := Fsw.powerOnClasses
    tagMap := { data := [0, 1, 2, 3, 4, 5, 6, 7], size := rfl }
    weights := { data := [1, 0, 0, 0], size := rfl }
    stats := Both.same SwitchStats.zero }

/-- The octets of a buffer that has held no frame since power-on (log entry 7). -/
def Frame.blank : Frame :=
  { dest := 0, src := 0, kind := 0, tagHop := 0, seq := 0, payload := [], check := 0 }

def Buffer.empty : Buffer := { refs := 0, frame := Frame.blank }

def EgressQueue.empty : EgressQueue := { entries := [], drops := 0, deficit := 0 }

/-- The Port Config after power-on reset (R44). -/
def PortConfig.powerOn : PortConfig :=
  { queueCount := 4, defaultPriority := 0, autoloop := false
    queues :=
      { data :=
          [{ type := .weighted, weight := 1, depth := 32 },
           { type := .weighted, weight := 3, depth := 32 },
           { type := .strict, weight := 1, depth := 32 },
           { type := .strict, weight := 1, depth := 32 }]
        size := rfl } }

def Egress.powerOn : Egress :=
  { queues := Tab.fill 4 EgressQueue.empty, pointer := none, config := PortConfig.powerOn }

/-- The Queue Maps after power-on reset (R45). -/
def Bqm.powerOnMaps : Tab (Tab Nat 8) 4 :=
  { data :=
      [{ data := [0, 0, 0, 0, 0, 0, 0, 0], size := rfl },
       { data := [0, 0, 0, 0, 1, 1, 1, 1], size := rfl },
       { data := [0, 0, 0, 1, 1, 1, 2, 2], size := rfl },
       { data := [0, 0, 1, 1, 2, 2, 3, 3], size := rfl }]
    size := rfl }

/-- The Buffer and Queue Manager after power-on reset (R57). -/
def Bqm.powerOn : Bqm :=
  { pool := Tab.fill 96 Buffer.empty
    egress := Both.same Egress.powerOn
    maps := Bqm.powerOnMaps
    ldq := [], localDrops := 0, ownFailures := 0
    slot := Both.same .notQueued
    resetReply := none }

/-- The Cab Role Unit after power-on reset (R72). -/
def Cru.powerOn : Cru :=
  { role := .inactive, releasing := false, cabs := [], announceTimer := none, claimWindow := none,
    clearTimer := none, releasingTimer := none, pendingKeyOn := false, tableFull := false,
    seq := 0, rejected := 0, lamp := false, flashTimer := none }

/-- The Cab Input Unit after either reset (R88): the levels that the pins and the handle input have and
will have are outside it and stay. -/
def Ciu.cleared (u : Ciu) : Ciu :=
  { u with
    inputs := u.inputs.map fun i => { i with level := false, stability := none }
    window := [], handle := none, fault := false, inRange := none }

/-- A Cab Input Unit after a reset with every pin inactive, the handle input at the analogue ground, and
nothing further coming at them (log entries 6 and 47). -/
def Ciu.unwired : Ciu :=
  { inputs := Tab.fill 9 { pin := false, level := false, stability := none }
    ahead := [], wiper := 0, wiperAhead := []
    window := [], handle := none, fault := false, inRange := none }

/-- The shadow Traction Profile after power-on reset (R93). -/
def Profile.powerOn : Profile :=
  { hb := 120, hn1 := 470, hn2 := 550, hp := 900, maxSpeed := 700, taperBand := 30,
    overspeedMargin := 20, overspeedBrake := -300, holdBrake := -400, blindLimit := 150,
    rateLimit := 30, jerk := 5, slipThreshold := 15, adhesionCut := 100, adhesionRestore := 5,
    deadmanGrace := 15, trainLength := 32, doorCount := 8, vehicleNumber := 1 }

/-- A cleared period record (R89). -/
def PeriodRecord.cleared : PeriodRecord :=
  { dh := 0, dt := 0, c := 0
    flags := { emergency := false, hold := false, blind := false, sand := false } }

/-- Cleared speed facts: unknown, with no V and no S (R82). -/
def SpeedFacts.cleared : SpeedFacts := { v := none, s := none }

/-- The Traction Demand Unit after power-on reset (R88, R105). -/
def Tdu.powerOn : Tdu :=
  { state := .off, d := 0, r := 0, f := 1000, slip := false, seq := 0, periodTimer := none,
    record := PeriodRecord.cleared, periodD := 0, grace := none, slots := Tab.fill 6 none,
    inverterOverflow := false, rejected := 0, facts := SpeedFacts.cleared, movingTime := 0,
    odometer := 0, carry := 0, shadow := Profile.powerOn, live := none }

/-- A loop modem that presents nothing more. -/
def LoopLine.quiet : LoopLine := { cd := [], bits := [], phase := 0 }

/-- A loop receiver that has taken no bit. -/
def LoopFront.start : LoopFront := { heard := [], bits := [], octets := [] }

/-- How long LOOP_TXEN has been low, in thirds of a microsecond up to 625, once it is low now (R114). -/
def Llu.lowFor (u : Llu) : Nat := if u.txen then 0 else u.txHeld

/-- The Loop Link Unit after power-on reset (R119), over the level at LOOP_CD, what the modem will present,
and how long LOOP_TXEN has been low. -/
def Llu.powerOn (cdPin : Bool) (line : LoopLine) (low : Nat) : Llu :=
  { line := line, cdPin := cdPin, carrier := false, filter := none, rx := .idle
    front := LoopFront.start, txen := false, txHeld := low, sending := none, queue := [], test := none
    lastTest := none, good := 0, checkErrors := 0, lengthErrors := 0, rejected := 0
    carrierDiscards := 0, sent := 0, cutOff := 0 }

/-- The shadow Route Table header after power-on reset (R120). -/
def RouteHeader.powerOn : RouteHeader :=
  { run := 1, line := 0, unconfirmed := 100, straightCap := 250, divergingCap := 150,
    junctionLength := 30, count := 0 }

/-- A shadow Route Table entry after power-on reset (R120). -/
def RouteEntry.powerOn : RouteEntry :=
  { junction := 1, direction := .straight, straightCap := none, divergingCap := none,
    junctionLength := none }

/-- The Junction Unit after power-on reset (R140). -/
def Jcu.powerOn : Jcu :=
  { contexts := [], overflow := false, preselection := none, lastIdent := none, unmatched := 0,
    shadowHeader := RouteHeader.powerOn, shadow := Tab.fill 256 RouteEntry.powerOn, live := none,
    routeLamp := false }

/-- The empty record (R141). -/
def StopRecord.empty : StopRecord :=
  { state := .idle, doors := 0, accessible := false, firstPress := none, presses := 0 }

/-- The Stop Request Unit after power-on reset (R149). -/
def Sru.powerOn : Sru :=
  { record := StopRecord.empty, inhibitTimer := none, refreshTimer := none, lamp := false, seq := 0,
    rejected := 0 }

/-- A player with no playing source. DESIGN CHOICE (log entry 48): its step number and its time elapsed
are 0; the spec gives them no value while nothing plays (R154, R159). -/
def Player.stopped : Player := { playing := none, step := 0, elapsed := 0, wave := none }

/-- The Pattern Table after power-on reset (R151). -/
def Snu.powerOnPatterns : Tab (List Step) 16 :=
  { data :=
      [[],
       [{ tone := some 0, duration := 100 }],
       [{ tone := some 7, duration := 25 }, { tone := some 4, duration := 25 }],
       [{ tone := some 6, duration := 8 }, { tone := none, duration := 12 },
        { tone := some 6, duration := 8 }, { tone := none, duration := 40 }],
       [{ tone := some 3, duration := 15 }, { tone := none, duration := 85 }],
       [{ tone := some 5, duration := 10 }, { tone := none, duration := 10 },
        { tone := some 5, duration := 10 }, { tone := none, duration := 70 }],
       [{ tone := some 2, duration := 30 }, { tone := some 1, duration := 50 }],
       [{ tone := some 1, duration := 30 }, { tone := some 2, duration := 30 },
        { tone := some 3, duration := 60 }],
       [], [], [], [], [], [], [], []]
    size := rfl }

/-- The Sound Unit after power-on reset (R159). -/
def Snu.powerOn : Snu :=
  { tones := { data := [392, 523, 659, 784, 880, 1046, 1318, 2000], size := rfl }
    patterns := Snu.powerOnPatterns
    map := { data := [1, 2, 3, 4, 5, 7, 6], size := rfl }
    horn := false, emergency := false, bell := false, warning := false, alertRole := false,
    alertJunction := false, accessChime := false, chime := false
    exterior := Player.stopped, interior := Player.stopped, discarded := 0 }

/-- The starting values of an attribute (R169). -/
def AttrState.start : AttrState :=
  { n := 100, worst := 100, raw := 0, tripped := false, recovery := none }

/-- The attribute configuration after power-on reset (R161). -/
def Cmn.powerOnConfig : Tab AttrConfig 8 :=
  { data :=
      [{ threshold := 0, penalty := 5, interval := 10, testLimit := 4 },
       { threshold := 0, penalty := 5, interval := 10, testLimit := 4 },
       { threshold := 0, penalty := 5, interval := 10, testLimit := 4 },
       { threshold := 40, penalty := 20, interval := 60, testLimit := 4 },
       { threshold := 0, penalty := 5, interval := 30, testLimit := 4 },
       { threshold := 40, penalty := 20, interval := 60, testLimit := 4 },
       { threshold := 0, penalty := 10, interval := 30, testLimit := 4 },
       { threshold := 0, penalty := 10, interval := 60, testLimit := 4 }]
    size := rfl }

/-- The empty log (R169). -/
def FaultLog.empty : FaultLog := { places := Tab.fill 32 none, pointer := 0, held := 0, total := 0 }

/-- The Condition Monitor after power-on reset (R169). -/
def Cmn.powerOn : Cmn :=
  { attrs := Tab.fill 8 AttrState.start, config := Cmn.powerOnConfig, log := FaultLog.empty,
    partTime := 0, micros := 0, faultLamp := false }

/-- The Management Unit after power-on reset (R180). The report timer runs only while the part is
addressed (R177). -/
def Mgu.powerOn (own : Addr) : Mgu :=
  { manager := 1, interval := 500, reportTimer := if own = 63 then none else some 500, reportSeq := 0,
    pendingReset := none, executed := 0, refused := 0 }

end Sys2Proof.Machine
end

