-- ==== Sys2Proof/Machine/State.lean ====
section
/-! DEFINITION. The state of the LW3260: the state of its units, the queue of waiting commands, the
reasons to stop, and the state after power-on reset. -/

namespace Sys2Proof.Machine

/-! ### The whole part -/

/-- The state of the part. `pending` is the queue of commands not yet taken, and `free` counts the
free values already drawn: both are the model's own fields. -/
structure State where
  /-- the own address, read from the straps; 63 is the unaddressed part -/
  own : Addr
  ports : Both LinePort
  fsw : Fsw
  bqm : Bqm
  cru : Cru
  ciu : Ciu
  tdu : Tdu
  llu : Llu
  jcu : Jcu
  sru : Sru
  snu : Snu
  cmn : Cmn
  mgu : Mgu
  pending : List Instr
  free : Nat
  deriving DecidableEq, Repr

/-- Reasons to stop with a fault: none. The spec describes no event that stops the part, so this
type has no constructor, and no step of the model faults. -/
inductive Fault
  deriving DecidableEq, Repr

/-- Reasons to refuse a command. -/
inductive Refusal
  /-- Raised only by an arm of `exec` whose command has no meaning yet; safe, since nothing follows. -/
  | notModelled (mnemonic : String)
  deriving DecidableEq, Repr

/-- The part after a power-on reset that finds `straps` at ADDR0..ADDR5, over the input pins of `ciu` and the
loop modem of `llu`. -/
def State.powerOn (straps : Addr) (ciu : Ciu) (llu : Llu) : State :=
  { own := straps
    ports := Both.same LinePort.powerOn
    fsw := Fsw.powerOn
    bqm := Bqm.powerOn
    cru := Cru.powerOn
    ciu := ciu.cleared
    tdu := Tdu.powerOn
    llu := Llu.powerOn llu.cdPin llu.line llu.lowFor
    jcu := Jcu.powerOn
    sru := Sru.powerOn
    snu := Snu.powerOn
    cmn := Cmn.powerOn
    mgu := Mgu.powerOn straps
    pending := []
    free := 0 }

/-- The part right after power-on reset, with the straps at 0, every input pin inactive, the handle input
at the analogue ground, LOOP_CD low, nothing further coming at them, and LOOP_TXEN low from now on (log
entries 5, 6, 25 and 47). -/
def State.reset : State :=
  State.powerOn 0 Ciu.unwired (Llu.powerOn false LoopLine.quiet 0)

end Sys2Proof.Machine
end

