-- ==== Sys2Proof/Machine/Operands.lean ====
section
/-! DEFINITION. The formats of frames and telegrams (R181 to R184): header fields, checks, kinds, the
codes of the enumerations, and the payloads the part reads. -/

namespace Sys2Proof.Machine

/-! ### Frames -/

/-- The node address an address octet names. Octets 0..63 are addresses; what the part takes an
octet above 63 for is a free value (log entry 4). -/
def addrOf (b : Byte) : Addr := if b.toNat ≤ 63 then b.setWidth 6 else Config.wideAddress b

/-- The broadcast destination and invalid source (R3). -/
def broadcast : Addr := 63

def frameTag (f : Frame) : Nat := f.tagHop.toNat / 32

def frameHop (f : Frame) : Nat := f.tagHop.toNat % 32

/-- The octets the check of a frame covers: dest through the last payload octet (R3). -/
def frameBody (f : Frame) : List Byte :=
  [f.dest, f.src, f.kind, f.tagHop, f.seq, BitVec.ofNat 8 f.payload.length] ++ f.payload

/-- The check computed over a frame (R3). -/
def frameCheck (f : Frame) : Half := checkOf (frameBody f)

/-- The frame with its check computed. -/
def sealFrame (f : Frame) : Frame := { f with check := frameCheck f }

/-- The octets a frame occupies on the wire, start pair to check (R3). -/
def frameSize (f : Frame) : Nat := f.payload.length + 10

/-- A forwarded frame: the hop reduced by one and the check recomputed (R33). -/
def forwardRewrite (f : Frame) : Frame := sealFrame { f with tagHop := f.tagHop - 1 }

/-! The fixed kinds and the fixed priorities of the part's own frames (R25). -/

def kindCabAnnounce : Byte := 0x10
def kindTractionDemand : Byte := 0x20
def kindInverterStatus : Byte := 0x21
def kindStopPress : Byte := 0x30
def kindStopIndicate : Byte := 0x31
def kindControl : Byte := 0x70
def kindReply : Byte := 0x71
def kindStatusReport : Byte := 0x72

def priorityDemand : Nat := 7
def priorityAnnounce : Nat := 6
def priorityIndicate : Nat := 4
def priorityReply : Nat := 3
def priorityReport : Nat := 2

/-- An own frame: the own address as src, hop 31, the tag equal to its priority, its check computed
(R25). -/
def ownFrame (own : Addr) (dest : Byte) (kind : Byte) (priority : Nat) (seq : Byte)
    (payload : List Byte) : Frame :=
  sealFrame
    { dest := dest, src := own.setWidth 8, kind := kind
      tagHop := BitVec.ofNat 8 (priority * 32 + 31), seq := seq, payload := payload, check := 0 }

/-! ### Codes of the enumerations (R181, and R173 for those it does not code) -/

def codeRole : Role → Nat
  | .inactive => 1 | .passive => 2 | .claiming => 3 | .active => 4 | .blocked => 5 | .conflict => 6

def codeAnnounced : Announced → Nat
  | .claiming => 3 | .active => 4 | .conflict => 6

def announcedOf (n : Nat) : Option Announced :=
  if n = 3 then some .claiming else if n = 4 then some .active else if n = 6 then some .conflict
  else none

def codeTraction : TractionState → Nat
  | .off => 1 | .run => 2 | .hold => 3 | .emergency => 4

def codeCtx : CtxState → Nat
  | .noRoute => 1 | .requesting => 2 | .accepted => 3 | .refused => 4 | .unanswered => 5 | .set => 6
  | .mismatch => 7 | .passed => 8

def codeDirection : Direction → Nat
  | .left => 1 | .straight => 2 | .right => 3

def directionOf (n : Nat) : Option Direction :=
  if n = 1 then some .left else if n = 2 then some .straight else if n = 3 then some .right else none

def codeMode : PortMode → Nat
  | .normal => 1 | .localLoopback => 2 | .remoteLoopback => 3 | .disabled => 4

def codeRx : RxState → Nat
  | .down => 1 | .hunt => 2 | .frame _ => 3

def codeTx : TxState → Nat
  | .fill => 1 | .sending _ => 2 | .silent => 3

/-- The code of a loop-code setting. DESIGN CHOICE (log entry 36): NONE is a setting with its place
among the three and is sent as 1, and not as an absent value of all ones (R12, R173). -/
def codeLoopCode : LoopCode → Nat
  | .none => 1 | .loopup => 2 | .loopdown => 3

def codeNodeRole : NodeRole → Nat
  | .any => 1 | .none => 2 | .vcu => 3 | .inverter => 4 | .stopPanel => 5 | .cab => 6 | .other => 7

def nodeRoleOf (n : Nat) : Option NodeRole :=
  if n = 1 then some .any else if n = 2 then some .none else if n = 3 then some .vcu
  else if n = 4 then some .inverter else if n = 5 then some .stopPanel else if n = 6 then some .cab
  else if n = 7 then some .other else none

def codeAction : Action → Nat
  | .forward => 1 | .absorb => 2 | .snoop => 3 | .drop => 4

def actionOf (n : Nat) : Option Action :=
  if n = 1 then some .forward else if n = 2 then some .absorb else if n = 3 then some .snoop
  else if n = 4 then some .drop else none

def codeQueueType : QueueType → Nat
  | .strict => 1 | .weighted => 2

def queueTypeOf (n : Nat) : Option QueueType :=
  if n = 1 then some .strict else if n = 2 then some .weighted else none

def permitOf (n : Nat) : Option Bool :=
  if n = 0 then some false else if n = 1 then some true else none

def codePort : Port → Nat
  | .A => 1 | .B => 2

def codeInverter : InverterState → Nat
  | .ready => 1 | .fault => 2 | .isolated => 3

def inverterOf (n : Nat) : Option InverterState :=
  if n = 1 then some .ready else if n = 2 then some .fault else if n = 3 then some .isolated
  else none

/-- The state field of a STOP_INDICATE (R145, R182): OFF for IDLE and INHIBIT. -/
def codeIndicate : StopState → Nat
  | .idle => 0 | .requested => 1 | .serving => 2 | .inhibit => 0

/-- The four record states by their place in the list of R141 (R173; log entry 17). -/
def codeStop : StopState → Nat
  | .idle => 1 | .requested => 2 | .serving => 3 | .inhibit => 4

def codeLoopRx : LoopRx → Nat
  | .idle => 1 | .hunt => 2 | .telegram => 3

def codeDirSource : DirSource → Nat
  | .table => 1 | .manual => 2

def codePointStatus : PointStatus → Nat
  | .none => 1 | .moving => 2 | .set .left => 3 | .set .straight => 4 | .set .right => 5 | .fault => 6

def pointStatusOf (n : Nat) : Option PointStatus :=
  if n = 1 then some .none else if n = 2 then some .moving else if n = 3 then some (.set .left)
  else if n = 4 then some (.set .straight) else if n = 5 then some (.set .right)
  else if n = 6 then some .fault else none

/-- The place of a source in the list of R153, from 0; its Sound Map entry has the same place. -/
def Source.index : Source → Nat
  | .horn => 0 | .emergency => 1 | .bell => 2 | .warning => 3 | .cabAlert => 4 | .accessChime => 5
  | .chime => 6

/-- The place of an input in the list of R75, from 0. -/
def inputIndex : Input → Nat
  | .key => 0 | .deadman => 1 | .estop => 2 | .doorRelease => 3 | .horn => 4 | .bell => 5
  | .routeLeft => 6 | .routeStraight => 7 | .routeRight => 8

/-- The place of an attribute, from 0: its id less one (R160). -/
def attrIndex : Attr → Nat
  | .portALine => 0 | .portBLine => 1 | .buffer => 2 | .loopLink => 3 | .loopCheck => 4
  | .speedSource => 5 | .adhesion => 6 | .stopPanel => 7

/-- The line attribute of a port (R7). -/
def lineAttr : Port → Attr
  | .A => .portALine
  | .B => .portBLine

/-- The block of a port in the Fault Log (R167). -/
def portBlock : Port → Block
  | .A => .lpa
  | .B => .lpb

def codeLogKind : LogKind → Nat
  | .emergencyBrake => 1 | .deadman => 2 | .handleFault => 3 | .roleConflict => 4
  | .keyOffMoving => 5 | .profileMissing => 6 | .cabTableFull => 7 | .inverterOverflow => 8
  | .demandNotSent => 9 | .loopDetected => 10 | .portDown => 11 | .portUp => 12
  | .autoloopEnter => 13 | .autoloopExit => 14 | .junctionUnanswered => 15
  | .junctionRefused => 16 | .junctionMismatch => 17 | .junctionTimeout => 18 | .clearMissed => 19
  | .contextFull => 20 | .routeChangeRefused => 21 | .routeTableMissing => 22 | .testPass => 23
  | .testFail => 24 | .attributeTripped => 25 | .attributeRecovered => 26 | .controlReset => 27

def codeBlock : Block → Nat
  | .lpa => 1 | .lpb => 2 | .fsw => 3 | .bqm => 4 | .cru => 5 | .ciu => 6 | .tdu => 7 | .llu => 8
  | .jcu => 9 | .sru => 10 | .snu => 11 | .cmn => 12 | .mgu => 13

/-! ### Payloads the part reads and writes (R182) -/

/-- The payload of a CAB_ANNOUNCE. -/
def announcePayload (role : Announced) (keyOn : Bool) (vehicle : Int) : List Byte :=
  oct1 (codeAnnounced role) ++ octFlag keyOn ++ octS2 vehicle

/-- The announced role of a CAB_ANNOUNCE; none when the payload is short or the role is not one of
the three (R60). -/
def announceRole (payload : List Byte) : Option Announced :=
  if payload.length < 4 then none else announcedOf (num1 payload 0)

/-- The fields of an INVERTER_STATUS: speed, effort, state; none when it is rejected (R79). -/
def inverterReport (payload : List Byte) : Option (Int × Int × InverterState) :=
  if payload.length < 5 then none
  else
    let speed : Int := (num2 payload 0 : Int)
    let effort := numS2 payload 2
    if speed > 1000 ∨ effort < -1000 ∨ effort > 1000 then none
    else (inverterOf (num1 payload 4)).map fun st => (speed, effort, st)

/-- The fields of a STOP_PRESS: door number, and whether the button is ACCESSIBLE; none when it is
rejected (R142). -/
def stopPress (payload : List Byte) : Option (Nat × Bool) :=
  if payload.length < 2 then none
  else if num1 payload 1 = 1 then some (num1 payload 0, false)
  else if num1 payload 1 = 2 then some (num1 payload 0, true)
  else none

/-- The flags octet of a TRACTION_DEMAND. -/
def flagsOctet (g : DemandFlags) : Nat :=
  (if g.emergency then 1 else 0) + (if g.hold then 2 else 0) + (if g.blind then 4 else 0) +
    (if g.sand then 8 else 0)

/-- The payload of a TRACTION_DEMAND. -/
def demandPayload (d : Int) (g : DemandFlags) (c v f : Int) (seq : Byte) : List Byte :=
  octS2 d ++ oct1 (flagsOctet g) ++ octS2 c ++ octS2 v ++ octS2 f ++ [seq]

/-- The payload of a STOP_INDICATE. -/
def indicatePayload (r : StopRecord) : List Byte :=
  oct1 (codeIndicate r.state) ++ oct2 r.doors.toNat ++ octFlag r.accessible

/-- The payload of a REPLY before the data it returns (R183). -/
def replyHead (command : Byte) (status reason figure : Nat) : List Byte :=
  [command] ++ oct1 status ++ oct1 reason ++ oct2 figure

/-! ### Loop telegrams (R108, R184) -/

/-- The octets the check of a telegram covers: type through the last field (R108). -/
def telegramBody (t : Telegram) : List Byte :=
  [t.kind, BitVec.ofNat 8 t.fields.length] ++ t.fields

/-- The check computed over a telegram. -/
def telegramCheck (t : Telegram) : Half := checkOf (telegramBody t)

/-- The kind of a LOOP_IDENT (R112). -/
inductive LoopKind
  | request
  | clear
  | test
  deriving DecidableEq, Repr

/-- The result of a POINT_REPLY; a refusal carries its reason 1 OCCUPIED, 2 FAULT, 3 NOT_AVAILABLE
(R113). -/
inductive ReplyResult
  | accepted
  | refused (reason : Nat)
  deriving DecidableEq, Repr

/-- An accepted telegram (R111). -/
inductive LoopMessage
  | ident (kind : LoopKind) (junction : Nat) (status : PointStatus) (lockedRun : Nat)
  | reply (junction : Nat) (run : Nat) (result : ReplyResult)
  deriving DecidableEq, Repr

def loopKindOf (n : Nat) : Option LoopKind :=
  if n = 1 then some .request else if n = 2 then some .clear else if n = 3 then some .test else none

/-- Whether a junction number lies in 1..4095 (R112, R113). -/
def junctionOk (j : Nat) : Bool := decide (1 ≤ j ∧ j ≤ 4095)

/-- The fields of a LOOP_IDENT, or none when one is out of range (R111, R112). -/
def identOf (l : List Byte) : Option LoopMessage :=
  if l.length ≠ 6 ∨ junctionOk (num2 l 1) = false then none
  else
    match loopKindOf (num1 l 0), pointStatusOf (num1 l 3) with
    | some k, some st => some (.ident k (num2 l 1) st (num2 l 4))
    | _, _ => none

/-- The fields of a POINT_REPLY, or none when its length or a field is out of range (R111, R113). -/
def pointReplyOf (l : List Byte) : Option LoopMessage :=
  if junctionOk (num2 l 0) = false ∨ num2 l 2 = 0 then none
  else if num1 l 4 = 1 ∧ l.length = 5 then some (.reply (num2 l 0) (num2 l 2) .accepted)
  else if num1 l 4 = 2 ∧ l.length = 6 ∧ 1 ≤ num1 l 5 ∧ num1 l 5 ≤ 3 then
    some (.reply (num2 l 0) (num2 l 2) (.refused (num1 l 5)))
  else none

/-- What a good telegram says; none when it is rejected (R111). -/
def loopMessage (t : Telegram) : Option LoopMessage :=
  if t.kind = 1 then identOf t.fields
  else if t.kind = 2 then pointReplyOf t.fields
  else none

/-- The POINT_REQUEST telegram of a request (R184). -/
def pointRequestTelegram (q : SendingRequest) : Telegram :=
  let fields := oct2 q.request.junction ++ oct1 (codeDirection q.request.direction) ++ oct2 q.run ++
    octS2 q.vehicle ++ oct1 q.request.attempt
  let t : Telegram := { kind := 3, fields := fields, check := 0 }
  { t with check := telegramCheck t }

end Sys2Proof.Machine
end

