-- ==== Sys2Proof/Machine/Line.lean ====
section
/-! DEFINITION. What stands on the wires: the Manchester code (R1), the start and fill pairs (R2), the
octets of a frame (R3), the receiver's recognition of a pair (R5), and the telegram start of the loop
(R108, R109). Machine/Clock.lean runs the line bit by bit; the commands of the loop begin where its bits
have been recognised (log entry 24). -/

namespace Sys2Proof.Machine

/-! ### The train line -/

/-- The bits of an octet in the order sent: least significant bit first (R1). -/
def octetBits (b : Byte) : List Bool := (List.range 8).map fun i => b.getLsbD i

/-- The bits of a run of octets in the order sent. -/
def lineBits (l : List Byte) : List Bool := l.flatMap octetBits

/-- The levels of the two halves of a bit time: a one goes high to low, a zero low to high (R1). -/
def manchester (bit : Bool) : Bool × Bool := (bit, !bit)

/-- A bit time is valid when its middle has a transition, and is a code violation otherwise (R1). -/
def validBitTime (h : Bool × Bool) : Bool := h.1 != h.2

/-- The start pair (R2). -/
def startPair : List Byte := [0xC7, 0x1E]

/-- The pair of a fill pattern (R2). -/
def fillPair : LoopCode → List Byte
  | .none => [0xF0, 0x0F]
  | .loopup => [0xCC, 0xCC]
  | .loopdown => [0xE0, 0xE0]

/-- What a receiver in HUNT finds in its last 16 bits (R5). -/
inductive Found
  | start
  | fill (c : LoopCode)
  | nothing
  deriving DecidableEq, Repr

/-- The comparison of the last 16 bits with the start pair and the three fill pairs (R5). -/
def recognise (bits : List Bool) : Found :=
  if bits = lineBits startPair then .start
  else if bits = lineBits (fillPair .none) then .fill .none
  else if bits = lineBits (fillPair .loopup) then .fill .loopup
  else if bits = lineBits (fillPair .loopdown) then .fill .loopdown
  else .nothing

/-- The 16 bits found at bit offset `k` of an unbroken stream of one fill pattern. -/
def fillWindow (c : LoopCode) (k : Nat) : List Bool :=
  ((lineBits (fillPair c ++ fillPair c)).drop k).take 16

/-- The octets of a frame on the wire: start pair, header, payload, check low octet first (R3). -/
def wireOctets (f : Frame) : List Byte := startPair ++ frameBody f ++ oct2 f.check.toNat

/-- The time a frame lasts on the wire, in microseconds (R3). -/
def frameMicros (f : Frame) : Nat := frameSize f * 8

/-- What a port's transmitter is sending (R11, R12): a fill pair, the octets of the frame in transmission
after the fill pair due before it, or no transitions at all. -/
def lineOutput (s : State) (p : Port) : Option (List Byte) :=
  match (s.ports.get p).tx with
  | .fill => some (fillPair (s.ports.get p).fill)
  | .sending b =>
    some ((if (s.ports.get p).lead then fillPair (s.ports.get p).fill else []) ++
      wireOctets (s.bqm.pool.get b Buffer.empty).frame)
  | .silent => none

/-- The bit a transmitter sends in this bit time; none while it is SILENT (R11). -/
def lineBit (s : State) (p : Port) : Option Bool :=
  (lineOutput s p).map fun l => (lineBits l).getD (s.ports.get p).pos false

/-- The octet whose bits came in this order, least significant bit first (R1). -/
def octetOf (bits : List Bool) : Byte := BitVec.ofNat 8 (packBits bits)

/-- The frame whose header, payload of `n` octets and check these are (R3). -/
def frameOf (n : Nat) (l : List Byte) : Frame :=
  { dest := octetAt l 0, src := octetAt l 1, kind := octetAt l 2, tagHop := octetAt l 3
    seq := octetAt l 4, payload := (l.drop 6).take n
    check := BitVec.ofNat 16 (num2 l (6 + n)) }

/-! ### The track loop -/

/-- The preamble of a telegram: 16 alternating bits beginning with a one (R108). -/
def preamble : List Bool := (List.range 16).map fun i => i % 2 == 0

/-- The loop start pair (R108). -/
def loopStartPair : List Byte := [0x3C, 0xA5]

/-- The bits of a telegram on the loop (R108). -/
def telegramBits (t : Telegram) : List Bool :=
  preamble ++ lineBits (loopStartPair ++ telegramBody t ++ oct2 t.check.toNat)

/-- Every two neighbouring bits differ. -/
def alternating : List Bool → Bool
  | a :: b :: l => (a != b) && alternating (b :: l)
  | _ => true

/-- A telegram start ends at the last of these received bits: at least 12 alternating bits followed
at once by the loop start pair (R109). -/
def telegramStartAt (bits : List Bool) : Bool :=
  let last := bits.drop (bits.length - 28)
  decide (28 ≤ bits.length) && alternating (last.take 12) &&
    decide (last.drop 12 = lineBits loopStartPair)

/-- The bits LOOP_TXD sends while LOOP_TXEN is high (R114). -/
def loopOutput (s : State) : Option (List Bool) :=
  s.llu.sending.map fun q => telegramBits (pointRequestTelegram q)

/-- The bit at LOOP_TXD now; none while LOOP_TXEN is low (R114). -/
def loopBit (s : State) : Option Bool :=
  (loopOutput s).map fun l => l.getD (s.llu.txHeld / 625) false

end Sys2Proof.Machine
end

