-- ==== Sys2Proof/Machine/Sound.lean ====
section
/-! DEFINITION. The Sound Unit (Chapter 10): requests, arbitration, the channel players, and the table
writes that touch a playing source. -/

namespace Sys2Proof.Machine

/-- The kinds of source (R153). -/
inductive SourceKind
  | condition
  | bell
  | event
  deriving DecidableEq, Repr

def sourceKind : Source → SourceKind
  | .bell => .bell
  | .accessChime => .event
  | .chime => .event
  | _ => .condition

/-- The sources of a channel, highest precedence first (R153). -/
def channelSources : Channel → List Source
  | .exterior => [.horn, .emergency, .bell, .warning]
  | .interior => [.cabAlert, .accessChime, .chime]

def sourceChannel : Source → Channel
  | .cabAlert => .interior
  | .accessChime => .interior
  | .chime => .interior
  | _ => .exterior

def Snu.player (u : Snu) : Channel → Player
  | .exterior => u.exterior
  | .interior => u.interior

def Snu.setPlayer (u : Snu) (c : Channel) (x : Player) : Snu :=
  match c with
  | .exterior => { u with exterior := x }
  | .interior => { u with interior := x }

/-- The request state of a source: active, or holding a standing request (R153). -/
def Snu.requested (u : Snu) : Source → Bool
  | .horn => u.horn
  | .emergency => u.emergency
  | .bell => u.bell
  | .warning => u.warning
  | .cabAlert => u.alertRole || u.alertJunction
  | .accessChime => u.accessChime
  | .chime => u.chime

/-- The request of a bell or event source ends. -/
def Snu.endRequest (u : Snu) : Source → Snu
  | .bell => { u with bell := false }
  | .accessChime => { u with accessChime := false }
  | .chime => { u with chime := false }
  | _ => u

/-- The request of a bell or event source stands. -/
def Snu.standRequest (u : Snu) : Source → Snu
  | .bell => { u with bell := true }
  | .accessChime => { u with accessChime := true }
  | .chime => { u with chime := true }
  | _ => u

def Snu.pattern (u : Snu) (n : Nat) : List Step := u.patterns.get n []

def Snu.mapped (u : Snu) (x : Source) : Nat := u.map.get x.index 0

/-- A source's pattern, as the tables hold it now (R152). -/
def Snu.patternOf (u : Snu) (x : Source) : List Step := u.pattern (u.mapped x)

/-- A source takes part when its request stands and its pattern is not empty (R154). -/
def Snu.takesPart (u : Snu) (x : Source) : Bool := u.requested x && !(u.patternOf x).isEmpty

/-- The winner of a channel (R154). -/
def Snu.winner (u : Snu) (c : Channel) : Option Source := (channelSources c).find? u.takesPart

/-- An event request discarded and counted (R156). -/
def Snu.discard (u : Snu) (x : Source) : Snu := { u.endRequest x with discarded := bump u.discarded }

/-- A source that is preempted: an event request is discarded, any other keeps its request (R156). -/
def Snu.preempt (u : Snu) (x : Source) : Snu :=
  if sourceKind x = .event ∧ u.requested x then u.discard x else u

/-- The channel decides its winner anew (R154): the playing source continues where it still wins;
otherwise it is stopped, preempted where its request still stands, and the winner starts at step 0. With no
winner the step number and the time elapsed are 0 too (DESIGN CHOICE, log entry 48). -/
def Snu.arbitrate (u : Snu) (c : Channel) : Snu :=
  let w := u.winner c
  if w = (u.player c).playing then u
  else
    (match (u.player c).playing with
      | none => u
      | some x => u.preempt x).setPlayer c { u.player c with playing := w, step := 0, elapsed := 0 }

/-- Both channels decide their winners anew. -/
def Snu.arbitrateBoth (u : Snu) : Snu := (u.arbitrate .exterior).arbitrate .interior

def Snu.setHorn (u : Snu) (on : Bool) : Snu := Snu.arbitrate { u with horn := on } .exterior

def Snu.setEmergency (u : Snu) (on : Bool) : Snu := Snu.arbitrate { u with emergency := on } .exterior

def Snu.setWarning (u : Snu) (on : Bool) : Snu := Snu.arbitrate { u with warning := on } .exterior

/-- The Cab Role Unit's claim of CAB_ALERT (R69). -/
def Snu.setAlertRole (u : Snu) (on : Bool) : Snu := Snu.arbitrate { u with alertRole := on } .interior

/-- The Junction Unit's claim of CAB_ALERT (R137). -/
def Snu.setAlertJunction (u : Snu) (on : Bool) : Snu :=
  Snu.arbitrate { u with alertJunction := on } .interior

/-- A bell press taken with the key on (R153); an empty pattern ends the request as it is made
(R155). -/
def Snu.pressBell (u : Snu) : Snu :=
  if u.bell ∨ (u.patternOf .bell).isEmpty then u else (u.standRequest .bell).arbitrate .exterior

/-- A request of an event source (R153, R155, R156): nothing is added to a standing request, an empty
pattern ends it as it is made, and one that is not the winner is discarded. DESIGN CHOICE (log entry 35):
a request with an empty pattern ends by R155, uncounted, also while a source of higher precedence plays,
where R156 would discard and count it. -/
def Snu.requestEvent (u : Snu) (x : Source) : Snu :=
  if u.requested x ∨ (u.patternOf x).isEmpty then u
  else
    let v := u.standRequest x
    if v.winner (sourceChannel x) = some x then v.arbitrate (sourceChannel x) else v.discard x

/-- The player of a channel starts its playing source's pattern again at step 0. -/
def Snu.restart (u : Snu) (c : Channel) : Snu :=
  u.setPlayer c { u.player c with step := 0, elapsed := 0 }

/-- The end of a playing (R155); `held` says that the bell button is pressed and the key on. -/
def Snu.playingEnd (u : Snu) (c : Channel) (x : Source) (held : Bool) : Snu :=
  match sourceKind x with
  | .condition => u.restart c
  | .event => (u.endRequest x).arbitrate c
  | .bell => if held then u.restart c else (u.endRequest x).arbitrate c

/-- The end of a step of a channel (R154, R155). -/
def Snu.stepEnd (u : Snu) (c : Channel) (held : Bool) : Snu :=
  match (u.player c).playing with
  | none => u
  | some x =>
    if (u.player c).step + 1 < (u.patternOf x).length then
      u.setPlayer c { u.player c with step := (u.player c).step + 1, elapsed := 0 }
    else u.playingEnd c x held

/-- A playing source that a table write has touched (R157): an event is discarded; a bell request with
an empty pattern ends; any other restarts, or stops taking part when its pattern is empty. -/
def Snu.touched (u : Snu) (c : Channel) (x : Source) : Snu :=
  match sourceKind x with
  | .event => u.discard x
  | .bell => if (u.patternOf x).isEmpty then u.endRequest x else u.restart c
  | .condition => if (u.patternOf x).isEmpty then u else u.restart c

/-- The playing source of a channel, handled when the write has touched it. -/
def Snu.afterWrite (u : Snu) (c : Channel) (touches : Source → Bool) : Snu :=
  match (u.player c).playing with
  | none => u
  | some x => if touches x then u.touched c x else u

/-- A waiting bell request whose pattern a write has emptied ends (R155; log entry 21). -/
def Snu.dropEmptyBell (u : Snu) : Snu := if (u.patternOf .bell).isEmpty then u.endRequest .bell else u

/-- What follows a Pattern Table or Sound Map write (R157): touched players, then a new decision of
both channels. -/
def Snu.settleWrite (u : Snu) (touches : Source → Bool) : Snu :=
  (((u.afterWrite .exterior touches).afterWrite .interior touches).dropEmptyBell).arbitrateBoth

/-- A Pattern Table write (R151, R157). -/
def Snu.writePattern (u : Snu) (n : Nat) (steps : List Step) : Snu :=
  Snu.settleWrite { u with patterns := u.patterns.set n steps } fun x => u.mapped x == n

/-- A Sound Map write (R152, R157). -/
def Snu.writeMap (u : Snu) (m : Tab Nat 7) : Snu :=
  Snu.settleWrite { u with map := m } fun x => u.mapped x != m.get x.index 0

/-- The step a channel's player is in. -/
def Snu.currentStep (u : Snu) (c : Channel) : Option Step :=
  match (u.player c).playing with
  | none => none
  | some x => (u.patternOf x)[(u.player c).step]?

/-- The tone a channel sounds: none while it rests or plays nothing (R150, R154). -/
def Snu.soundingTone (u : Snu) (c : Channel) : Option Nat := (u.currentStep c).bind fun st => st.tone

/-- The wave on an output that sounds tone `t` now: the wave under way while it is of this tone, so that
steps of one tone follow without a gap (R154), else a wave that begins with its high half. DESIGN CHOICE
(log entry 33): the wave under way is also the one before a rest, a silence or another tone that lasted no
bit time, with the frequency it had, its tone written meanwhile or not. -/
def Snu.waveOf (u : Snu) (c : Channel) (t : Nat) : Wave :=
  match (u.player c).wave with
  | some w => if w.tone = t then w else { tone := t, high := true, hz := u.tones.get t 0, phase := 0 }
  | none => { tone := t, high := true, hz := u.tones.get t 0, phase := 0 }

/-- TONE-X and TONE-I: the frequency of the present half-period of the tone sounding, or none while the
output is held low (R150). -/
def Snu.toneOutput (u : Snu) (c : Channel) : Option Nat :=
  (u.soundingTone c).map fun t => (u.waveOf c t).hz

/-- The level at TONE-X or TONE-I: high for half of each period and low for the other half while a tone
sounds, and low while none does (R150). -/
def Snu.toneLevel (u : Snu) (c : Channel) : Bool :=
  match u.soundingTone c with
  | some t => (u.waveOf c t).high
  | none => false

/-- The wave on an output set down as it now is, where it has sounded for no bit time yet. DESIGN CHOICE
(log entry 33): a channel that rests or is silent keeps the wave it had until the next bit time passes, so
that the same tone, sounded again before that, goes on with it, and a frequency written in between sounds
from its next half-period. -/
def Snu.fixWave (u : Snu) (c : Channel) : Snu :=
  match u.soundingTone c with
  | some t => u.setPlayer c { u.player c with wave := some (u.waveOf c t) }
  | none => u

/-- A Tone Table write: the present half-period of a tone that sounds keeps its frequency (R150, R157). -/
def Snu.writeTone (u : Snu) (n : Nat) (hz : Nat) : Snu :=
  let v := (u.fixWave .exterior).fixWave .interior
  { v with tones := v.tones.set n hz }

/-- A wave one microsecond later. A half-period ends when 1 / (2 f) has passed, and the next one has the
frequency that the table holds then (R150). -/
def Wave.next (w : Wave) (hz : Nat) : Wave :=
  if 1000000 ≤ w.phase + 2 * w.hz then
    { w with high := !w.high, hz := hz, phase := w.phase + 2 * w.hz - 1000000 }
  else { w with phase := w.phase + 2 * w.hz }

/-- A channel's output one microsecond later. -/
def Snu.clockChannel (u : Snu) (c : Channel) : Snu :=
  u.setPlayer c { u.player c with
    wave := (u.soundingTone c).map fun t => (u.waveOf c t).next (u.tones.get t 0) }

/-- Both outputs one microsecond later. -/
def Snu.clock (u : Snu) : Snu := (u.clockChannel .exterior).clockChannel .interior

/-- The time a channel has left in its step, in milliseconds (R154). -/
def Snu.stepLeft (u : Snu) (c : Channel) : Option Nat :=
  (u.currentStep c).map fun st => st.duration * 10 - (u.player c).elapsed

end Sys2Proof.Machine
end

