-- ==== Sys2Proof/Machine/Monitor.lean ====
section
/-! DEFINITION. The Condition Monitor (Chapter 11): the Fault Log, the attributes with their trip and
recovery judgements, and the FAULT lamp. -/

namespace Sys2Proof.Machine

/-! ### The Fault Log -/

/-- A log figure above the top of the value's range is held at the top (R167). -/
def holdValue (i : LogInfo) : LogInfo := { i with value := i.value.map fun v => min v 2147483647 }

/-- The pointer after one more entry (R166 step 1). -/
def nextPlace (pointer : Nat) : Nat := if pointer = 0 ∨ pointer = 32 then 1 else pointer + 1

/-- An append, in the four steps of R166. -/
def FaultLog.append (l : FaultLog) (time : Word) (i : LogInfo) : FaultLog :=
  let pointer := nextPlace l.pointer
  let total := if l.total < 65535 then l.total + 1 else l.total
  { places := l.places.set (pointer - 1)
      (some { number := total, time := time, info := holdValue i })
    pointer := pointer
    held := if l.held < 32 then l.held + 1 else l.held
    total := total }

/-- The entry `k` places back from the newest, newest being 0 (R166). -/
def FaultLog.back (l : FaultLog) (k : Nat) : Option LogEntry :=
  l.places.get ((l.pointer + 31 - k) % 32) none

/-- The newest `n` entries, newest first, as many as the log holds (R173). -/
def FaultLog.newest (l : FaultLog) (n : Nat) : List LogEntry :=
  ((List.range (min n l.held)).map fun k => l.back k).filterMap id

/-- An entry appended with part time as it stands (R165, R166). -/
def Cmn.note (c : Cmn) (i : LogInfo) : Cmn := { c with log := c.log.append c.partTime i }

/-! ### Attributes -/

def Cmn.attr (c : Cmn) (a : Attr) : AttrState := c.attrs.get (attrIndex a) AttrState.start

def Cmn.attrConfig (c : Cmn) (a : Attr) : AttrConfig :=
  c.config.get (attrIndex a) { threshold := 0, penalty := 1, interval := 1, testLimit := 0 }

def Cmn.setAttr (c : Cmn) (a : Attr) (x : AttrState) : Cmn :=
  { c with attrs := c.attrs.set (attrIndex a) x }

def Cmn.tripped (c : Cmn) (a : Attr) : Bool := (c.attr a).tripped

/-- The FAULT lamp follows the flags of the two PREFAILURE attributes (R164). -/
def Cmn.relamp (c : Cmn) : Cmn :=
  { c with faultLamp := c.tripped .loopLink || c.tripped .speedSource }

/-- A tripped flag is changed, its entry appended and the lamp set (R163, R164). -/
def Cmn.setTripped (c : Cmn) (a : Attr) (up : Bool) : Cmn :=
  ((c.setAttr a { c.attr a with tripped := up }).note
    { kind := if up then .attributeTripped else .attributeRecovered, block := .cmn
      value := some (attrIndex a + 1 : Nat) }).relamp

/-- The trip judgement of R163. -/
def Cmn.judgeTrip (c : Cmn) (a : Attr) : Cmn :=
  if (c.attr a).tripped = false ∧ (c.attrConfig a).threshold ≠ 0 ∧
      (c.attr a).n ≤ (c.attrConfig a).threshold then c.setTripped a true else c

/-- The recovery judgement of R163. -/
def Cmn.judgeRecovery (c : Cmn) (a : Attr) : Cmn :=
  if (c.attr a).tripped = true ∧ (c.attrConfig a).threshold + 5 ≤ (c.attr a).n then
    c.setTripped a false else c

/-- The state of an attribute after an event, before the trip judgement (R162 steps 1 to 4). -/
def AttrState.fall (x : AttrState) (g : AttrConfig) : AttrState :=
  let n := max 1 (x.n - g.penalty)
  { x with raw := bump x.raw, n := n, worst := min x.worst n
           recovery := some (g.interval * 1000) }

/-- An event counted on an attribute (R162). -/
def Cmn.count (c : Cmn) (a : Attr) : Cmn :=
  (c.setAttr a ((c.attr a).fall (c.attrConfig a))).judgeTrip a

/-- The state of an attribute after an expiry of its recovery timer (R162). -/
def AttrState.rise (x : AttrState) (g : AttrConfig) : AttrState :=
  let n := min 100 (x.n + 1)
  { x with n := n, recovery := if n < 100 then some (g.interval * 1000) else none }

/-- An expiry of the recovery timer (R162). -/
def Cmn.recover (c : Cmn) (a : Attr) : Cmn :=
  (c.setAttr a ((c.attr a).rise (c.attrConfig a))).judgeRecovery a

/-- The restoration of an attribute to 100; at 100 already it changes nothing (R162). -/
def Cmn.restore (c : Cmn) (a : Attr) : Cmn :=
  if (c.attr a).n = 100 then c
  else (c.setAttr a { c.attr a with n := 100, recovery := none }).judgeRecovery a

/-- The fresh judgement after a write of the configuration entry (R163). -/
def Cmn.judgeAfresh (c : Cmn) (a : Attr) : Cmn :=
  let x := c.attr a
  let t := (c.attrConfig a).threshold
  if x.tripped = false ∧ t ≠ 0 ∧ x.n ≤ t then c.setTripped a true
  else if x.tripped = true ∧ (t + 5 ≤ x.n ∨ t = 0) then c.setTripped a false
  else c

/-- A configuration entry written and judged (R161, R163). -/
def Cmn.writeAttr (c : Cmn) (a : Attr) (g : AttrConfig) : Cmn :=
  Cmn.judgeAfresh { c with config := c.config.set (attrIndex a) g } a

/-- CLEAR(ATTRIBUTES): the starting values, silently (R169). -/
def Cmn.clearAttributes (c : Cmn) : Cmn :=
  { c with attrs := Tab.fill 8 AttrState.start, faultLamp := false }

/-- CLEAR(LOG) (R169). -/
def Cmn.clearLog (c : Cmn) : Cmn := { c with log := FaultLog.empty }

end Sys2Proof.Machine
end

