-- ==== Sys2Proof/Machine/Ops.lean ====
section
/-! DEFINITION. The named operations over State: a change of one unit, timers, the buffer pool with its
reference counts (R41, R42), the egress queues (R46), and the part's own frames (R43, R50). -/

namespace Sys2Proof.Machine

/-! ### A change of one unit -/

def State.onFsw (s : State) (f : Fsw → Fsw) : State := { s with fsw := f s.fsw }

def State.onBqm (s : State) (f : Bqm → Bqm) : State := { s with bqm := f s.bqm }

def State.onCru (s : State) (f : Cru → Cru) : State := { s with cru := f s.cru }

def State.onCiu (s : State) (f : Ciu → Ciu) : State := { s with ciu := f s.ciu }

def State.onTdu (s : State) (f : Tdu → Tdu) : State := { s with tdu := f s.tdu }

def State.onLlu (s : State) (f : Llu → Llu) : State := { s with llu := f s.llu }

def State.onJcu (s : State) (f : Jcu → Jcu) : State := { s with jcu := f s.jcu }

def State.onSru (s : State) (f : Sru → Sru) : State := { s with sru := f s.sru }

def State.onSnu (s : State) (f : Snu → Snu) : State := { s with snu := f s.snu }

def State.onCmn (s : State) (f : Cmn → Cmn) : State := { s with cmn := f s.cmn }

def State.onMgu (s : State) (f : Mgu → Mgu) : State := { s with mgu := f s.mgu }

def State.onPort (s : State) (p : Port) (f : LinePort → LinePort) : State :=
  { s with ports := s.ports.modify p f }

/-- The state after one more free value has been drawn from the model's own counter. -/
def State.draw (s : State) : State := { s with free := s.free + 1 }

/-! ### Facts read by many units -/

def State.port (s : State) (p : Port) : LinePort := s.ports.get p

def LinePort.inFrame (x : LinePort) : Bool :=
  match x.rx with
  | .frame _ => true
  | _ => false

/-- The search or the frame begun anew: the valid and the silent bit times stay counted. -/
def Front.restart (x : Front) : Front := { x with bits := [], run := none, octets := [], found := none }

/-- The part is addressed when its straps do not read 63. -/
def State.addressed (s : State) : Bool := decide (s.own ≠ broadcast)

/-- The pin, the debounced level and the stability timer of an input (R75). -/
def Ciu.input (u : Ciu) (i : Input) : InputState :=
  u.inputs.get (inputIndex i) { pin := false, level := false, stability := none }

/-- The debounced level of an input (R75). -/
def State.level (s : State) (i : Input) : Bool := (s.ciu.input i).level

/-- The stability timer has reached 10 ms, and the pin reads at `level` (R75). -/
def InputState.due (x : InputState) (level : Bool) : Bool :=
  decide (x.pin = level ∧ x.level ≠ level ∧ 10 ≤ x.stability.getD 0)

/-- The debounced key as the part takes notice of it: off in the unaddressed part (R62, R153). -/
def State.keyOn (s : State) : Bool := s.addressed && s.level .key

/-- An entry appended to the Fault Log. -/
def State.log (s : State) (i : LogInfo) : State := s.onCmn fun c => c.note i

/-- An event counted on an attribute. -/
def State.count (s : State) (a : Attr) : State := s.onCmn fun c => c.count a

/-! ### The buffer pool -/

def Bqm.buffer (q : Bqm) (b : Nat) : Buffer := q.pool.get b Buffer.empty

/-- The free count (R41). -/
def Bqm.freeCount (q : Bqm) : Nat := (q.pool.data.filter fun x => x.refs == 0).length

/-- The lowest-numbered free buffer (log entry 7). -/
def Bqm.firstFree (q : Bqm) : Option Nat := q.pool.data.findIdx? fun x => x.refs == 0

/-- One more reference on a buffer. -/
def Bqm.retain (q : Bqm) (b : Nat) : Bqm :=
  { q with pool := q.pool.set b { q.buffer b with refs := (q.buffer b).refs + 1 } }

/-- One reference released; at 0 the buffer is free (R41). -/
def Bqm.release (q : Bqm) (b : Nat) : Bqm :=
  { q with pool := q.pool.set b { q.buffer b with refs := (q.buffer b).refs - 1 } }

/-- References released on each buffer of a list. -/
def Bqm.releaseAll (q : Bqm) (l : List Nat) : Bqm := l.foldl Bqm.release q

/-- The octets of a buffer written, its references kept. -/
def Bqm.write (q : Bqm) (b : Nat) (f : Frame) : Bqm :=
  { q with pool := q.pool.set b { q.buffer b with frame := f } }

/-- A free buffer taken with a count of 1. -/
def Bqm.take (q : Bqm) (b : Nat) : Bqm :=
  { q with pool := q.pool.set b { q.buffer b with refs := 1 } }

/-! ### Egress queues -/

def Egress.queue (e : Egress) (n : Nat) : EgressQueue := e.queues.get n EgressQueue.empty

def Egress.queueConfig (e : Egress) (n : Nat) : QueueConfig :=
  e.config.queues.get n { type := .strict, weight := 1, depth := 1 }

def Bqm.onEgress (q : Bqm) (p : Port) (f : Egress → Egress) : Bqm :=
  { q with egress := q.egress.modify p f }

def Egress.onQueue (e : Egress) (n : Nat) (f : EgressQueue → EgressQueue) : Egress :=
  { e with queues := e.queues.set n (f (e.queue n)) }

/-- The queue a priority maps to at a port: Queue Map n, n the port's queue count (R45). -/
def Bqm.queueFor (q : Bqm) (p : Port) (priority : Nat) : Nat :=
  (q.maps.get ((q.egress.get p).config.queueCount - 1) (Tab.fill 8 0)).get priority 0

/-- The mode of a port closes its egress queues (R16, R17, R46). -/
def PortMode.closed : PortMode → Bool
  | .remoteLoopback => true
  | .disabled => true
  | _ => false

/-- What becomes of a frame offered to an egress queue (R46). -/
inductive Offered
  | queued
  | modeDrop
  | tailDrop
  deriving DecidableEq, Repr

/-- The outcome of an offer to the queue a priority maps to (R46). -/
def State.offerOutcome (s : State) (p : Port) (priority : Nat) : Offered :=
  let e := s.bqm.egress.get p
  let n := s.bqm.queueFor p priority
  if (s.port p).mode.closed then .modeDrop
  else if (e.queue n).entries.length < (e.queueConfig n).depth then .queued
  else .tailDrop

/-- A frame offered to an egress queue of a port: one more reference where it is queued, the drop
counter and, for want of room, a BUFFER event where it is not (R46). -/
def State.enqueue (s : State) (p : Port) (priority : Nat) (b : Nat) : State :=
  let n := s.bqm.queueFor p priority
  match s.offerOutcome p priority with
  | .queued =>
    s.onBqm fun q => (q.onEgress p fun e => e.onQueue n fun x =>
      { x with entries := x.entries ++ [b] }).retain b
  | .modeDrop =>
    s.onBqm fun q => q.onEgress p fun e => e.onQueue n fun x => { x with drops := bump x.drops }
  | .tailDrop =>
    (s.onBqm fun q => q.onEgress p fun e => e.onQueue n fun x =>
      { x with drops := bump x.drops }).count .buffer

/-- Whether an offer is queued. -/
def State.wouldQueue (s : State) (p : Port) (priority : Nat) : Bool :=
  decide (s.offerOutcome p priority = .queued)

/-! ### Own frames -/

/-- The Node Table entry of an address; address 63 has none (section 2.1). -/
def Fsw.node (w : Fsw) (a : Addr) : NodeEntry := w.nodes.get a.toNat NodeEntry.powerOn

def Fsw.side (w : Fsw) (a : Addr) : Option Port := (w.node a).learned.map fun l => l.side

/-- The ports a destination is routed to: both for a broadcast and for an unknown side, else the
learned side (R50). -/
def State.routes (s : State) (dest : Addr) : Both Bool :=
  if dest = broadcast then Both.same true
  else
    match s.fsw.side dest with
    | some .A => { a := true, b := false }
    | some .B => { a := false, b := true }
    | none => Both.same true

/-- An own frame offered at the ports it is routed to (R50). -/
def State.offerAt (s : State) (ports : Both Bool) (priority : Nat) (b : Nat) : State :=
  let s := if ports.a then s.enqueue .A priority b else s
  if ports.b then s.enqueue .B priority b else s

/-- The failure to generate an own frame for want of a buffer (R43). DESIGN CHOICE (log entry 44): the
own-frame-failure counter is 32 bits wide and saturates, as the counters do for which the spec gives it. -/
def State.ownFailure (s : State) : State :=
  (s.onBqm fun q => { q with ownFailures := bump q.ownFailures }).count .buffer

/-- The generation of an own frame, the TRACTION_DEMAND excepted: a buffer is taken, the frame written,
and a reference placed at each port where it is queued; a frame queued nowhere frees its buffer
(R43, R50). -/
def State.sendOwn (s : State) (priority : Nat) (f : Frame) : State :=
  match s.bqm.firstFree with
  | none => s.ownFailure
  | some b =>
    ((s.onBqm fun q => (q.take b).write b f).offerAt (s.routes (addrOf f.dest)) priority b).onBqm
      fun q => q.release b

/-- Whether an own frame can be generated: one buffer is free (R43). -/
def State.canSend (s : State) : Bool := s.bqm.firstFree.isSome

end Sys2Proof.Machine
end

