-- ==== Sys2Proof/Machine/Queues.lean ====
section
/-! DEFINITION. The scheduler (R48, R49), the flush of a port's queues (R16, R17), the Local Dispatch
Queue (R51, R52), the demand slot (R53, R54) and the marked reply of RESET_PART (R56). -/

namespace Sys2Proof.Machine

/-! ### The scheduler -/

def Egress.isWeighted (e : Egress) (n : Nat) : Bool := decide ((e.queueConfig n).type = .weighted)

def Egress.holds (e : Egress) (n : Nat) : Bool := !(e.queue n).entries.isEmpty

/-- The order in which queues follow one another in the round: 3, 2, 1, 0 and then 3 again (R49). -/
def roundAfter : Option Nat → List Nat
  | none => [3, 2, 1, 0]
  | some n => [(n + 3) % 4, (n + 2) % 4, (n + 1) % 4, n % 4]

/-- The head of a queue taken: the buffer it referred to leaves the queue. -/
def Egress.pop (e : Egress) (n : Nat) : Egress :=
  e.onQueue n fun x => { x with entries := x.entries.tail }

/-- Step 1 of R49: the queue the pointer names, when it is WEIGHTED and its head fits its deficit. -/
def Egress.fits (e : Egress) (size : Nat → Nat) : Option Nat :=
  match e.pointer with
  | none => none
  | some n =>
    match (e.queue n).entries with
    | [] => none
    | b :: _ => if e.isWeighted n ∧ size b ≤ (e.queue n).deficit then some n else none

/-- The end of step 1 of R49: the head leaves, the deficit is reduced by its size, and is 0 when the
queue is then empty. -/
def Egress.serve (e : Egress) (size : Nat → Nat) (n : Nat) : Egress :=
  e.onQueue n fun x =>
    { x with entries := x.entries.tail
             deficit := if x.entries.tail.isEmpty then 0
               else x.deficit - size (x.entries.headD 0) }

/-- Step 2 of R49: an empty WEIGHTED queue that the pointer names loses its deficit. -/
def Egress.settle (e : Egress) : Egress :=
  match e.pointer with
  | none => e
  | some n =>
    if e.isWeighted n ∧ e.holds n = false then e.onQueue n fun x => { x with deficit := 0 } else e

/-- Steps 3 and 4 of R49: the pointer moves to the next WEIGHTED queue, whose deficit becomes 0 when it
is empty and grows by its quantum when it holds a frame. -/
def Egress.advance (e : Egress) : Egress :=
  match (roundAfter e.pointer).find? e.isWeighted with
  | none => e
  | some n =>
    { e.onQueue n fun x =>
        { x with deficit := if x.entries.isEmpty then 0
                   else x.deficit + (e.queueConfig n).weight * 32 } with
      pointer := some n }

/-- The deficit round robin of R49. Every WEIGHTED queue that holds a frame gains at least 32 octets
each time it becomes current and no frame exceeds 250, so 64 moves of the pointer always suffice. -/
def Egress.roundRobin (size : Nat → Nat) : Nat → Egress → Egress × Option Nat
  | 0, e => (e, none)
  | k + 1, e =>
    match e.fits size with
    | some n => (e.serve size n, (e.queue n).entries.head?)
    | none => Egress.roundRobin size k e.settle.advance

/-- The strict scan of R48: the highest-numbered STRICT queue that holds a frame. -/
def Egress.strictQueue (e : Egress) : Option Nat :=
  [3, 2, 1, 0].find? fun n => !(e.isWeighted n) && e.holds n

/-- Whether some WEIGHTED queue holds a frame. -/
def Egress.weightedWaits (e : Egress) : Bool :=
  [3, 2, 1, 0].any fun n => e.isWeighted n && e.holds n

/-- One decision of the scheduler: the frame named, if any, and the queues it leaves (R48, R49). -/
def Egress.decide (e : Egress) (size : Nat → Nat) : Egress × Option Nat :=
  match e.strictQueue with
  | some n => (e.pop n, (e.queue n).entries.head?)
  | none => if e.weightedWaits then Egress.roundRobin size 64 e else (e, none)

/-- The wire length of the frame in a buffer. -/
def Bqm.sizeOf (q : Bqm) (b : Nat) : Nat := frameSize (q.buffer b).frame

/-- A waiting demand that the transmitter takes is waiting no longer (R53). -/
def SlotState.take (x : SlotState) (b : Nat) : SlotState := if x = .waiting b then .taken else x

/-- A request of the transmitter for a frame (R11): the head of the return list in REMOTE_LOOPBACK
(R16), none in DISABLED, else the scheduler's decision. The reference moves to the transmitter. -/
def State.ask (s : State) (p : Port) : State :=
  match (s.port p).mode with
  | .disabled => s.onPort p fun x => { x with tx := .silent }
  | .remoteLoopback =>
    match (s.port p).returnList with
    | [] => s.onPort p fun x => { x with tx := .fill }
    | b :: l => s.onPort p fun x => { x with tx := .sending b, returnList := l }
  | _ =>
    let r := (s.bqm.egress.get p).decide s.bqm.sizeOf
    match r.2 with
    | none => (s.onBqm fun q => q.onEgress p fun _ => r.1).onPort p fun x => { x with tx := .fill }
    | some b =>
      (s.onBqm fun q =>
        { q.onEgress p fun _ => r.1 with slot := q.slot.modify p fun x => x.take b }).onPort p
          fun x => { x with tx := .sending b }

/-! ### The flush -/

/-- The references held in the four queues of a port. -/
def Egress.references (e : Egress) : List Nat :=
  (e.queue 3).entries ++ (e.queue 2).entries ++ (e.queue 1).entries ++ (e.queue 0).entries

/-- The four queues emptied, each frame counted on the drop counter of its queue (R16, R46). -/
def Egress.flush (e : Egress) : Egress :=
  { e with queues := e.queues.map fun x =>
      { x with entries := [], drops := bumpBy x.drops x.entries.length } }

/-- A waiting demand that a flush removes (R53). -/
def SlotState.flush : SlotState → SlotState
  | .waiting _ => .flushed
  | x => x

/-- A copy of the marked reply that a flush removes is done (R56). -/
def ResetReply.flushed (r : ResetReply) (p : Port) (refs : List Nat) : ResetReply :=
  if r.buffer ∈ refs then { r with undone := r.undone.set p false } else r

/-- The flush of a port's queues on entry to REMOTE_LOOPBACK or DISABLED (R16, R17). -/
def Bqm.flush (q : Bqm) (p : Port) : Bqm :=
  let refs := (q.egress.get p).references
  let q := q.releaseAll refs
  { q.onEgress p Egress.flush with
    slot := q.slot.modify p SlotState.flush
    resetReply := q.resetReply.map fun r => r.flushed p refs }

/-! ### The Local Dispatch Queue -/

/-- A delivery to the Local Dispatch Queue, which takes one more reference where there is room (R51). -/
def State.deliver (s : State) (b : Nat) : State :=
  if s.bqm.ldq.length < 16 then
    s.onBqm fun q => ({ q with ldq := q.ldq ++ [b] }).retain b
  else (s.onBqm fun q => { q with localDrops := bump q.localDrops }).count .buffer

/-- The frame at the head of the Local Dispatch Queue and its buffer, when its kind is the one named
(R52). -/
def State.headOfKind (s : State) (kind : Byte) : Option (Nat × Frame) :=
  match s.bqm.ldq with
  | [] => none
  | b :: _ => if (s.bqm.buffer b).frame.kind = kind then some (b, (s.bqm.buffer b).frame) else none

/-- The head of the Local Dispatch Queue handed to its consumer: the reference passes to it (R52). -/
def State.takeHead (s : State) : State := s.onBqm fun q => { q with ldq := q.ldq.tail }

/-- A consumer that has acted on a frame releases its reference (R52). -/
def State.consumed (s : State) (b : Nat) : State := s.onBqm fun q => q.release b

/-! ### The demand slot -/

/-- The old demand's buffer, when R54 has it rewritten in place: waiting at one port at least, and
waiting or flushed at each port where it was queued. -/
def Bqm.rewritable (q : Bqm) : Option Nat :=
  match q.slot.a, q.slot.b with
  | .taken, _ => none
  | _, .taken => none
  | .waiting b, _ => some b
  | _, .waiting b => some b
  | _, _ => none

/-- A new demand offered at the tail of a port's queue (R46, R53). -/
def State.offerTail (s : State) (p : Port) (b : Nat) : State :=
  let after := if s.wouldQueue p priorityDemand then SlotState.waiting b else .notQueued
  (s.enqueue p priorityDemand b).onBqm fun q => { q with slot := q.slot.set p after }

/-- A waiting entry of one buffer moved to another, at its place in its queue (R53, R54). -/
def Bqm.replace (q : Bqm) (p : Port) (old new : Nat) : Bqm :=
  { ((q.onEgress p fun e =>
      { e with queues := e.queues.map fun x =>
          { x with entries := x.entries.map fun b => if b = old then new else b } }).retain
      new).release old with
    slot := q.slot.set p (.waiting new) }

/-- The treatment of a new demand, in buffer `b`, at one port, where the old buffer is rewritten in
place (R54). -/
def State.slotInPlace (s : State) (p : Port) (b : Nat) : State :=
  match s.bqm.slot.get p with
  | .waiting _ => s
  | _ => s.offerTail p b

/-- The treatment of a new demand, in the new buffer `b`, at one port (R53, R54). -/
def State.slotNew (s : State) (p : Port) (b : Nat) : State :=
  match s.bqm.slot.get p with
  | .waiting old => s.onBqm fun q => q.replace p old b
  | _ => s.offerTail p b

/-- Whether the new demand can be generated: its buffer is rewritten, or one is free (R54). -/
def State.canOfferDemand (s : State) : Bool := s.bqm.rewritable.isSome || s.bqm.firstFree.isSome

/-- The offer of a new TRACTION_DEMAND carrying demand `d` to the demand slot (R43, R53, R54). -/
def State.offerDemand (s : State) (f : Frame) (d : Int) : State :=
  match s.bqm.rewritable with
  | some b => ((s.onBqm fun q => q.write b f).slotInPlace .A b).slotInPlace .B b
  | none =>
    match s.bqm.firstFree with
    | none => (s.log { kind := .demandNotSent, block := .tdu, value := some d }).ownFailure
    | some b =>
      (((s.onBqm fun q => (q.take b).write b f).slotNew .A b).slotNew .B b).onBqm
        fun q => q.release b

/-! ### The marked reply -/

/-- A transmission of buffer `b` completed at a port makes a marked copy done there (R56). -/
def ResetReply.completed (r : ResetReply) (p : Port) (b : Nat) : ResetReply :=
  if r.buffer = b then { r with undone := r.undone.set p false } else r

/-- The marked reply is done when no noted port has a copy left (R56). -/
def Bqm.replyDone (q : Bqm) : Bool :=
  match q.resetReply with
  | none => true
  | some r => !r.undone.a && !r.undone.b

end Sys2Proof.Machine
end

