-- ==== Sys2Proof/Machine/Flags.lean ====
section
/-! DEFINITION. The facts units read of one another: speed facts (R82, R84), listening (R106), degraded
mode (R135), what the Cab Table holds (R58), the refusal condition of RESET_PART (R178), and the caps
(R99, R124). -/

namespace Sys2Proof.Machine

/-- The difference of two part times or readings, modulo 2^32 (R85, R86, R165). -/
def elapsed (now since : Word) : Nat := (now - since).toNat

/-! ### Speed -/

def State.speedKnown (s : State) : Bool := s.tdu.facts.v.isSome

/-- The speed is known standing (R58, R82). -/
def State.standing (s : State) : Bool :=
  match s.tdu.facts.v with
  | some v => decide (v ≤ 5)
  | none => false

/-- RESET_PART is refused while the role is ACTIVE and the speed is not known standing (R178). -/
def State.resetBarred (s : State) : Bool := decide (s.cru.role = .active) && !s.standing

/-! ### The Cab Table -/

def Cru.hearsActive (u : Cru) : Bool := u.cabs.any fun e => decide (e.role = .active)

/-- The Cab Table holds an entry announced ACTIVE or CONFLICT. -/
def Cru.hearsCommand (u : Cru) : Bool := u.cabs.any fun e => decide (e.role ≠ .claiming)

/-- The role taken by the table (R58). -/
def Cru.tableRole (u : Cru) : Role := if u.hearsActive then .passive else .inactive

/-! ### The loop -/

/-- The Loop Link Unit is listening (R106). -/
def State.listening (s : State) : Bool := decide (s.cru.role = .active) && s.llu.carrier

/-- Degraded mode (R135). -/
def State.degraded (s : State) : Bool := s.cmn.tripped .loopLink

/-! ### The Route Table -/

/-- Our run, while a Route Table is live (R121). -/
def Jcu.ourRun (u : Jcu) : Option Nat := u.live.map fun t => t.header.run

/-- The unconfirmed speed in force (R121). -/
def Jcu.unconfirmedSpeed (u : Jcu) : Nat :=
  match u.live with
  | some t => t.header.unconfirmed
  | none => 100

/-! ### Caps -/

/-- The route cap of a context (R124). -/
def Ctx.routeCap (x : Ctx) : Nat := if x.direction = some .straight then x.straightCap else x.divergingCap

/-- The cap of a context that is SET, or PASSED with was-set raised (R124, R135). -/
def Ctx.setCap (x : Ctx) (degraded : Bool) : Nat :=
  if degraded then min x.routeCap x.unconfirmedCap else x.routeCap

/-- The cap of a context (R124). -/
def Ctx.cap (x : Ctx) (degraded : Bool) : Nat :=
  match x.state with
  | .set => x.setCap degraded
  | .mismatch => 0
  | .passed => if x.wasSet then x.setCap degraded else x.unconfirmedCap
  | _ => x.unconfirmedCap

/-- The caps the Junction Unit gives: one for each open context, and the unconfirmed speed while the
overflow flag is set (R99, R125). -/
def Jcu.caps (u : Jcu) (degraded : Bool) : List Nat :=
  u.contexts.map (fun x => x.cap degraded) ++ if u.overflow then [u.unconfirmedSpeed] else []

/-- The cap C of stage 4 (R99). -/
def State.capC (s : State) (maxSpeed : Int) : Int :=
  (s.jcu.caps s.degraded).foldl (fun c k => min c (k : Int)) maxSpeed

/-! ### Warnings -/

/-- The states of a context for which the warning condition holds (R136). -/
def Ctx.warns (x : Ctx) : Bool := decide (x.state ≠ .set) && decide (x.state ≠ .passed)

/-- The warning condition (R136). -/
def Jcu.warning (u : Jcu) : Bool := u.contexts.any Ctx.warns || u.overflow

/-- The states of a context for which the Junction Unit claims CAB_ALERT (R137). -/
def Ctx.alerts (x : Ctx) : Bool :=
  decide (x.state = .mismatch ∨ x.state = .refused ∨ x.state = .unanswered)

/-- The Junction Unit's claim of CAB_ALERT (R137). -/
def Jcu.alert (u : Jcu) : Bool := u.contexts.any Ctx.alerts

end Sys2Proof.Machine
end

