-- ==== Sys2Proof/Machine/Reset.lean ====
section
/-! DEFINITION. The power-on reset as a command's effect, and the control reset with its abandonment
(R20, R40, R57, R72, R88, R105, R119, R140, R149, R159, R169, R178, R180). -/

namespace Sys2Proof.Machine

/-- A power-on reset: every unit in its power-on state; what is still to come at the receive pairs, at the
input pins and from the loop modem, the levels at the pins, the waiting commands and the model's count of
free values as they stand. -/
def State.powerOnReset (s : State) (straps : Addr) : State :=
  { State.powerOn straps s.ciu s.llu with
    ports := s.ports.map fun u => { LinePort.powerOn with line := u.line }
    pending := s.pending, free := s.free }

/-! ### The control reset, unit by unit -/

/-- R20, second column. DESIGN CHOICE (log entry 43): in HUNT the search window and the fill run stay, so
that a run that goes on over the reset is the same run, measured afresh. -/
def LinePort.controlReset (x : LinePort) : LinePort :=
  { x with
    rx := match x.rx with
      | .down => .down
      | _ => .hunt
    tx := match x.tx with
      | .sending b => .sending b
      | _ => .fill
    fill := if x.tx = .silent then .none else x.fill
    pos := if x.tx = .silent then 0 else x.pos
    front := if x.mode = .localLoopback then Front.start
      else if x.inFrame then x.front.restart else x.front
    joined := false
    mode := .normal, loopCode := .none, persistence := none, latches := Latches.clear
    good := 0, discarded := 0, sent := 0, returnList := [] }

/-- R40, second column. -/
def Fsw.controlReset (u : Fsw) : Fsw :=
  { u with nodes := u.nodes.map fun e => { e with learned := none }
           stats := Both.same SwitchStats.zero }

/-- The references that a control reset leaves on buffer `b`: those of frames in transmission (R57). -/
def transmissions (ports : Both LinePort) (b : Nat) : Nat :=
  (if ports.a.tx = .sending b then 1 else 0) + (if ports.b.tx = .sending b then 1 else 0)

/-- The pool after a control reset (R57). -/
def Bqm.keepTransmissions (q : Bqm) (ports : Both LinePort) : Tab Buffer 96 :=
  { data := q.pool.data.mapIdx fun b x => { x with refs := transmissions ports b }
    size := by rw [List.length_mapIdx]; exact q.pool.size }

def Egress.controlReset (e : Egress) : Egress :=
  { e with queues := Tab.fill 4 EgressQueue.empty, pointer := none }

/-- R57, second column. -/
def Bqm.controlReset (q : Bqm) (ports : Both LinePort) : Bqm :=
  { q with pool := q.keepTransmissions ports
           egress := q.egress.map Egress.controlReset
           ldq := [], localDrops := 0, ownFailures := 0
           slot := Both.same .notQueued, resetReply := none }

/-- R72, second column. -/
def Cru.controlReset (u : Cru) : Cru := { Cru.powerOn with seq := u.seq }

/-- R88 and R105, second column. -/
def Tdu.controlReset (u : Tdu) : Tdu :=
  { Tdu.powerOn with
    seq := u.seq, movingTime := u.movingTime, odometer := u.odometer, carry := u.carry
    shadow := u.shadow, live := u.live }

/-- R119, second column. -/
def Llu.controlReset (u : Llu) : Llu := 
  { Llu.powerOn u.cdPin u.line u.lowFor with lastTest := u.lastTest }

/-- R140, second column. -/
def Jcu.controlReset (u : Jcu) : Jcu :=
  { Jcu.powerOn with shadowHeader := u.shadowHeader, shadow := u.shadow, live := u.live }

/-- R149, second column. -/
def Sru.controlReset (u : Sru) : Sru := { Sru.powerOn with seq := u.seq }

/-- R159, second column. -/
def Snu.controlReset (u : Snu) : Snu :=
  { Snu.powerOn with tones := u.tones, patterns := u.patterns, map := u.map }

/-- R180, second column; the timer runs only with an interval and an own address (R177). -/
def Mgu.controlReset (u : Mgu) (addressed : Bool) : Mgu :=
  { u with reportTimer := if u.interval ≠ 0 ∧ addressed then some u.interval else none
           pendingReset := none, executed := 0, refused := 0 }

/-- The control reset of every unit; the Condition Monitor keeps its state (R169). -/
def State.controlResetUnits (s : State) : State :=
  { s with
    ports := s.ports.map LinePort.controlReset
    fsw := s.fsw.controlReset
    bqm := s.bqm.controlReset s.ports
    cru := s.cru.controlReset
    ciu := s.ciu.cleared
    tdu := s.tdu.controlReset
    llu := s.llu.controlReset
    jcu := s.jcu.controlReset
    sru := s.sru.controlReset
    snu := s.snu.controlReset
    mgu := s.mgu.controlReset s.addressed }

/-- The control reset takes effect: every unit takes it, then CONTROL_RESET is logged (R178). -/
def State.controlReset (s : State) (sender : Addr) : State :=
  s.controlResetUnits.log { kind := .controlReset, block := .mgu, node := some sender }

/-- The pending reset abandoned (R178). -/
def State.abandonReset (s : State) : State :=
  (s.onMgu fun u => { u with pendingReset := none, refused := bump u.refused }).onBqm
    fun q => { q with resetReply := none }

/-- What follows once the marked reply may be done (R56, R178): nothing while no reset is pending or a
copy is left; otherwise the refusal condition is judged again. -/
def State.settleReset (s : State) : State :=
  match s.mgu.pendingReset with
  | none => s
  | some sender =>
    if s.bqm.replyDone = false then s
    else if s.resetBarred then s.abandonReset
    else s.controlReset sender

end Sys2Proof.Machine
end

