-- ==== Sys2Proof/Machine/Ports.lean ====
section
/-! DEFINITION. The shared operations of the line ports (Chapter 1): the ending of a reception, line
errors, the port modes with their entry and exit effects, and the returns to NORMAL of R19. -/

namespace Sys2Proof.Machine

/-- The buffer of the frame in reception, when the receiver holds one (R6, R8). -/
def LinePort.receiving (x : LinePort) : Option Nat :=
  match x.rx with
  | .frame b => b
  | _ => none

/-- The buffer of the frame in transmission (R11). -/
def LinePort.transmitting (x : LinePort) : Option Nat :=
  match x.tx with
  | .sending b => some b
  | _ => none

/-- The receiver's buffer reference released, if it holds one (R7, R9). -/
def State.releaseReception (s : State) (p : Port) : State :=
  match (s.port p).receiving with
  | some b => s.onBqm fun q => q.release b
  | none => s

/-- The receiver enters a state, and the loop-code persistence timer stops (R18). What it hears from then
on begins a new search or a new frame; in DOWN it waits for its 16 valid bit times anew (R4). DESIGN
CHOICE (log entry 45): a receiver that enters HUNT, from DOWN or from a frame that has ended, has heard
none of the last 16 bits that R5 compares. -/
def LinePort.enterRx (u : LinePort) (x : RxState) : LinePort :=
  { u with rx := x, persistence := none
           front := if x = .down then Front.start else u.front.restart }

def State.setRx (s : State) (p : Port) (x : RxState) : State := s.onPort p fun u => u.enterRx x

/-- A frame in reception discarded by an event that is no line error: to HUNT, or DOWN kept (R9). -/
def State.dropReception (s : State) (p : Port) : State :=
  (s.releaseReception p).onPort p fun u =>
    { u with rx := if u.rx = .down then .down else .hunt, persistence := none
             front := if u.inFrame then u.front.restart else u.front }

/-- A frame in reception ended by a line error: discarded, counted, latched, and one attribute event
(R7). -/
def State.lineError (s : State) (p : Port) (latch : Latches → Latches) (after : RxState) : State :=
  (((s.releaseReception p).setRx p after).onPort p fun u =>
    { u with discarded := bump u.discarded, latches := latch u.latches }).count (lineAttr p)

/-- Every learned side that names a port forgotten (R4, R23). -/
def Fsw.forget (w : Fsw) (p : Port) : Fsw :=
  { w with nodes := w.nodes.map fun e =>
      if e.learned.map (fun l => l.side) = some p then { e with learned := none } else e }

/-- A log entry of a port, with the port in the port field (R167). -/
def portEntry (kind : LogKind) (p : Port) (value : Option Int := none) : LogInfo :=
  { kind := kind, block := portBlock p, port := some p, value := value }

/-! ### Port modes -/

/-- The entry effects of LOCAL_LOOPBACK (R15). -/
def State.enterLocal (s : State) (p : Port) : State :=
  (s.dropReception p).onPort p fun u =>
    { u with mode := .localLoopback, front := Front.start, joined := false }

/-- The entry effects of REMOTE_LOOPBACK, the discard of a reception apart (R16, R18). -/
def State.enterRemote (s : State) (p : Port) : State :=
  (s.onPort p fun u =>
    { u with mode := .remoteLoopback, returnList := [], persistence := none }).onBqm
      fun q => q.flush p

/-- The receiver's entry into DOWN on DISABLED (R17): nothing further where it was DOWN. -/
def State.downByDisable (s : State) (p : Port) : State :=
  if (s.port p).rx = .down then s
  else
    (((s.releaseReception p).setRx p .down).onFsw fun w => w.forget p).log (portEntry .portDown p)

/-- The entry effects of DISABLED (R17). -/
def State.enterDisabled (s : State) (p : Port) : State :=
  ((s.downByDisable p).onPort p fun u =>
    { u with mode := .disabled, persistence := none, front := Front.start
             tx := if u.transmitting.isSome then u.tx else .silent }).onBqm fun q => q.flush p

/-- The exit from REMOTE_LOOPBACK: the return list discarded, AUTOLOOP_EXIT logged (R16, R19). DESIGN CHOICE
(log entry 42): the receiver is left alone, so that a frame in reception goes on and is disposed of by the
mode at its end: the event table of R9 does not list this exit, and its closing table says mode change. -/
def State.exitRemote (s : State) (p : Port) (cause : Int) : State :=
  (((s.onBqm fun q => q.releaseAll (s.port p).returnList).onPort p fun u =>
    { u with mode := .normal, returnList := [], persistence := none })).log
      (portEntry .autoloopExit p (some cause))

/-- The exit from LOCAL_LOOPBACK: the receiver goes to HUNT on the line (R15; log entry 19). -/
def State.exitLocal (s : State) (p : Port) : State :=
  ((s.releaseReception p).setRx p .hunt).onPort p fun u =>
    { u with mode := .normal, front := Front.start, joined := false }

/-- The exit from DISABLED: the transmitter returns to FILL (R17). -/
def State.exitDisabled (s : State) (p : Port) : State :=
  s.onPort p fun u =>
    { u with mode := .normal
             tx := if u.tx = .silent then .fill else u.tx
             fill := if u.tx = .silent then u.loopCode else u.fill
             pos := if u.tx = .silent then 0 else u.pos }

/-- The effects of the present mode undone: the port is in NORMAL (R14, R19). -/
def State.leaveMode (s : State) (p : Port) (cause : Int) : State :=
  match (s.port p).mode with
  | .normal => s
  | .localLoopback => s.exitLocal p
  | .remoteLoopback => s.exitRemote p cause
  | .disabled => s.exitDisabled p

/-- The entry effects of a mode entered by command (R14). -/
def State.enterMode (s : State) (p : Port) (m : PortMode) : State :=
  match m with
  | .normal => s
  | .localLoopback => s.enterLocal p
  | .remoteLoopback => (s.dropReception p).enterRemote p
  | .disabled => s.enterDisabled p

/-- SET_PORT_MODE naming a mode, once it is accepted (R14): the present mode changes nothing. -/
def State.changeMode (s : State) (p : Port) (m : PortMode) : State :=
  if (s.port p).mode = m then s else (s.leaveMode p 2).enterMode p m

/-- A loop-code action: an exit from REMOTE_LOOPBACK first, then the setting (R12, R19). -/
def State.setLoopCode (s : State) (p : Port) (c : LoopCode) : State :=
  (if (s.port p).mode = .remoteLoopback then s.exitRemote p 2 else s).onPort p
    fun u => { u with loopCode := c }

/-- One port returned to NORMAL from a loopback mode (R19). -/
def State.unloop (s : State) (p : Port) (cause : Int) : State :=
  match (s.port p).mode with
  | .localLoopback => s.exitLocal p
  | .remoteLoopback => s.exitRemote p cause
  | _ => s

/-- Both ports returned to NORMAL from any loopback mode (R19). -/
def State.unloopBoth (s : State) (cause : Int) : State := (s.unloop .A cause).unloop .B cause

/-- A LOOPUP run is timed in INACTIVE only: its measure is discarded when the role leaves it (R18). -/
def LinePort.stopLoopup (x : LinePort) : LinePort :=
  { x with persistence := x.persistence.filter fun r => decide (r.code ≠ .loopup) }

end Sys2Proof.Machine
end

