-- ==== Sys2Proof/Machine/Switch.lean ====
section
/-! DEFINITION. The Frame Switch (Chapter 2): learning, classification, the internal priority, and the
handing on of references. -/

namespace Sys2Proof.Machine

def Fsw.onNode (w : Fsw) (a : Addr) (f : NodeEntry → NodeEntry) : Fsw :=
  { w with nodes := w.nodes.set a.toNat (f (w.node a)) }

def Fsw.onStats (w : Fsw) (p : Port) (f : SwitchStats → SwitchStats) : Fsw :=
  { w with stats := w.stats.modify p f }

/-- The 10 s of the learning timer and of the loop-report hold (R22, R30). -/
def tenSeconds : Nat := 10000

/-- The learning of a source side (R22). -/
def Fsw.learn (w : Fsw) (a : Addr) (p : Port) : Fsw :=
  w.onNode a fun e => { e with learned := some { side := p, left := tenSeconds } }

/-- The age of an entry, 0..9: whole seconds since the last learning, 0 with no side (R23). -/
def NodeEntry.age (e : NodeEntry) : Nat :=
  match e.learned with
  | none => 0
  | some l => min 9 ((tenSeconds - l.left) / 1000)

def Fsw.class (w : Fsw) (kind : Byte) : ClassEntry :=
  w.classes.get kind.toNat (ClassEntry.plain .forward .forward)

/-- The action for the role group of the moment (R27). -/
def ClassEntry.action (c : ClassEntry) (role : Role) : Action :=
  if role = .active then c.active else c.passive

def Action.copies : Action → Bool
  | .absorb => true
  | .snoop => true
  | _ => false

def Action.forwards : Action → Bool
  | .forward => true
  | .snoop => true
  | _ => false

/-- The configured role a consumed kind asks for (R31). -/
def consumerRole (kind : Byte) : Option NodeRole :=
  if kind = kindCabAnnounce then some .cab
  else if kind = kindInverterStatus then some .inverter
  else if kind = kindStopPress then some .stopPanel
  else if kind = kindControl then some .vcu
  else none

/-- Whether the part has a consumer that accepts the frame (R31, R34). -/
def State.acceptsLocal (s : State) (f : Frame) : Bool :=
  let role := (s.fsw.node (addrOf f.src)).role
  match consumerRole f.kind with
  | none => false
  | some r =>
    s.addressed && decide (role = r ∨ role = .any) &&
      (decide (f.kind ≠ kindControl) || decide (addrOf f.dest = s.own))

/-- The conditions under which a frame chosen for forwarding is forwarded from port P (R32). -/
def State.mayForward (s : State) (p : Port) (f : Frame) : Bool :=
  let o := s.port p.other
  decide (frameHop f ≠ 0) &&
    !(decide (addrOf f.dest ≠ broadcast) && decide (s.fsw.side (addrOf f.dest) = some p)) &&
    !o.mode.closed && decide (o.rx ≠ .down)

/-! ### Internal priority -/

/-- The values the sources supply, each with its weight (R37). -/
def State.priorityOffers (s : State) (p : Port) (f : Frame) : List (Nat × Nat) :=
  let w := s.fsw.weights
  let tag := [(w.get 0 0, s.fsw.tagMap.get (frameTag f) 0)]
  let cls := match (s.fsw.class f.kind).priority with
    | some v => [(w.get 1 0, v)]
    | none => []
  let node := match (s.fsw.node (addrOf f.src)).priority with
    | some v => [(w.get 2 0, v)]
    | none => []
  let port := [(w.get 3 0, (s.bqm.egress.get p).config.defaultPriority)]
  (tag ++ cls ++ node ++ port).filter fun x => x.1 != 0

/-- The better of two offers: the higher weight, and the higher value at one weight (R37). -/
def betterOffer (x y : Nat × Nat) : Nat × Nat :=
  if x.1 < y.1 then y else if y.1 < x.1 then x else (x.1, max x.2 y.2)

/-- The internal priority of a forwarded frame; 0 where no source supplies (R37). -/
def State.internalPriority (s : State) (p : Port) (f : Frame) : Nat :=
  ((s.priorityOffers p f).foldl betterOffer (0, 0)).2

/-! ### Classification -/

/-- The outcome of classification (R29): a drop of R30, or a set of destinations. -/
inductive Verdict
  | malformed
  | ownSource
  | refused
  /-- dropped for its length, after its source was learned -/
  | tooLong
  /-- whether a local copy and a forwarded copy are made -/
  | pass (localCopy : Bool) (forward : Bool)
  deriving DecidableEq, Repr

/-- Steps 1 to 3 of R29. -/
def State.screen (s : State) (f : Frame) : Option Verdict :=
  if addrOf f.src = broadcast then some .malformed
  else if addrOf f.src = s.own then some .ownSource
  else if (s.fsw.node (addrOf f.src)).role = .none then some .refused
  else none

/-- Steps 5 to 7 of R29, after the source side has been learned. -/
def State.destinations (s : State) (p : Port) (f : Frame) : Verdict :=
  if s.addressed ∧ addrOf f.dest = s.own then .pass (s.acceptsLocal f) false
  else if (s.fsw.class f.kind).maxPayload < f.payload.length then .tooLong
  else
    let act := (s.fsw.class f.kind).action s.cru.role
    .pass (act.copies && s.acceptsLocal f) (act.forwards && s.mayForward p f)

/-- An own-source frame counted, logged outside a hold, and a hold started (R30). -/
def State.ownSourceSeen (s : State) (p : Port) : State :=
  let t := s.onFsw fun w => w.onStats p fun x => { x with ownSource := bump x.ownSource }
  if (s.fsw.stats.get p).hold.isSome then t
  else
    (t.onFsw fun w => w.onStats p fun x => { x with hold := some tenSeconds }).log
      { kind := .loopDetected, block := .fsw, node := some s.own, port := some p }

/-- The references handed on for a frame in buffer `b` (R33): rewritten first when it is forwarded; a
frame with no destination is counted as filtered. -/
def State.handOn (s : State) (p : Port) (b : Nat) (f : Frame) (localCopy forward : Bool) : State :=
  let priority := s.internalPriority p f
  let s := if forward then s.onBqm fun q => q.write b (forwardRewrite f) else s
  let s := if localCopy then s.deliver b else s
  let s := if forward then s.enqueue p.other priority b else s
  if localCopy || forward then s
  else s.onFsw fun w => w.onStats p fun x => { x with filtered := bump x.filtered }

/-- The classification of a good frame in buffer `b` received on port `p` (R28, R29). The reference
taken from the receiver is released at its end. -/
def State.classify (s : State) (p : Port) (b : Nat) (f : Frame) : State :=
  (match s.screen f with
    | some .ownSource => s.ownSourceSeen p
    | some .refused => s.onFsw fun w => w.onStats p fun x => { x with refused := bump x.refused }
    | some _ => s.onFsw fun w => w.onStats p fun x => { x with malformed := bump x.malformed }
    | none =>
      let t := s.onFsw fun w => w.learn (addrOf f.src) p
      match t.destinations p f with
      | .pass l g => t.handOn p b f l g
      | _ => t.onFsw fun w => w.onStats p fun x => { x with malformed := bump x.malformed }).onBqm
    fun q => q.release b

end Sys2Proof.Machine
end

