-- ==== Sys2Proof/Machine/Traction.lean ====
section
/-! DEFINITION. The Traction Demand Unit (Chapters 5 and 6): the traction state, the grace timer, the
emergency brake, the speed facts, and the seven stages of the demand computation. -/

namespace Sys2Proof.Machine

/-! ### Traction state -/

/-- The unit's values on leaving OFF (R90). -/
def Tdu.leaveOff (u : Tdu) : Tdu :=
  { u with d := 0, r := 0, f := 1000, slip := false, periodD := 0, periodTimer := some 20 }

/-- The unit's values on entering OFF (R90). -/
def Tdu.enterOff (u : Tdu) : Tdu :=
  { u with state := .off, periodTimer := none, d := 0, r := 0, f := 1000, slip := false, periodD := 0
           facts := SpeedFacts.cleared, grace := none }

/-- OFF entered, with the EMERGENCY request withdrawn (R90). -/
def State.tractionOff (s : State) : State :=
  if s.tdu.state = .off then s
  else (s.onTdu Tdu.enterOff).onSnu fun u => u.setEmergency false

/-- RUN left for HOLD: the ramp state is cleared; EMERGENCY stays (R90). -/
def State.tractionHold (s : State) : State :=
  if s.tdu.state = .run then s.onTdu fun u => { u with state := .hold, r := 0 } else s

/-- HOLD left for RUN; EMERGENCY stays (R90). -/
def State.tractionRun (s : State) : State :=
  if s.tdu.state = .hold then s.onTdu fun u => { u with state := .run } else s

/-- A demand frame: TRACTION_DEMAND with the demand sequence as its header seq (R103). -/
def State.demandFrame (s : State) (d : Int) (g : DemandFlags) (c v : Int) : Frame :=
  ownFrame s.own (broadcast.setWidth 8) kindTractionDemand priorityDemand s.tdu.seq
    (demandPayload d g c v s.tdu.f s.tdu.seq)

/-- A demand offered, the demand sequence advancing when the frame is generated (R103). -/
def State.emitDemand (s : State) (d : Int) (g : DemandFlags) (c : Int) : State :=
  let t := s.offerDemand (s.demandFrame d g c (s.tdu.facts.v.getD 0)) d
  if s.canOfferDemand then t.onTdu fun u => { u with seq := u.seq + 1 } else t

/-- The entry to EMERGENCY: D and R jump, the grace timer stops, the entry is logged and the sound made
active (R91). -/
def State.brake (s : State) (cause : Int) : State :=
  ((s.onTdu fun u => { u with state := .emergency, d := -1000, r := 0, grace := none }).log
    { kind := .emergencyBrake, block := .tdu, value := some cause }).onSnu
      fun u => u.setEmergency true

/-- The emergency frame of an entry from RUN or HOLD (R91): C formed afresh, V as the facts stand. -/
def State.emergencyFrame (s : State) : State :=
  s.emitDemand (-1000)
    { emergency := true, hold := false, blind := !s.speedKnown, sand := false }
    (s.capC ((s.tdu.live.getD s.tdu.shadow).maxSpeed))

/-- An entry to EMERGENCY taken in RUN or HOLD (R91). -/
def State.emergency (s : State) (cause : Int) : State := (s.brake cause).emergencyFrame

/-- OFF left as the role becomes ACTIVE from CLAIMING: RUN, or EMERGENCY where the emergency stop is at
its operated level (R90, R91). -/
def State.tractionStart (s : State) : State :=
  if s.tdu.state ≠ .off then s
  else if s.level .estop then (s.onTdu Tdu.leaveOff).brake 3
  else s.onTdu fun u => { u.leaveOff with state := .run }

/-- RUN or HOLD. -/
def Tdu.driving (u : Tdu) : Bool := decide (u.state = .run) || decide (u.state = .hold)

/-- The grace timer started with the live profile's duration (R77). -/
def Tdu.startGrace (u : Tdu) : Tdu :=
  match u.live with
  | some p => { u with grace := some (p.deadmanGrace * 100).toNat }
  | none => u

/-- A debounced change of the dead-man (R77, R78). -/
def State.deadmanChange (s : State) (held : Bool) : State :=
  if held then s.onTdu fun u => { u with grace := none }
  else if s.tdu.driving ∧ s.tdu.grace = none ∧ (s.tdu.periodD > 0 ∨ s.standing = false) then
    s.onTdu Tdu.startGrace
  else s

/-- A debounced change of the emergency stop (R91). -/
def State.estopChange (s : State) (operated : Bool) : State :=
  if operated ∧ s.tdu.driving then s.emergency 1 else s

/-! ### The Inverter Table -/

/-- A slot is fresh when its last report is less than 100 ms old (R81). -/
def Slot.fresh (x : Slot) (now : Word) : Bool := decide (elapsed now x.time < 100)

/-- The place of the slot allocated to a node. -/
def Tdu.slotOf (u : Tdu) (a : Addr) : Option Nat :=
  u.slots.data.findIdx? fun x => x.map (fun t => t.node) == some a

def Tdu.freeSlot (u : Tdu) : Option Nat := u.slots.data.findIdx? fun x => x.isNone

/-- An accepted report written into a slot; entering FAULT counts one SPEED_SOURCE event (R81). -/
def State.writeSlot (s : State) (i : Nat) (x : Slot) : State :=
  let wasFault := ((s.tdu.slots.get i none).map fun t => t.state) = some .fault
  let t := s.onTdu fun u => { u with slots := u.slots.set i (some x) }
  if x.state = .fault ∧ ¬ wasFault then t.count .speedSource else t

/-- An accepted report placed in the table (R80). -/
def State.placeReport (s : State) (x : Slot) : State :=
  match s.tdu.slotOf x.node with
  | some i => s.writeSlot i x
  | none =>
    match s.tdu.freeSlot with
    | some i => s.writeSlot i x
    | none =>
      if s.tdu.inverterOverflow then s
      else
        (s.onTdu fun u => { u with inverterOverflow := true }).log
          { kind := .inverterOverflow, block := .tdu, node := some x.node }

/-- An INVERTER_STATUS taken by the unit (R79). -/
def State.inverterStatus (s : State) (f : Frame) : State :=
  match inverterReport f.payload with
  | none => s.onTdu fun u => { u with rejected := bump u.rejected }
  | some (speed, effort, st) =>
    s.placeReport
      { node := addrOf f.src, speed := speed, effort := effort, state := st, time := s.cmn.partTime }

/-! ### The speed facts -/

/-- The axle speeds of the slots that are allocated, fresh and READY (R82). -/
def Tdu.readySpeeds (u : Tdu) (now : Word) : List Int :=
  u.slots.data.filterMap fun x =>
    x.bind fun t => if t.fresh now ∧ t.state = .ready then some t.speed else none

def lowest (x : Int) (l : List Int) : Int := l.foldl min x

def highest (x : Int) (l : List Int) : Int := l.foldl max x

/-- The speed facts found from a set of axle speeds (R82). -/
def findFacts (speeds : List Int) (previousD : Int) : SpeedFacts :=
  match speeds with
  | [] => SpeedFacts.cleared
  | x :: l =>
    { v := some (if previousD ≥ 0 then lowest x l else highest x l)
      s := if l.isEmpty then none else some (highest x l - lowest x l) }

/-- Moving time, the odometer and the carry accumulator advanced by one period (R85, R86). -/
def Tdu.advance (u : Tdu) : Tdu :=
  match u.facts.v with
  | none => u
  | some v =>
    let sum := u.carry + (v * 5).toNat
    { u with
      movingTime := if v > 5 then u.movingTime + 20 else u.movingTime
      odometer := u.odometer + BitVec.ofNat 32 (sum / 9)
      carry := sum % 9 }

/-- The speed facts found at the opening of a period, a loss counted in ACTIVE, and the readings
advanced (R82, R83, R85, R86). -/
def State.findSpeed (s : State) : State :=
  let facts := findFacts (s.tdu.readySpeeds s.cmn.partTime) s.tdu.periodD
  let t := s.onTdu fun u => Tdu.advance { u with facts := facts }
  if s.speedKnown ∧ facts.v = none ∧ s.cru.role = .active then t.count .speedSource else t

/-! ### The stages -/

/-- Stage 1: the handle target (R96). -/
def handleTarget (p : Profile) (fault : Bool) (h : Int) : Int :=
  if fault then -1000
  else if h ≤ p.hb then -1000
  else if h < p.hn1 then -((1000 * (p.hn1 - h)).tdiv (p.hn1 - p.hb))
  else if h ≤ p.hn2 then 0
  else if h < p.hp then (1000 * (h - p.hn2)).tdiv (p.hp - p.hn2)
  else 1000

/-- What passes from stage to stage within one period: the target, D and R, and the cut mark (R95). -/
structure Work where
  dt : Int
  d : Int
  r : Int
  cut : Bool
  deriving DecidableEq, Repr

/-- A power cut, made where D is above 0 (R95). -/
def Work.powerCut (w : Work) : Work := if w.d > 0 then { w with d := 0, r := 0, cut := true } else w

/-- Stage 2 in RUN and HOLD (R97). -/
def stageState (p : Profile) (hold : Bool) (dh : Int) (w : Work) : Work :=
  if hold then ({ w with dt := p.holdBrake }).powerCut else { w with dt := dh }

/-- Stage 3: the door interlock (R98). -/
def stageDoor (door : Bool) (w : Work) : Work :=
  if door then ({ w with dt := min w.dt 0 }).powerCut else w

/-- Stage 4 at known speed: the cut, the overspeed brake and the taper (R99). -/
def stageCapKnown (p : Profile) (c v : Int) (w : Work) : Work :=
  if v ≥ c then
    let w := ({ w with dt := min w.dt 0 }).powerCut
    if v ≥ c + p.overspeedMargin then { w with dt := min w.dt p.overspeedBrake } else w
  else if w.dt > 0 ∧ v > c - p.taperBand then
    { w with dt := (w.dt * (c - v)).tdiv p.taperBand }
  else w

/-- Stage 4 (R99, R100): with the speed unknown the blind limit, and at known speed the blind limit too
while SPEED_SOURCE is tripped. -/
def stageCap (p : Profile) (c : Int) (v : Option Int) (tripped : Bool) (w : Work) : Work :=
  match v with
  | some v =>
    let w := stageCapKnown p c v w
    if tripped then { w with dt := min w.dt p.blindLimit } else w
  | none =>
    let w := { w with dt := min w.dt p.blindLimit }
    if c = 0 then { w with dt := min w.dt 0 } else w

/-- The period finds slip (R101). -/
def findsSlip (p : Profile) (spread : Option Int) : Bool :=
  match spread with
  | some s => decide (s > p.slipThreshold)
  | none => false

/-- The adhesion factor after stage 5 (R101). -/
def nextFactor (p : Profile) (slip : Bool) (f : Int) : Int :=
  if slip then max 250 (f - p.adhesionCut) else min 1000 (f + p.adhesionRestore)

/-- Stage 5 on the target (R101). -/
def stageAdhesion (f : Int) (w : Work) : Work := { w with dt := (w.dt * f).tdiv 1000 }

/-- The period is under the power bar (R95). -/
def powerBar (hold door : Bool) (c : Int) (v : Option Int) : Bool :=
  hold || door ||
    (match v with
      | some v => decide (v ≥ c)
      | none => decide (c = 0))

/-- The distance D still covers if a rate x is reduced by j in every period until it is zero (R102). -/
def stopDistance (j x : Int) : Int :=
  let n := x / j
  n * x - (j * (n * (n + 1))) / 2

/-- The new magnitude of case 3 of the ramp (R102). -/
def rampMagnitude (p : Profile) (e a : Int) : Int :=
  if e ≤ stopDistance p.jerk a then
    (if a - p.jerk ≤ 0 then min p.jerk e else a - p.jerk)
  else if e ≥ stopDistance p.jerk (a + p.jerk) + (a + p.jerk) then min (a + p.jerk) p.rateLimit
  else a

/-- The new rate, by the three cases of R102, from a rate already clamped. -/
def rampRate (p : Profile) (e r : Int) : Int :=
  if e = 0 then 0
  else if r = 0 ∨ r.sign ≠ e.sign then clampInt (-p.rateLimit) p.rateLimit (r + e.sign * p.jerk)
  else e.sign * rampMagnitude p (e.natAbs : Int) (r.natAbs : Int)

/-- D moved by the rate, then the three corrections of R102. -/
def rampMove (bar : Bool) (dt d r : Int) : Int × Int :=
  let e := dt - d
  let d' := d + r
  let x : Int × Int := if dt - d' ≠ 0 ∧ (dt - d').sign ≠ e.sign then (dt, 0) else (d', r)
  let x : Int × Int := (clampInt (-1000) 1000 x.1, x.2)
  if bar ∧ x.1 > 0 then (0, 0) else x

/-- Stage 6: the ramp (R102). A target already reached leaves D unchanged and R at 0. -/
def stageRamp (p : Profile) (bar : Bool) (w : Work) : Work :=
  if w.cut then { w with d := 0, r := 0 }
  else
    let r := rampRate p (w.dt - w.d) (clampInt (-p.rateLimit) p.rateLimit w.r)
    let x := rampMove bar w.dt w.d r
    { w with d := x.1, r := x.2 }

/-! ### The demand period -/

/-- The conditions under which EMERGENCY is left (R92). -/
def State.emergencyEnds (s : State) (dh : Int) : Bool :=
  !(s.level .estop) && s.level .deadman && decide (dh ≤ 0) && s.standing

/-- The state that EMERGENCY is left for (R92). -/
def State.drivingState (s : State) : TractionState :=
  if s.cru.role = .active ∧ s.cru.releasing = false then .run else .hold

/-- Stage 2 on the traction state: EMERGENCY is left where its conditions hold (R92, R97). -/
def State.leaveEmergency (s : State) (dh : Int) : State :=
  if s.tdu.state = .emergency ∧ s.emergencyEnds dh then
    (s.onTdu fun u => { u with state := s.drivingState }).onSnu fun u => u.setEmergency false
  else s

/-- The work of stages 2 to 5, given the adhesion factor of the period. -/
def stages (p : Profile) (hold door tripped : Bool) (dh c : Int) (v : Option Int) (f : Int)
    (w : Work) : Work :=
  stageAdhesion f (stageCap p c v tripped (stageDoor door (stageState p hold dh w)))

/-- An onset of slip counts one ADHESION event (R101). -/
def State.slipOnset (s : State) (slip : Bool) : State :=
  if slip ∧ s.tdu.slip = false then s.count .adhesion else s

/-- Stages 2 to 7 of a period in RUN or HOLD (R95). -/
def State.drivePeriod (s : State) (p : Profile) (dh c : Int) : State :=
  let hold := decide (s.tdu.state = .hold)
  let door := s.level .doorRelease
  let v := s.tdu.facts.v
  let slip := findsSlip p s.tdu.facts.s
  let f := nextFactor p slip s.tdu.f
  let w := stages p hold door (s.cmn.tripped .speedSource) dh c v f
    { dt := dh, d := s.tdu.d, r := s.tdu.r, cut := false }
  let x := stageRamp p (powerBar hold door c v) w
  let g : DemandFlags := { emergency := false, hold := hold, blind := v.isNone, sand := slip }
  ((s.slipOnset slip).onTdu fun u =>
    { u with d := x.d, r := x.r, f := f, slip := slip, periodD := x.d
             record := { dh := dh, dt := w.dt, c := c, flags := g } }).emitDemand x.d g c

/-- A period that stays in EMERGENCY (R92): D = −1000 with the EMERGENCY flag; the target of its record
is a free value (log entry 15). -/
def State.brakePeriod (s : State) (dh c : Int) : State :=
  let g : DemandFlags :=
    { emergency := true, hold := false, blind := s.tdu.facts.v.isNone, sand := false }
  ((s.draw).onTdu fun u =>
    { u with d := -1000, periodD := -1000
             record := { dh := dh, dt := Config.unformedTarget s.free, c := c, flags := g }
    }).emitDemand (-1000) g c

/-- The dead-man check after stage 7 (R77). -/
def State.deadmanCheck (s : State) : State :=
  if s.tdu.driving ∧ s.level .deadman = false ∧ s.tdu.grace = none ∧
      (s.tdu.periodD > 0 ∨ s.standing = false) then s.onTdu Tdu.startGrace
  else s

/-- The handle value read at the opening of a period: H, or a free value before the first sample (log
entry 14). -/
def State.readHandle (s : State) : Int :=
  match s.ciu.handle with
  | some h => (h : Int)
  | none => ((Config.unsampledHandle s.free).toNat : Int)

/-- The model's free-value counter advances when H had to be drawn. -/
def State.drawHandle (s : State) : State := if s.ciu.handle = none then s.draw else s

/-- The stages of a demand period, the readings having been advanced (R95, R92). -/
def State.computeDemand (s : State) (p : Profile) : State :=
  let dh := handleTarget p s.ciu.fault s.readHandle
  let c := s.capC p.maxSpeed
  let t := s.drawHandle.leaveEmergency dh
  if t.tdu.state = .emergency then t.brakePeriod dh c else t.drivePeriod p dh c

end Sys2Proof.Machine
end

