-- ==== Sys2Proof/Machine/Stop.lean ====
section
/-! DEFINITION. The Stop Request Unit (Chapter 9). -/

namespace Sys2Proof.Machine

/-- A STOP_INDICATE of the record as it stands (R145). -/
def State.indicateFrame (s : State) : Frame :=
  ownFrame s.own (broadcast.setWidth 8) kindStopIndicate priorityIndicate s.sru.seq
    (indicatePayload s.sru.record)

/-- A STOP_INDICATE sent; the indicate sequence advances when it is generated (R145). -/
def State.indicate (s : State) : State :=
  let t := s.sendOwn priorityIndicate s.indicateFrame
  if s.canSend then t.onSru fun u => { u with seq := u.seq + 1 } else t

/-- A STOP_INDICATE sent in REQUESTED, which starts the refresh timer at 1 s, sent or not (R145). -/
def State.indicateRequested (s : State) : State :=
  (s.indicate).onSru fun u => { u with refreshTimer := some 1000 }

/-- Door n in the mask of a door set (R181). -/
def doorBit (n : Nat) : BitVec 16 := (1#16) <<< (n - 1)

/-- The press count raised by one, saturating at 255 (R141, R143). -/
def StopRecord.pressed (r : StopRecord) : StopRecord := { r with presses := min 255 (r.presses + 1) }

/-- A valid press in IDLE (R143, R146). -/
def State.firstPress (s : State) (door : Nat) (accessible : Bool) : State :=
  ((s.onSru fun u =>
    { u with record := { state := .requested, doors := doorBit door, accessible := accessible
                         firstPress := some s.cmn.partTime, presses := 1 }
             lamp := true }).indicateRequested).onSnu
    fun u => u.requestEvent (if accessible then .accessChime else .chime)

/-- A valid press in REQUESTED (R143, R146). -/
def State.furtherPress (s : State) (door : Nat) (accessible : Bool) : State :=
  let raises := accessible && !s.sru.record.accessible
  let t := s.onSru fun u =>
    { u with record := { u.record.pressed with
        doors := u.record.doors ||| doorBit door
        accessible := u.record.accessible || accessible } }
  if raises then (t.onSnu fun u => u.requestEvent .accessChime).indicateRequested else t

/-- A valid press, taken by the state of the record (R143). -/
def State.validPress (s : State) (door : Nat) (accessible : Bool) : State :=
  match s.sru.record.state with
  | .idle => s.firstPress door accessible
  | .requested => s.furtherPress door accessible
  | _ => s.onSru fun u => { u with record := u.record.pressed }

/-- A STOP_PRESS judged (R142): not acted on outside ACTIVE, rejected, invalid, or valid. -/
def State.stopPressTaken (s : State) (f : Frame) : State :=
  if s.cru.role ≠ .active then s
  else
    match stopPress f.payload with
    | none => s.onSru fun u => { u with rejected := bump u.rejected }
    | some (door, accessible) =>
      if door = 0 ∨ ((s.tdu.live.getD s.tdu.shadow).doorCount : Int) < (door : Int) then
        s.count .stopPanel
      else s.validPress door accessible

/-- The record enters SERVING: the STOP lamp dark, both timers stopped, the indicate sent (R144). -/
def State.serve (s : State) : State :=
  (s.onSru fun u =>
    { u with record := { u.record with state := .serving }, lamp := false
             refreshTimer := none, inhibitTimer := none }).indicate

/-- The record enters INHIBIT (R144). -/
def State.inhibit (s : State) : State :=
  (s.onSru fun u =>
    { u with record := { u.record with state := .inhibit }, inhibitTimer := some 2000 }).indicate

/-- A debounced change of the door release (R144). -/
def State.doorChange (s : State) (on : Bool) : State :=
  if s.cru.role ≠ .active then s
  else
    match s.sru.record.state, on with
    | .serving, true => s
    | _, true => s.serve
    | .serving, false => s.inhibit
    | _, false => s

/-- The unit with the empty record, its timers stopped and the lamp dark (R141, R147). -/
def Sru.emptied (u : Sru) : Sru :=
  { u with record := StopRecord.empty, inhibitTimer := none, refreshTimer := none, lamp := false }

/-- The unit as ACTIVE is entered: SERVING at once where the door release is on (R147). -/
def State.stopStart (s : State) : State :=
  let t := s.onSru Sru.emptied
  if t.level .doorRelease then t.serve else t

/-- The unit as ACTIVE is left: a final STOP_INDICATE with state OFF where the state was not IDLE,
carrying the door set and the accessible flag, then the empty record (R147). -/
def State.stopEnd (s : State) : State :=
  if s.sru.record.state = .idle then s.onSru Sru.emptied
  else
    ((s.onSru fun u => { u with record := { u.record with state := .inhibit } }).indicate).onSru
      Sru.emptied

end Sys2Proof.Machine
end

