-- ==== Sys2Proof/Machine/LoopLink.lean ====
section
/-! DEFINITION. The Loop Link Unit (Chapter 7): the carrier filter, the request queue, the end of
listening, the depot test with its checker, and the search for a telegram start. -/

namespace Sys2Proof.Machine

/-! ### The carrier filter -/

/-- LOOP_CD has held `level`, which is not the carrier presence, for 5 ms without a break (R106). -/
def Llu.carrierDue (u : Llu) (level : Bool) : Bool :=
  decide (u.cdPin = level ∧ u.carrier ≠ level ∧ 5000 ≤ u.filter.getD 0)

/-- The carrier presence changes to a level, and the filter begins anew (R106). -/
def Llu.setCarrier (u : Llu) (level : Bool) : Llu := { u with carrier := level, filter := none }

/-! ### The request queue -/

/-- The queue after an offer taken while listening: the waiting request of the same junction is
replaced in its place; otherwise the offer joins the tail where fewer than 8 wait (R114). -/
def queueOffer (l : List PointRequest) (q : PointRequest) : List PointRequest :=
  if l.any fun x => x.junction == q.junction then
    l.map fun x => if x.junction = q.junction then q else x
  else if l.length < 8 then l ++ [q]
  else l

/-- An offer of a point request: discarded while not listening (R114). A not-sent report changes
nothing in the Junction Unit (R129). -/
def State.offerRequest (s : State) (q : PointRequest) : State :=
  if s.listening then s.onLlu fun u => { u with queue := queueOffer u.queue q } else s

/-- A withdrawal of a junction's waiting request (R114). -/
def Llu.withdraw (u : Llu) (junction : Nat) : Llu :=
  { u with queue := u.queue.filter fun x => x.junction != junction }

/-- The transmitter is free, and LOOP_TXEN has been low for at least one bit time (R114). -/
def Llu.transmitterFree (u : Llu) : Bool := decide (u.sending = none ∧ u.txen = false ∧ 625 ≤ u.txHeld)

/-- How long the telegram of a point request takes, in thirds of a microsecond: 625 for each bit (R108). -/
def SendingRequest.thirds (q : SendingRequest) : Nat := (telegramBits (pointRequestTelegram q)).length * 625

/-- The last check bit of the request in transmission has been sent (R114). -/
def Llu.requestSent (u : Llu) : Bool :=
  match u.sending with
  | some q => decide (q.thirds ≤ u.txHeld)
  | none => false

/-- The time up to which the level of LOOP_TXEN is measured: the whole telegram while it is high, one bit
while it is low (R114). -/
def Llu.txLimit (u : Llu) : Nat :=
  match u.sending with
  | some q => if u.txen then q.thirds else 625
  | none => 625

/-- The end of listening: a telegram in reception discarded, one in transmission cut off, the waiting
requests discarded (R107, R110, R114). The not-sent reports change nothing (R129). -/
def Llu.stopListening (u : Llu) : Llu :=
  { u with
    rx := .idle
    front := LoopFront.start
    carrierDiscards := if u.rx = .telegram then bump u.carrierDiscards else u.carrierDiscards
    txen := false
    txHeld := u.lowFor
    sending := none
    cutOff := if u.sending.isSome then bump u.cutOff else u.cutOff
    queue := [] }

/-- HUNT entered. DESIGN CHOICE (log entry 40): the search begins anew, over the bits taken from here
on. -/
def Llu.hunt (u : Llu) : Llu := { u with rx := .hunt, front := LoopFront.start }

/-- The start of listening (R107). -/
def Llu.startListening (u : Llu) : Llu := if u.rx = .idle then u.hunt else u

/-! ### The depot test -/

/-- A test as it is opened (R115). -/
def DepotTest.opened (loop : Nat) : DepotTest :=
  { loop := loop, inSync := false, checked := 0, errors := 0, delay := [], history := []
    window := [] }

/-- The outcome of the prediction of a judged bit against 9 history bits, oldest first: true is a
mismatch. The bits five and nine places before it are the fifth and the first of the nine (R115). -/
def mismatchOf (history : List Bool) (bit : Bool) : Bool :=
  if history.all (fun b => !b) then true
  else bit != (history.getD 4 false != history.getD 0 false)

/-- A list that keeps its newest `n` members, one more having joined. -/
def pushKeep (n : Nat) (l : List Bool) (x : Bool) : List Bool :=
  (l ++ [x]).drop ((l ++ [x]).length - n)

def mismatches (l : List Bool) : Nat := (l.filter id).length

/-- The effect of one prediction on the window, the counts and the checker state (R115). -/
def DepotTest.predicted (t : DepotTest) (mismatch : Bool) : DepotTest :=
  let w := pushKeep 64 t.window mismatch
  if t.inSync then
    let c := { t with checked := bump t.checked
                      errors := if mismatch then bump t.errors else t.errors }
    if 16 ≤ mismatches w then { c with inSync := false, window := [] } else { c with window := w }
  else { t with window := w, inSync := decide (w.length = 64 ∧ mismatches w ≤ 2) }

/-- A bit judged (R115). -/
def DepotTest.judge (t : DepotTest) (bit : Bool) : DepotTest :=
  let u := if t.history.length = 9 then t.predicted (mismatchOf t.history bit) else t
  { u with history := pushKeep 9 t.history bit }

/-- A bit that has left a full delay is judged (R115; log entry 18). -/
def DepotTest.leave (t : DepotTest) : DepotTest :=
  match t.delay with
  | b :: l => if 32 ≤ t.delay.length then { t.judge b with delay := l } else t
  | [] => t

/-- A bit taken in HUNT enters the delay, whose head leaves first where 32 bits are held (R115). -/
def DepotTest.take (t : DepotTest) (bit : Bool) : DepotTest :=
  let u := t.leave
  { u with delay := u.delay ++ [bit] }

/-- A telegram start while a test is open (R115). -/
def DepotTest.telegramStart (t : DepotTest) : DepotTest :=
  { t.leave with delay := [], history := [], window := [], inSync := false }

/-- The test passes with enough bits checked and few enough errors (R116). -/
def DepotTest.passes (t : DepotTest) (limit : Nat) : Bool :=
  decide (4096 ≤ t.checked ∧ t.errors ≤ limit)

/-! ### The search for a telegram start -/

/-- A received bit completes a telegram start with those taken in HUNT before it (R109). -/
def Llu.completes (u : Llu) (bit : Bool) : Bool := telegramStartAt (u.front.heard ++ [bit])

/-- A telegram start recognised: TELEGRAM is entered on its last bit, with an octet boundary behind it,
and the delay of an open test is dropped (R109, R115). -/
def Llu.telegramStart (u : Llu) : Llu :=
  { u with rx := .telegram, front := LoopFront.start, test := u.test.map DepotTest.telegramStart }

/-- A bit taken in HUNT: it completes a telegram start, or joins the search and the delay of an open test
(R109, R115). -/
def Llu.huntBit (u : Llu) (bit : Bool) : Llu :=
  if u.completes bit then u.telegramStart
  else
    { u with
      front := { u.front with heard := pushKeep 27 u.front.heard bit }
      test := u.test.map fun t => t.take bit }

/-! ### The end of a test, and the role -/

/-- The result of a test ended by a carrier loss (R116). -/
def State.testResult (s : State) : State :=
  match s.llu.test with
  | none => s
  | some t =>
    let pass := t.passes (s.cmn.attrConfig .loopLink).testLimit
    let r : TestRecord :=
      { pass := pass, loop := t.loop, checked := t.checked, errors := t.errors, time := s.cmn.partTime }
    let u := (s.onLlu fun u => { u with test := none, lastTest := some r }).log
      { kind := if pass then .testPass else .testFail, block := .llu, junction := some t.loop
        value := some (t.errors : Int) }
    if pass then u.onCmn fun c => c.restore .loopLink else u.count .loopLink

/-- Listening ends because the role leaves ACTIVE: an open test is abandoned (R114, R116). -/
def State.loopOff (s : State) : State :=
  s.onLlu fun u =>
    { (if s.llu.carrier then u.stopListening else u) with test := none }

/-- Listening starts as the role becomes ACTIVE with the carrier present (R107). -/
def State.loopOn (s : State) : State :=
  if s.llu.carrier then s.onLlu Llu.startListening else s

end Sys2Proof.Machine
end

