-- ==== Sys2Proof/Machine/Junction.lean ====
section
/-! DEFINITION. The Junction Unit (Chapter 8): contexts, their requests, status updates, closures, and
route presses. -/

namespace Sys2Proof.Machine

/-! ### The list -/

/-- The open context of a junction. No two contexts have the same junction (R123). -/
def Jcu.find (u : Jcu) (j : Nat) : Option Ctx := u.contexts.find? fun x => x.junction == j

/-- The context of a junction changed in its place. -/
def Jcu.update (u : Jcu) (j : Nat) (f : Ctx → Ctx) : Jcu :=
  { u with contexts := u.contexts.map fun x => if x.junction = j then f x else x }

/-- The ROUTE lamp and the two sound requests follow their conditions (R136, R137). -/
def State.judgeJunctions (s : State) : State :=
  (s.onJcu fun u => { u with routeLamp := u.warning }).onSnu
    fun u => (u.setWarning s.jcu.warning).setAlertJunction s.jcu.alert

/-- A context changed to a state other than REQUESTING: where it was REQUESTING its retry timer stops
and its waiting request is withdrawn (R127). -/
def State.ctxTo (s : State) (x : Ctx) (f : Ctx → Ctx) : State :=
  let t := s.onJcu fun u => u.update x.junction fun y => { f y with retry := none }
  (if x.state = .requesting then t.onLlu fun u => u.withdraw x.junction else t).judgeJunctions

/-- Attempt `n` offered: the context is REQUESTING and its retry timer starts (R127). -/
def State.offerAttempt (s : State) (j : Nat) (d : Direction) (n : Nat) : State :=
  ((s.onJcu fun u => u.update j fun x =>
    { x with state := .requesting, attempt := n, retry := some 200 }).offerRequest
      { junction := j, direction := d, attempt := n }).judgeJunctions

/-! ### Creation -/

/-- A context's values at creation apart from its direction and state (R123, R126). -/
def State.freshCtx (s : State) (tabled : Bool) (j straight diverging unconfirmed length : Nat) : Ctx :=
  { junction := j, tabled := tabled, direction := none, source := none, state := .noRoute, attempt := 0, status := none,
    requestSent := none, wasSet := false, straightCap := straight, divergingCap := diverging,
    unconfirmedCap := unconfirmed, junctionLength := length, odoCreated := s.tdu.odometer,
    movingCreated := s.tdu.movingTime, odoCleared := none, movingCleared := none,
    trainLength := none, retry := none }

/-- The entry of a live table for a junction. -/
def LiveRoute.entryFor (t : LiveRoute) (j : Nat) : Option RouteEntry :=
  t.entries.find? fun e => e.junction == j

/-- The values a context copies from the live table (R126). -/
def State.copiedCtx (s : State) (t : LiveRoute) (j : Nat) : Ctx :=
  let e := t.entryFor j
  s.freshCtx true j ((e.bind fun x => x.straightCap).getD t.header.straightCap)
    ((e.bind fun x => x.divergingCap).getD t.header.divergingCap) t.header.unconfirmed
    ((e.bind fun x => x.junctionLength).getD t.header.junctionLength)

/-- A context placed at the tail of the list. -/
def State.addCtx (s : State) (x : Ctx) : State :=
  (s.onJcu fun u => { u with contexts := u.contexts ++ [x] }).judgeJunctions

/-- A context with a direction placed at the tail, and its first attempt offered (R126, R127). -/
def State.addRequesting (s : State) (x : Ctx) (d : Direction) (src : DirSource) : State :=
  (s.addCtx { x with direction := some d, source := some src, state := .requesting }).offerAttempt
    x.junction d 1

/-- The creation of a context (R126). -/
def State.createCtx (s : State) (j : Nat) : State :=
  match s.jcu.live with
  | none =>
    (s.addCtx (s.freshCtx false j 0 0 100 30)).log
      { kind := .routeTableMissing, block := .jcu, junction := some j }
  | some t =>
    match s.jcu.preselection with
    | some d =>
      (s.onJcu fun u => { u with preselection := none }).addRequesting (s.copiedCtx t j) d .manual
    | none =>
      match t.entryFor j with
      | some e => s.addRequesting (s.copiedCtx t j) e.direction .table
      | none => s.addCtx (s.copiedCtx t j)

/-! ### Idents and replies -/

/-- An entry into MISMATCH, logged unless the context is there already (R131). -/
def State.toMismatch (s : State) (x : Ctx) (cause : Int) : State :=
  if x.state = .mismatch then s
  else
    (s.ctxTo x fun y => { y with state := .mismatch }).log
      { kind := .junctionMismatch, block := .jcu, junction := some x.junction, value := some cause }

/-- A status update of an open context (R131). -/
def State.statusUpdate (s : State) (j : Nat) (st : PointStatus) (locked : Nat) : State :=
  match s.jcu.find j with
  | none => s
  | some x =>
    if x.state = .passed then s
    else
      let t := s.onJcu fun u => u.update j fun y => { y with status := some st }
      match st with
      | .none => t
      | .moving => t
      | .fault => t.toMismatch x 2
      | .set d =>
        if s.jcu.ourRun ≠ some locked then t
        else if x.direction = some d then t.ctxTo x fun y => { y with state := .set, wasSet := true }
        else t.toMismatch x 1

/-- An ident refused for a full list (R125). -/
def State.contextFull (s : State) (j : Nat) : State :=
  if s.jcu.overflow then s
  else
    ((s.onJcu fun u => { u with overflow := true }).judgeJunctions).log
      { kind := .contextFull, block := .jcu, junction := some j }

/-- An accepted LOOP_IDENT of kind REQUEST (R125). -/
def State.requestIdent (s : State) (j : Nat) (st : PointStatus) (locked : Nat) : State :=
  let t := s.onJcu fun u => { u with lastIdent := some (j, s.cmn.partTime) }
  if (s.jcu.find j).isSome then t.statusUpdate j st locked
  else if 8 ≤ s.jcu.contexts.length then t.contextFull j
  else (t.createCtx j).statusUpdate j st locked

/-- An accepted LOOP_IDENT of kind CLEAR (R132). -/
def State.clearIdent (s : State) (j : Nat) : State :=
  match s.jcu.find j with
  | none => s
  | some x =>
    if x.state = .passed then s
    else
      s.ctxTo x fun y =>
        { y with state := .passed, odoCleared := some s.tdu.odometer
                 movingCleared := some s.tdu.movingTime
                 trainLength := s.tdu.live.map fun p => p.trainLength.toNat }

/-- The context an accepted POINT_REPLY is matched to (R128). -/
def Jcu.matched (u : Jcu) (j run : Nat) : Option Ctx := if u.ourRun = some run then u.find j else none

/-- Whether a context waits on a reply: REQUESTING or UNANSWERED (R128). -/
def Ctx.awaits (x : Ctx) : Bool := decide (x.state = .requesting ∨ x.state = .unanswered)

/-- An accepted POINT_REPLY (R128). -/
def State.pointReply (s : State) (j run : Nat) (r : ReplyResult) : State :=
  match s.jcu.matched j run with
  | none => s.onJcu fun u => { u with unmatched := bump u.unmatched }
  | some x =>
    match r with
    | .accepted => if x.awaits then s.ctxTo x fun y => { y with state := .accepted } else s
    | .refused reason =>
      if x.awaits ∨ x.state = .accepted then
        (s.ctxTo x fun y => { y with state := .refused }).log
          { kind := .junctionRefused, block := .jcu, junction := some j, value := some (reason : Int) }
      else s

/-! ### Retries and the carrier -/

/-- A context becomes UNANSWERED: JUNCTION_UNANSWERED with its attempt count, then the LOOP_LINK event
(R127, R129, R163). -/
def State.toUnanswered (s : State) (x : Ctx) : State :=
  ((s.ctxTo x fun y => { y with state := .unanswered }).log
    { kind := .junctionUnanswered, block := .jcu, junction := some x.junction
      value := some (x.attempt : Int) }).count .loopLink

/-- An expiry of a context's retry timer (R127). -/
def State.retryExpiry (s : State) (x : Ctx) : State :=
  match x.direction with
  | none => s
  | some d =>
    if x.attempt < 5 then s.offerAttempt x.junction d (x.attempt + 1) else s.toUnanswered x

/-- The carrier loss, on one context (R129). -/
def State.loseCarrier (s : State) (x : Ctx) : State :=
  if x.state = .requesting then s.toUnanswered x else s

/-- The carrier loss, on each context in list order (R129). -/
def State.carrierLost (s : State) : State := s.jcu.contexts.foldl State.loseCarrier s

/-- A sent report of the Loop Link Unit (R129). -/
def State.requestReported (s : State) (j : Nat) : State :=
  s.onJcu fun u => u.update j fun x => { x with requestSent := some s.cmn.partTime }

/-! ### Closing -/

/-- Whether the distance and moving time readings close a PASSED context (R133). -/
def Ctx.cleared (x : Ctx) (odo moving : Word) : Bool :=
  (match x.odoCleared, x.trainLength with
    | some o, some l => decide (l * 1000 ≤ elapsed odo o)
    | _, _ => false) ||
  (match x.movingCleared with
    | some m => decide (120000 ≤ elapsed moving m)
    | none => false)

/-- What the readings do to a context: nothing, or a closure with the entry it logs, if any (R133). -/
def Ctx.closure (x : Ctx) (odo moving : Word) : Option (Option LogInfo) :=
  if x.state = .passed then
    if x.cleared odo moving then some none else none
  else if (x.junctionLength + 100) * 1000 < elapsed odo x.odoCreated then
    some (some { kind := .clearMissed, block := .jcu, junction := some x.junction
                 value := some ((elapsed odo x.odoCreated / 1000 : Nat) : Int) })
  else if 120000 ≤ elapsed moving x.movingCreated then
    some (some { kind := .junctionTimeout, block := .jcu, junction := some x.junction
                 value := some (codeCtx x.state : Int) })
  else none

/-- A closure (R134). -/
def State.closeCtx (s : State) (x : Ctx) (entry : Option LogInfo) : State :=
  let t := (((s.onJcu fun u =>
    { u with contexts := u.contexts.filter fun y => y.junction != x.junction
             overflow := false }).onLlu fun u => u.withdraw x.junction)).judgeJunctions
  match entry with
  | some e => t.log e
  | none => t

/-- A context judged for closure. -/
def State.judgeClosure (s : State) (x : Ctx) : State :=
  match x.closure s.tdu.odometer s.tdu.movingTime with
  | some e => s.closeCtx x e
  | none => s

/-- The closures of a demand period, in list order; a period at which the speed is unknown makes no
advance (R133). -/
def State.judgeClosures (s : State) : State :=
  if s.speedKnown then s.jcu.contexts.foldl State.judgeClosure s else s

/-! ### Route presses -/

/-- The context a route press acts on: the antenna is over the REQUEST loop of its junction, and a
Route Table is live (R122). A press cannot act on a context created without a live table, also after a
COMMIT made since (R126). DEDUCED (log entry 51): such a context is no target, so that the press goes to the
preselection. -/
def State.pressTarget (s : State) : Option Ctx :=
  match s.jcu.lastIdent with
  | none => none
  | some (j, t) =>
    if s.llu.carrier ∧ elapsed s.cmn.partTime t < 500 ∧ s.jcu.live.isSome then
      (s.jcu.find j).filter fun x => x.tabled
    else none

/-- A route change (R130). -/
def State.routeChange (s : State) (x : Ctx) (d : Direction) : State :=
  if x.state = .set ∨ x.state = .passed then
    s.log { kind := .routeChangeRefused, block := .jcu, junction := some x.junction
            value := some (codeDirection d : Int) }
  else
    (s.onJcu fun u => u.update x.junction fun y =>
      { y with direction := some d, source := some .manual, wasSet := false }).offerAttempt
        x.junction d 1

/-- The preselection after a press of a direction (R122). -/
def toggle (p : Option Direction) (d : Direction) : Option Direction :=
  if p = some d then none else some d

/-- A route press or PRESELECT (R122). -/
def State.routePress (s : State) (d : Direction) : State :=
  if s.cru.role ≠ .active then s
  else
    match s.pressTarget with
    | some x => s.routeChange x d
    | none => s.onJcu fun u => { u with preselection := toggle u.preselection d }

/-! ### The role -/

/-- The unit as ACTIVE is left (R138). -/
def State.junctionEnd (s : State) : State :=
  (s.onJcu fun u =>
    { u with contexts := [], overflow := false, preselection := none }).judgeJunctions

/-- The unit as ACTIVE is entered (R138). -/
def State.junctionStart (s : State) : State :=
  (s.onJcu fun u =>
    { u with contexts := [], overflow := false, preselection := none
             lastIdent := none }).judgeJunctions

end Sys2Proof.Machine
end

