-- ==== Sys2Proof/Machine/Roles.lean ====
section
/-! DEFINITION. The Cab Role Unit (Chapter 4): the role with the effects of a change, the announces,
the Cab Table, the key, and releasing. -/

namespace Sys2Proof.Machine

/-! ### The announce -/

/-- The role an announce carries: only CLAIMING, ACTIVE and CONFLICT announce (R59). -/
def announcedRole : Role → Option Announced
  | .claiming => some .claiming
  | .active => some .active
  | .conflict => some .conflict
  | _ => none

/-- The CAB_ANNOUNCE of a role (R59). -/
def State.announceFrame (s : State) (r : Announced) : Frame :=
  ownFrame s.own (broadcast.setWidth 8) kindCabAnnounce priorityAnnounce s.cru.seq
    (announcePayload r s.keyOn (s.tdu.live.getD s.tdu.shadow).vehicleNumber)

/-- A CAB_ANNOUNCE sent; the seq advances when it is generated (R59). -/
def State.sendAnnounce (s : State) : State :=
  match announcedRole s.cru.role with
  | none => s
  | some r =>
    let t := s.sendOwn priorityAnnounce (s.announceFrame r)
    if s.canSend then t.onCru fun u => { u with seq := u.seq + 1 } else t

/-! ### A change of role -/

/-- BLOCKED and CONFLICT: the lamp flashes and the role's claim of CAB_ALERT stands (R69, R70). -/
def Role.alerts (r : Role) : Bool := decide (r = .blocked ∨ r = .conflict)

/-- The Cab Role Unit's own state after a change to role `r` (R59, R62, R64, R67, R70). -/
def Cru.enter (u : Cru) (r : Role) : Cru :=
  { u with
    role := r, releasing := false, releasingTimer := none
    announceTimer := if (announcedRole r).isSome then some 100 else none
    claimWindow := if r = .claiming then some 300 else none
    clearTimer := if r = .blocked ∧ u.hearsCommand = false then some 500 else none
    pendingKeyOn := u.pendingKeyOn && decide (r = .inactive ∨ r = .passive)
    lamp := decide (r = .active) || r.alerts
    flashTimer := if r.alerts then some 500 else none }

/-- What follows on departure from a role (R19, R69, R90). -/
def State.departFrom (s : State) (old new : Role) : State :=
  match old with
  | .inactive =>
    let t := s.unloopBoth 4
    { t with ports := t.ports.map LinePort.stopLoopup }
  | .active =>
    let t := (s.junctionEnd).stopEnd
    (if new = .conflict then t.tractionHold else t.tractionOff).loopOff
  | .conflict => if new = .active then s else s.tractionOff
  | _ => s

/-- What follows on arrival in ACTIVE (R69, R90). -/
def State.arriveActive (s : State) (old : Role) : State :=
  let t := (s.junctionStart).stopStart
  (if old = .conflict then t.tractionRun else t.tractionStart).loopOn

/-- A change of the role with all its effects (R58, R69). The announce comes last (log entry 11). -/
def State.setRole (s : State) (r : Role) : State :=
  let t := (s.onCru fun u => u.enter r).departFrom s.cru.role r
  let t := if r = .active then t.arriveActive s.cru.role else t
  (t.onSnu fun u => u.setAlertRole r.alerts).sendAnnounce

/-- A role taken by the table (R58). -/
def State.roleByTable (s : State) : State := s.setRole s.cru.tableRole

/-! ### The key -/

/-- The key-on from the second row of R62 on. -/
def State.takeKeyOn (s : State) : State :=
  if s.cru.hearsCommand then s.setRole .blocked else s.setRole .claiming

/-- A key-on taken in INACTIVE or PASSIVE (R62). -/
def State.keyOnIdle (s : State) : State :=
  let t := (s.unloopBoth 3).onCru fun u => { u with tableFull := false }
  if t.tdu.live.isSome then t.takeKeyOn
  else
    (t.log { kind := .profileMissing, block := .cru }).onCru fun u => { u with pendingKeyOn := true }

/-- A key-on taken in ACTIVE while releasing (R66). -/
def State.keyOnReleasing (s : State) : State :=
  (s.onCru fun u =>
    { u with releasing := false, releasingTimer := none, tableFull := false }).tractionRun

/-- The key turning on (R62, R66). -/
def State.keyTurnsOn (s : State) : State :=
  match s.cru.role with
  | .inactive => s.keyOnIdle
  | .passive => s.keyOnIdle
  | .active => if s.cru.releasing then s.keyOnReleasing else s
  | _ => s

/-- The releasing timer starts from zero while the speed is unknown, and is stopped otherwise (R66). -/
def releasingStart (known : Bool) : Option Nat := if known then none else some 10000

/-- Releasing begins (R66). -/
def State.startReleasing (s : State) : State :=
  (s.onCru fun u =>
    { u with releasing := true, releasingTimer := releasingStart s.speedKnown }).tractionHold

/-- The key turning off (R63 to R68). -/
def State.keyTurnsOff (s : State) : State :=
  match s.cru.role with
  | .inactive => s.onCru fun u => { u with pendingKeyOn := false }
  | .passive => s.onCru fun u => { u with pendingKeyOn := false }
  | .active =>
    if s.cru.releasing then s
    else if s.standing then s.roleByTable
    else s.startReleasing
  | _ => s.roleByTable

/-- A debounced change of the key; the unaddressed part takes no notice of it (R58, R62). -/
def State.keyChange (s : State) (on : Bool) : State :=
  if s.addressed = false then s else if on then s.keyTurnsOn else s.keyTurnsOff

/-! ### The Cab Table -/

/-- An entry inserted at its place in ascending order of address (R60). -/
def insertCab (e : CabEntry) : List CabEntry → List CabEntry
  | [] => [e]
  | x :: l => if e.cab < x.cab then e :: x :: l else x :: insertCab e l

def Cru.holdsCab (u : Cru) (a : Addr) : Bool := u.cabs.any fun e => e.cab == a

/-- The table after an announce that it has an entry or a place for (R60). -/
def Cru.hear (u : Cru) (e : CabEntry) : Cru :=
  if u.holdsCab e.cab then { u with cabs := u.cabs.map fun x => if x.cab = e.cab then e else x }
  else { u with cabs := insertCab e u.cabs }

/-- The clear timer in BLOCKED follows the table (R67; log entry 22). -/
def Cru.followClear (u : Cru) : Cru :=
  { u with clearTimer := if u.hearsCommand then none else some (u.clearTimer.getD 500) }

/-- An ACTIVE cab hears another in command (R65, R66). -/
def State.meetCommand (s : State) (a : Addr) : State :=
  let t := s.log { kind := .roleConflict, block := .cru, node := some a }
  if s.cru.releasing then t.roleByTable else t.setRole .conflict

/-- INACTIVE and PASSIVE follow the table (R63). -/
def State.followTable (s : State) : State :=
  if s.cru.role = s.cru.tableRole then s else s.roleByTable

/-- CONFLICT ends when the table holds no entry announced ACTIVE or CONFLICT (R68). -/
def State.followConflict (s : State) : State :=
  if s.cru.hearsCommand then s else s.setRole .active

/-- The role rule for an announce of role `r` from address `a`, after the table is updated (R63 to
R68). -/
def State.roleOnAnnounce (s : State) (a : Addr) (r : Announced) : State :=
  match s.cru.role with
  | .inactive => s.followTable
  | .passive => s.followTable
  | .claiming => if r ≠ .claiming ∨ a < s.own then s.setRole .blocked else s
  | .active => if r = .claiming then s else s.meetCommand a
  | .blocked => s.onCru Cru.followClear
  | .conflict => s.followConflict

/-- An announce for which the table has no place (R60). -/
def State.cabTableFull (s : State) (a : Addr) : State :=
  if s.cru.tableFull then s
  else
    (s.onCru fun u => { u with tableFull := true }).log
      { kind := .cabTableFull, block := .cru, node := some a }

/-- A CAB_ANNOUNCE taken by the unit (R60). -/
def State.takeAnnounce (s : State) (f : Frame) : State :=
  let a := addrOf f.src
  match announceRole f.payload with
  | none => s.onCru fun u => { u with rejected := bump u.rejected }
  | some r =>
    if s.cru.holdsCab a = false ∧ 4 ≤ s.cru.cabs.length then s.cabTableFull a
    else
      (s.onCru fun u => u.hear { cab := a, role := r, time := s.cmn.partTime, left := 500 }
        ).roleOnAnnounce a r

/-- The role rule for a removal (R61, R63 to R68). -/
def State.roleOnRemoval (s : State) : State :=
  match s.cru.role with
  | .passive => s.followTable
  | .blocked => s.onCru Cru.followClear
  | .conflict => s.followConflict
  | _ => s

/-- An entry's timer expires (R61). -/
def State.entryTimeout (s : State) (a : Addr) : State :=
  (s.onCru fun u => { u with cabs := u.cabs.filter fun e => e.cab != a }).roleOnRemoval

/-! ### Releasing -/

/-- Releasing ends by standing (1) or by its timer (2) (R66). -/
def State.keyOffMoving (s : State) (cause : Int) : State :=
  (s.log { kind := .keyOffMoving, block := .cru, value := some cause }).roleByTable

/-- A demand period's finding taken for releasing (R66, R84): standing ends it; the timer runs while the
speed is unknown. -/
def State.releasingFinding (s : State) : State :=
  if s.cru.role ≠ .active ∨ s.cru.releasing = false then s
  else if s.standing then s.keyOffMoving 1
  else
    s.onCru fun u =>
      { u with releasingTimer := if s.speedKnown then none else some (u.releasingTimer.getD 10000) }

end Sys2Proof.Machine
end

