-- ==== Sys2Proof/Machine/Tick.lean ====
section
/-! DEFINITION. What happens at the end of a millisecond: part time advances (R165) and every timer that
runs moves on. -/

namespace Sys2Proof.Machine

/-- A running timer with one millisecond less left. -/
def down (t : Option Nat) : Option Nat := t.map fun n => n - 1

/-- A running measure one millisecond longer. -/
def up (t : Option Nat) : Option Nat := t.map fun n => n + 1

/-- A measure that runs while two levels differ, up to its end, and is discarded while they agree (R75,
R106). It counts 1 as the levels are first found to differ (DEDUCED, log entry 38). -/
def follow (limit : Nat) (differ : Bool) (t : Option Nat) : Option Nat :=
  if differ then some (min limit (t.getD 0 + 1)) else none

def Fsw.tick (u : Fsw) : Fsw :=
  { u with
    nodes := u.nodes.map fun e =>
      { e with learned := e.learned.map fun l => { l with left := l.left - 1 } }
    stats := u.stats.map fun x => { x with hold := down x.hold } }

def Cru.tick (u : Cru) : Cru :=
  { u with
    cabs := u.cabs.map fun e => { e with left := e.left - 1 }
    announceTimer := down u.announceTimer
    claimWindow := down u.claimWindow
    clearTimer := down u.clearTimer
    releasingTimer := down u.releasingTimer
    flashTimer := down u.flashTimer }

/-- An input read at `pin`, and its stability timer with it (R75). -/
def InputState.read (x : InputState) (pin : Bool) : InputState :=
  { x with pin := pin, stability := follow 10 (pin != x.level) x.stability }

/-- The nine inputs read: each at its next level, or at the level it keeps (R75). -/
def Ciu.readInputs (u : Ciu) : Tab InputState 9 :=
  match u.ahead with
  | [] => u.inputs.map fun x => x.read x.pin
  | l :: _ => u.inputs.mapIdx fun n x => x.read (l.get n x.pin)

def Ciu.tick (u : Ciu) : Ciu :=
  { u with
    inputs := u.readInputs
    ahead := u.ahead.tail
    wiper := u.wiperAhead.headD u.wiper
    wiperAhead := u.wiperAhead.tail
    inRange := up u.inRange }

def Tdu.tick (u : Tdu) : Tdu :=
  { u with periodTimer := down u.periodTimer, grace := down u.grace }

def Jcu.tick (u : Jcu) : Jcu :=
  { u with contexts := u.contexts.map fun x => { x with retry := down x.retry } }

def Sru.tick (u : Sru) : Sru :=
  { u with inhibitTimer := down u.inhibitTimer, refreshTimer := down u.refreshTimer }

def Player.tick (x : Player) : Player :=
  { x with elapsed := if x.playing.isSome then x.elapsed + 1 else x.elapsed }

def Snu.tick (u : Snu) : Snu :=
  { u with exterior := u.exterior.tick, interior := u.interior.tick }

def Cmn.tick (u : Cmn) : Cmn :=
  { u with
    partTime := u.partTime + 1
    attrs := u.attrs.map fun x => { x with recovery := down x.recovery } }

def Mgu.tick (u : Mgu) : Mgu := { u with reportTimer := down u.reportTimer }

/-- The end of a millisecond (log entry 3). The line ports and the Loop Link Unit count bit times and not
milliseconds. -/
def State.tick (s : State) : State :=
  { s with
    fsw := s.fsw.tick
    cru := s.cru.tick
    ciu := s.ciu.tick
    tdu := s.tdu.tick
    jcu := s.jcu.tick
    sru := s.sru.tick
    snu := s.snu.tick
    cmn := s.cmn.tick
    mgu := s.mgu.tick }

end Sys2Proof.Machine
end

