-- ==== Sys2Proof/Machine/CabEvents.lean ====
section
/-! DEFINITION. The commands of the cab: the consumers of the Local Dispatch Queue other than the
Management Unit (R52), the timers of the Cab Role Unit (Chapter 4), the inputs and the demand period
(Chapters 5 and 6). -/

namespace Sys2Proof.Machine

/-! ### Consumers -/

/-- The frame at the head of the Local Dispatch Queue taken by the consumer of its kind, which releases
its reference when it has acted on it (R52). -/
def State.consume (s : State) (kind : Byte) (act : State → Frame → State) : State :=
  match s.headOfKind kind with
  | none => s
  | some (b, f) => (act s.takeHead f).consumed b

/-- TAKE_CAB_ANNOUNCE (R60). -/
def execTakeCabAnnounce (s : State) : Host.Outcome State Fault Refusal :=
  .next (s.consume kindCabAnnounce State.takeAnnounce)

/-- TAKE_INVERTER_STATUS (R79). -/
def execTakeInverterStatus (s : State) : Host.Outcome State Fault Refusal :=
  .next (s.consume kindInverterStatus State.inverterStatus)

/-- TAKE_STOP_PRESS (R142). -/
def execTakeStopPress (s : State) : Host.Outcome State Fault Refusal :=
  .next (s.consume kindStopPress State.stopPressTaken)

/-! ### Timers of the role -/

/-- ANNOUNCE_TIMER_EXPIRY (R59). -/
def execAnnounceTimerExpiry (s : State) : Host.Outcome State Fault Refusal :=
  .next (if s.cru.announceTimer = some 0 then
      (s.onCru fun u => { u with announceTimer := some 100 }).sendAnnounce
    else s)

/-- CLAIM_WINDOW_EXPIRY (R64). -/
def execClaimWindowExpiry (s : State) : Host.Outcome State Fault Refusal :=
  .next (if s.cru.role = .claiming ∧ s.cru.claimWindow = some 0 then s.setRole .active else s)

/-- The entry of a cab has no time left (R61). -/
def Cru.cabDue (u : Cru) (cab : Addr) : Bool := u.cabs.any fun e => e.cab == cab && e.left == 0

/-- CAB_ENTRY_TIMEOUT (R61). -/
def execCabEntryTimeout (cab : Addr) (s : State) : Host.Outcome State Fault Refusal :=
  .next (if s.cru.cabDue cab then s.entryTimeout cab else s)

/-- CLEAR_TIMER_EXPIRY (R67). -/
def execClearTimerExpiry (s : State) : Host.Outcome State Fault Refusal :=
  .next (if s.cru.role = .blocked ∧ s.cru.clearTimer = some 0 then s.setRole .claiming else s)

/-- RELEASING_TIMER_EXPIRY (R66). -/
def execReleasingTimerExpiry (s : State) : Host.Outcome State Fault Refusal :=
  .next (if s.cru.role = .active ∧ s.cru.releasing = true ∧ s.cru.releasingTimer = some 0 then
      s.keyOffMoving 2
    else s)

/-- CAB_LAMP_FLASH (R70). -/
def execCabLampFlash (s : State) : Host.Outcome State Fault Refusal :=
  .next (if s.cru.flashTimer = some 0 then
      s.onCru fun u => { u with lamp := !u.lamp, flashTimer := some 500 }
    else s)

/-! ### Inputs -/

/-- The new debounced level of an input, with its stability timer stopped (R75). -/
def State.setLevel (s : State) (i : Input) (level : Bool) : State :=
  s.onCiu fun u =>
    { u with inputs := u.inputs.set (inputIndex i) { pin := level, level := level, stability := none } }

/-- HORN is active while the horn button is pressed and the key is on (R153). -/
def State.judgeHorn (s : State) : State := s.onSnu fun u => u.setHorn (s.keyOn && s.level .horn)

/-- A debounced change delivered to its consumers (R76). -/
def State.deliverChange (s : State) (i : Input) (level : Bool) : State :=
  match i with
  | .key => (s.keyChange level).judgeHorn
  | .deadman => s.deadmanChange level
  | .estop => s.estopChange level
  | .doorRelease => s.doorChange level
  | .horn => s.judgeHorn
  | .bell => if level && s.keyOn then s.onSnu Snu.pressBell else s
  | .routeLeft => if level then s.routePress .left else s
  | .routeStraight => if level then s.routePress .straight else s
  | .routeRight => if level then s.routePress .right else s

/-- DEBOUNCED_CHANGE (R75): the stability timer of the input has reached 10 ms with its pin at the level
that the input did not have. -/
def execDebouncedChange (i : Input) (level : Bool) (s : State) : Host.Outcome State Fault Refusal :=
  .next (if (s.ciu.input i).due level then (s.setLevel i level).deliverChange i level else s)

/-- GRACE_TIMER_EXPIRY (R78): DEADMAN with the D of the most recent period, then EMERGENCY (R91). -/
def execGraceTimerExpiry (s : State) : Host.Outcome State Fault Refusal :=
  .next (if s.tdu.driving ∧ s.tdu.grace = some 0 then
      (s.log { kind := .deadman, block := .tdu, value := some s.tdu.periodD }).emergency 2
    else s)

/-- The window after a sample: the first sample fills all 8 places (R73). -/
def Ciu.shift (u : Ciu) (sample : Nat) : List Nat :=
  if u.window.isEmpty then List.replicate 8 sample else u.window.tail ++ [sample]

/-- The handle value formed from a window (R73). -/
def handleValue (window : List Nat) : Nat := window.sum / 8

/-- A handle value that a working handle can reach (R74). -/
def handleInRange (h : Nat) : Bool := decide (8 ≤ h ∧ h ≤ 1015)

/-- A sample taken: the window, H, and the in-range timer of an existing fault (R73, R74). -/
def Ciu.sample (u : Ciu) (sample : Nat) : Ciu :=
  let w := u.shift sample
  let h := handleValue w
  { u with window := w, handle := some h
           inRange := if u.fault && handleInRange h then some (u.inRange.getD 0) else none }

/-- Whether the H that a sample forms declares a handle fault (R74). -/
def Ciu.declares (u : Ciu) (sample : Nat) : Bool :=
  !u.fault && !handleInRange (handleValue (u.shift sample))

/-- A sample taken, with the declaration of a fault where its H is out of range (R73, R74; log entry
20). -/
def State.takeSample (s : State) (sample : Nat) : State :=
  let t := s.onCiu fun u => u.sample sample
  if s.ciu.declares sample then
    (t.onCiu fun u => { u with fault := true }).log
      { kind := .handleFault, block := .ciu, value := some (handleValue (s.ciu.shift sample) : Int) }
  else t

/-- HANDLE_SAMPLE (R73). -/
def execHandleSample (sample : BitVec 10) (s : State) : Host.Outcome State Fault Refusal :=
  .next (s.takeSample sample.toNat)

/-- HANDLE_FAULT (R74): the sample whose H declares the fault. -/
def execHandleFault (sample : BitVec 10) (s : State) : Host.Outcome State Fault Refusal :=
  .next (if s.ciu.declares sample.toNat then s.takeSample sample.toNat else s)

/-- HANDLE_FAULT_CLEARED (R74): H has been in range for 100 ms. -/
def execHandleFaultCleared (s : State) : Host.Outcome State Fault Refusal :=
  .next (if s.ciu.fault && decide (100 ≤ s.ciu.inRange.getD 0) then
      s.onCiu fun u => { u with fault := false, inRange := none }
    else s)

/-! ### The demand period -/

/-- What a demand period does, in the order of R95: the timer starts again, the speed facts are found and
the readings advanced, the closures they bring about, the seven stages, the dead-man check, and the
finding for releasing. -/
def State.period (s : State) : State :=
  let t := ((s.onTdu fun u => { u with periodTimer := some 20 }).findSpeed).judgeClosures
  ((t.computeDemand (s.tdu.live.getD s.tdu.shadow)).deadmanCheck).releasingFinding

/-- DEMAND_PERIOD (R95). -/
def execDemandPeriod (s : State) : Host.Outcome State Fault Refusal :=
  .next (if s.tdu.state ≠ .off ∧ s.tdu.periodTimer = some 0 then s.period else s)

end Sys2Proof.Machine
end

