-- ==== Sys2Proof/Machine/LineEvents.lean ====
section
/-! DEFINITION. The commands of the reset, the line ports, the Frame Switch timers and the transmitters
(Chapters 1 to 3). A command whose event cannot arise in the present state changes nothing (log entry
1); an expiry asks that its timer has no time left (log entry 2). -/

namespace Sys2Proof.Machine

/-- POWER_ON_RESET (R20 and the reset rule of every unit). -/
def execPowerOnReset (straps : Addr) (s : State) : Host.Outcome State Fault Refusal :=
  .next (s.powerOnReset straps)

/-! ### Receiving -/

/-- The receiver enters FRAME with a buffer, while the free count exceeds 8 (R6, R42). -/
def State.beginFrame (s : State) (p : Port) (b : Nat) : State :=
  (s.onBqm fun q => q.take b).setRx p (.frame (some b))

/-- The receiver enters FRAME without a buffer: OVERRUN and a BUFFER event (R8). DESIGN CHOICE (log entry
46): the discarded-frame counter of the OVERRUN row of R7 rises at the skipped frame's end, where R8 counts
it, and not here too. -/
def State.beginSkip (s : State) (p : Port) : State :=
  ((s.setRx p (.frame none)).onPort p fun u =>
    { u with latches := { u.latches with overrun := true } }).count .buffer

/-- The start of a frame: whether a line receiver is given a buffer (R42). -/
def State.startFrame (s : State) (p : Port) : State :=
  if 8 < s.bqm.freeCount then
    match s.bqm.firstFree with
    | some b => s.beginFrame p b
    | none => s
  else s.beginSkip p

/-- In LOCAL_LOOPBACK the receiver hears only what the port itself transmits, so that an event of it is
one that the looped stream has just brought about (R15). -/
def LinePort.admits (u : LinePort) (c : Instr) : Bool :=
  decide (u.mode = .localLoopback → u.front.found = some c)

/-- FRAME_START (R6, R8). -/
def execFrameStart (p : Port) (s : State) : Host.Outcome State Fault Refusal :=
  .next (if (s.port p).rx = .hunt ∧ (s.port p).admits (.frameStart p) then s.startFrame p else s)

/-- A good frame joins the return list, or is discarded when it holds 4 (R16). -/
def State.returnFrame (s : State) (p : Port) (b : Nat) : State :=
  if (s.port p).returnList.length < 4 then
    s.onPort p fun u => { u with returnList := u.returnList ++ [b] }
  else
    ((s.onBqm fun q => q.release b).onPort p fun u =>
      { u with discarded := bump u.discarded }).count .buffer

/-- A good frame disposed of by the port's mode (R6, R14, R15, R16). -/
def State.dispose (s : State) (p : Port) (b : Nat) (f : Frame) : State :=
  match (s.port p).mode with
  | .normal => s.classify p b f
  | .localLoopback =>
    if addrOf f.src = s.own then s.onBqm fun q => q.release b else s.classify p b f
  | .remoteLoopback => s.returnFrame p b
  | .disabled => s.onBqm fun q => q.release b

/-- A good frame: the receiver returns to HUNT, the frame is counted and disposed of (R6). -/
def State.goodFrame (s : State) (p : Port) (b : Nat) (f : Frame) : State :=
  ((s.setRx p .hunt).onPort p fun u => { u with good := bump u.good }).dispose p b f

/-- The end of the frame in reception, its octets in its buffer (R6, R7). -/
def State.endFrame (s : State) (p : Port) (b : Nat) (f : Frame) : State :=
  let t := s.onBqm fun q => q.write b f
  if f.check = frameCheck f then t.goodFrame p b f
  else t.lineError p (fun l => { l with check := true }) .hunt

/-- FRAME_END (R6). -/
def execFrameEnd (p : Port) (f : Frame) (s : State) : Host.Outcome State Fault Refusal :=
  .next (match (s.port p).receiving with
    | some b =>
      if f.payload.length ≤ 240 ∧ (s.port p).admits (.frameEnd p f) then s.endFrame p b f else s
    | none => s)

/-- SKIPPED_FRAME_END (R8). DESIGN CHOICE (log entry 46): a skipped frame adds 1 to the discarded-frame
counter here alone, so that one whose reception an event of R9 ends before adds none. -/
def execSkippedFrameEnd (p : Port) (s : State) : Host.Outcome State Fault Refusal :=
  .next (if (s.port p).rx = .frame none ∧ (s.port p).admits (.skippedFrameEnd p) then
      (s.setRx p .hunt).onPort p fun u => { u with discarded := bump u.discarded }
    else s)

/-- LENGTH (R7). -/
def execLengthError (p : Port) (s : State) : Host.Outcome State Fault Refusal :=
  .next (if (s.port p).inFrame ∧ (s.port p).admits (.lengthError p) then
      s.lineError p (fun l => { l with length := true }) .hunt
    else s)

/-- SYNC_LOSS (R7). -/
def execSyncLoss (p : Port) (s : State) : Host.Outcome State Fault Refusal :=
  .next (if (s.port p).inFrame ∧ (s.port p).admits (.syncLoss p) then
      s.lineError p (fun l => { l with syncLoss := true }) .hunt
    else s)

/-- The receiver enters DOWN from the line: the latch, the sides forgotten, PORT_DOWN; a frame in
reception is discarded and counts a line event, after the entry (R4, R7, R163). -/
def State.goDown (s : State) (p : Port) : State :=
  let lost := (s.port p).inFrame
  let t := ((((s.releaseReception p).setRx p .down).onPort p fun u =>
    { u with latches := { u.latches with downSeen := true }
             discarded := if lost then bump u.discarded else u.discarded }).onFsw
      fun w => w.forget p).log (portEntry .portDown p)
  if lost then t.count (lineAttr p) else t

/-- RECEIVER_DOWN (R4). In LOCAL_LOOPBACK the looped stream always carries valid bit times (R15). -/
def execReceiverDown (p : Port) (s : State) : Host.Outcome State Fault Refusal :=
  .next (if (s.port p).rx ≠ .down ∧ (s.port p).mode ≠ .localLoopback then s.goDown p else s)

/-- RECEIVER_UP (R4). In DISABLED the receiver is held in DOWN (R17). -/
def execReceiverUp (p : Port) (s : State) : Host.Outcome State Fault Refusal :=
  .next (if (s.port p).rx = .down ∧ (s.port p).mode ≠ .disabled ∧
        (s.port p).admits (.receiverUp p) then
      (s.setRx p .hunt).log (portEntry .portUp p)
    else s)

/-! ### Loop codes -/

/-- The conditions under which a LOOPUP run is timed (R18). -/
def State.mayAutoloop (s : State) (p : Port) : Bool :=
  decide ((s.port p).mode = .normal) && (s.bqm.egress.get p).config.autoloop &&
    decide (s.cru.role = .inactive) && decide ((s.port p).rx = .hunt)

/-- The loop-code persistence timer has measured 500 ms of a run of this code (R18). -/
def LinePort.persisted (u : LinePort) (c : LoopCode) : Bool :=
  match u.persistence with
  | some r => decide (r.code = c ∧ 500000 ≤ r.micros)
  | none => false

/-- AUTOLOOP_ENTER (R18): the entry effects of R16, with what the flush does to a marked reply (R56). DESIGN
CHOICE (log entry 50): where the flush makes the marked reply done, AUTOLOOP_ENTER is logged before the control
reset takes effect and logs CONTROL_RESET. -/
def execAutoloopEnter (p : Port) (s : State) : Host.Outcome State Fault Refusal :=
  .next (if s.mayAutoloop p && (s.port p).persisted .loopup then
      ((s.enterRemote p).log (portEntry .autoloopEnter p)).settleReset
    else s)

/-- AUTOLOOP_EXIT (R18, R19). -/
def execAutoloopExit (p : Port) (s : State) : Host.Outcome State Fault Refusal :=
  .next (if (s.port p).mode = .remoteLoopback ∧ (s.port p).rx = .hunt ∧
        (s.port p).persisted .loopdown then
      s.exitRemote p 1
    else s)

/-! ### Frame Switch timers -/

/-- LEARNING_TIMER_EXPIRY (R23). -/
def execLearningTimerExpiry (node : Addr) (s : State) : Host.Outcome State Fault Refusal :=
  .next (if (s.fsw.node node).learned.map (fun l => l.left) = some 0 then
      s.onFsw fun w => w.onNode node fun e => { e with learned := none }
    else s)

/-- LOOP_REPORT_HOLD_EXPIRY (R30). -/
def execLoopReportHoldExpiry (p : Port) (s : State) : Host.Outcome State Fault Refusal :=
  .next (if (s.fsw.stats.get p).hold = some 0 then
      s.onFsw fun w => w.onStats p fun x => { x with hold := none }
    else s)

/-! ### Sending -/

/-- The transmitter begins its next output. A fill pair that follows takes the loop-code setting as it
stands (R12); a transmitter that sends none keeps the pattern of its last pair. -/
def LinePort.nextOutput (u : LinePort) (sendsPair : Bool) : LinePort :=
  { u with fill := if sendsPair then u.loopCode else u.fill, pos := 0
           lead := sendsPair && u.transmitting.isSome }

/-- FILL_PAIR_SENT (R11). -/
def execFillPairSent (p : Port) (s : State) : Host.Outcome State Fault Refusal :=
  .next (if (s.port p).tx = .fill then
      (s.ask p).onPort p fun u => u.nextOutput (decide (u.tx = .fill))
    else s)

/-- The completion of a frame: counted, its reference released, and reported (R13, R56). -/
def State.completeFrame (s : State) (p : Port) (b : Nat) : State :=
  (s.onPort p fun u => { u with sent := bump u.sent, tx := .fill }).onBqm fun q =>
    { q.release b with resetReply := q.resetReply.map fun r => r.completed p b }

/-- FRAME_SENT (R13): completion, the settling of a pending reset (R178), and the next request. The fill
pair between two frames follows the loop code; a port in DISABLED enters SILENT (R11, R12). -/
def execFrameSent (p : Port) (s : State) : Host.Outcome State Fault Refusal :=
  .next (match (s.port p).transmitting with
    | some b =>
      (((s.completeFrame p b).settleReset).ask p).onPort p
        fun u => u.nextOutput (decide (u.tx ≠ .silent))
    | none => s)

end Sys2Proof.Machine
end

