-- ==== Sys2Proof/Machine/Tables.lean ====
section
/-! DEFINITION. The tables of R171 as the Management Unit reads and writes them: the layout of each
entry (R183), the judgement of a write, and the answers of R183. -/

namespace Sys2Proof.Machine

/-! ### Answers -/

/-- What a REPLY says after its command code (R183). -/
structure Answer where
  status : Nat
  reason : Nat
  figure : Nat
  data : List Byte
  deriving DecidableEq, Repr

def Answer.ok (data : List Byte) : Answer := { status := 1, reason := 0, figure := 0, data := data }

/-- OK, or CLAMPED with `n` when `n` fields were clamped (R170). -/
def Answer.clamped (n : Nat) (data : List Byte) : Answer :=
  if n = 0 then Answer.ok data else { status := 2, reason := 0, figure := n, data := data }

def Answer.refused (reason figure : Nat) : Answer :=
  { status := 3, reason := reason, figure := figure, data := [] }

/-! The reasons of R183. -/

def reasonNotManager : Nat := 1
def reasonBadTable : Nat := 2
def reasonBadIndex : Nat := 3
def reasonInvalid : Nat := 4
def reasonBusy : Nat := 5
def reasonRole : Nat := 6
def reasonUnknownCommand : Nat := 7
def reasonLength : Nat := 8

/-! ### Fields of an entry -/

/-- Whether a field was clamped, as a count. -/
def offRange (lo hi n : Nat) : Nat := if lo ≤ n ∧ n ≤ hi then 0 else 1

/-- A value taken from a written entry, and how many of its fields were clamped. -/
structure Taken (α : Type) where
  value : α
  clamps : Nat
  deriving DecidableEq, Repr

def takeNat (lo hi n : Nat) : Taken Nat := { value := clampNat lo hi n, clamps := offRange lo hi n }

/-- An optional field, absent at the coded value `absent` (R181). -/
def takeOpt (absent lo hi n : Nat) : Taken (Option Nat) :=
  if n = absent then { value := none, clamps := 0 }
  else { value := some (clampNat lo hi n), clamps := offRange lo hi n }

/-! ### The Traction Profile by field -/

/-- The 19 fields in the order of R93. -/
def Profile.fields (p : Profile) : List Int :=
  [p.hb, p.hn1, p.hn2, p.hp, p.maxSpeed, p.taperBand, p.overspeedMargin, p.overspeedBrake,
   p.holdBrake, p.blindLimit, p.rateLimit, p.jerk, p.slipThreshold, p.adhesionCut,
   p.adhesionRestore, p.deadmanGrace, p.trainLength, p.doorCount, p.vehicleNumber]

/-- The profile with field `i`, 1..19 in the order of R93, replaced. -/
def Profile.setField (p : Profile) (i : Nat) (v : Int) : Profile :=
  match i with
  | 1 => { p with hb := v }
  | 2 => { p with hn1 := v }
  | 3 => { p with hn2 := v }
  | 4 => { p with hp := v }
  | 5 => { p with maxSpeed := v }
  | 6 => { p with taperBand := v }
  | 7 => { p with overspeedMargin := v }
  | 8 => { p with overspeedBrake := v }
  | 9 => { p with holdBrake := v }
  | 10 => { p with blindLimit := v }
  | 11 => { p with rateLimit := v }
  | 12 => { p with jerk := v }
  | 13 => { p with slipThreshold := v }
  | 14 => { p with adhesionCut := v }
  | 15 => { p with adhesionRestore := v }
  | 16 => { p with deadmanGrace := v }
  | 17 => { p with trainLength := v }
  | 18 => { p with doorCount := v }
  | 19 => { p with vehicleNumber := v }
  | _ => p

/-- The range of field `i` (R93). -/
def profileRange (i : Nat) : Int × Int :=
  match i with
  | 1 => (8, 1015)
  | 2 => (8, 1015)
  | 3 => (8, 1015)
  | 4 => (8, 1015)
  | 5 => (10, 800)
  | 6 => (10, 100)
  | 7 => (5, 100)
  | 8 => (-1000, -100)
  | 9 => (-1000, -200)
  | 10 => (0, 1000)
  | 11 => (1, 200)
  | 12 => (1, 100)
  | 13 => (5, 100)
  | 14 => (50, 500)
  | 15 => (1, 50)
  | 16 => (5, 30)
  | 17 => (10, 80)
  | 18 => (1, 16)
  | _ => (1, 9999)

/-! ### Reading entries -/

def NodeEntry.octets (e : NodeEntry) : List Byte :=
  oct1 (codeNodeRole e.role) ++ octOpt1 e.priority ++
    octOpt1 (e.learned.map fun l => codePort l.side) ++ oct1 e.age

def ClassEntry.octets (e : ClassEntry) : List Byte :=
  oct1 (codeAction e.active) ++ oct1 (codeAction e.passive) ++ octOpt1 e.priority ++
    oct1 e.maxPayload

def PortConfig.octets (c : PortConfig) : List Byte :=
  oct1 c.queueCount ++ oct1 c.defaultPriority ++ octFlag c.autoloop ++
    c.queues.data.flatMap (fun q => oct1 (codeQueueType q.type)) ++
    c.queues.data.flatMap (fun q => oct1 q.weight) ++ c.queues.data.flatMap (fun q => oct1 q.depth)

def RouteHeader.octets (h : RouteHeader) : List Byte :=
  oct2 h.run ++ oct2 h.line ++ oct2 h.unconfirmed ++ oct2 h.straightCap ++ oct2 h.divergingCap ++
    oct1 h.junctionLength ++ oct2 h.count

def RouteEntry.octets (e : RouteEntry) : List Byte :=
  oct2 e.junction ++ oct1 (codeDirection e.direction) ++ octOpt2 e.straightCap ++
    octOpt2 e.divergingCap ++ octOpt1 e.junctionLength

def Step.octets (x : Step) : List Byte := octOpt1 x.tone ++ oct1 x.duration

def AttrConfig.octets (g : AttrConfig) : List Byte :=
  oct1 g.threshold ++ oct1 g.penalty ++ oct1 g.interval ++ oct2 g.testLimit

/-- Entry `i` of a list numbered from `base`, laid out by `lay`; none where the list has no entry `i`. -/
def entryOf {α : Type} (l : List α) (base i : Nat) (lay : α → List Byte) : Option (List Byte) :=
  if i < base then none else (l[i - base]?).map lay

/-- A Route Table's index 0 is its header, and its entries follow from index 1 (R120). -/
def routeOctets (h : RouteHeader) (entries : List RouteEntry) (i : Nat) : Option (List Byte) :=
  if i = 0 then some h.octets else entryOf entries 1 i RouteEntry.octets

/-- The octets of entry `i` of a table, by table code; none where the table has no such index. -/
def State.tableEntry (s : State) (table i : Nat) : Option (List Byte) :=
  match table with
  | 1 => entryOf s.fsw.nodes.data 0 i NodeEntry.octets
  | 2 => entryOf s.fsw.classes.data 0 i ClassEntry.octets
  | 3 => entryOf s.fsw.tagMap.data 0 i oct1
  | 4 => entryOf s.fsw.weights.data 0 i oct1
  | 5 => entryOf [s.bqm.egress.a.config, s.bqm.egress.b.config] 1 i PortConfig.octets
  | 6 => entryOf s.bqm.maps.data 1 i fun m => m.data.flatMap oct1
  | 7 => routeOctets s.jcu.shadowHeader s.jcu.shadow.data i
  | 8 => entryOf s.tdu.shadow.fields 1 i octS2
  | 9 => entryOf s.snu.patterns.data 0 i fun p => oct1 p.length ++ p.flatMap Step.octets
  | 10 => entryOf s.snu.tones.data 0 i oct2
  | 11 => entryOf [s.snu.map] 0 i fun m => m.data.flatMap oct1
  | 12 => entryOf s.cmn.config.data 1 i AttrConfig.octets
  | 13 => s.jcu.live.bind fun t => routeOctets t.header t.entries i
  | 14 => s.tdu.live.bind fun p => entryOf p.fields 1 i octS2
  | _ => none

/-- Whether READ_TABLE knows a table code and the table is there: 1..14, the live tables only while
live (R171). DEDUCED (log entry 49): a code outside 1..14 is refused with BAD_TABLE, as R171 has it for a
WRITE_TABLE and for a live table that is not there; it states no answer for a READ_TABLE of such a code. -/
def State.tableReadable (s : State) (table : Nat) : Bool :=
  if table = 13 then s.jcu.live.isSome
  else if table = 14 then s.tdu.live.isSome
  else decide (1 ≤ table ∧ table ≤ 12)

/-- The READ_TABLE command after the judgements of R170 (R171; log entry 28). -/
def State.readTable (s : State) (table i count : Nat) : Answer :=
  let entries := (List.range count).map fun k => s.tableEntry table (i + k)
  let data := oct2 i ++ oct1 count ++ (entries.filterMap id).flatten
  if s.tableReadable table = false then Answer.refused reasonBadTable 0
  else
    match entries.findIdx? fun e => e.isNone with
    | some k => Answer.refused reasonBadIndex (i + k)
    | none => if 235 < data.length then Answer.refused reasonLength 0 else Answer.ok data

/-! ### Writing entries -/

/-- The first index of a write that lies outside the range of a table, for `n` entries from `i` (R171
step 2). -/
def firstOutside (lo hi i n : Nat) : Option Nat :=
  if i < lo ∨ hi < i then some i else if hi < i + n - 1 then some (hi + 1) else none

/-- The octets of entry `k` of a write, entries of `size` octets. -/
def chunk (size : Nat) (l : List Byte) (k : Nat) : List Byte := (l.drop (k * size)).take size

/-- Taken entries written one after another from index `i`. -/
def putAll {α : Type} (put : State → Nat → α → State) : Nat → List (Option (Taken α)) → State → State
  | _, [], s => s
  | i, some x :: l, s => putAll put (i + 1) l (put s i x.value)
  | i, none :: l, s => putAll put (i + 1) l s

/-- The clamped fields of taken entries. -/
def clampTotal {α : Type} : List (Option (Taken α)) → Nat
  | [] => 0
  | some x :: l => x.clamps + clampTotal l
  | none :: l => clampTotal l

/-- Steps 4 and 5 of R171: an entry whose enumerated fields are not sound refuses the write with its
index; otherwise every entry is written. -/
def State.writeTaken {α : Type} (s : State) (i : Nat) (l : List (Option (Taken α)))
    (put : State → Nat → α → State) : State × Answer :=
  match l.findIdx? fun e => e.isNone with
  | some k => (s, Answer.refused reasonInvalid (i + k))
  | none => (putAll put i l s, Answer.clamped (clampTotal l) [])

/-- Steps 2 to 5 of R171 for entries of one size. -/
def State.writeEntries {α : Type} (s : State) (lo hi size : Nat) (payload : List Byte)
    (parse : Nat → List Byte → Option (Taken α)) (put : State → Nat → α → State) : State × Answer :=
  let i := num2 payload 2
  let e := payload.drop 4
  let n := (e.length + size - 1) / size
  match firstOutside lo hi i n with
  | some k => (s, Answer.refused reasonBadIndex k)
  | none =>
    if e.length % size ≠ 0 then (s, Answer.refused reasonLength 0)
    else s.writeTaken i ((List.range n).map fun k => parse (i + k) (chunk size e k)) put

/-- A NODE entry: the configured role and the node priority; the learned side and age are ignored
(R21). -/
def parseNode (_ : Nat) (l : List Byte) : Option (Taken (NodeRole × Option Nat)) :=
  (nodeRoleOf (num1 l 0)).map fun r =>
    let p := takeOpt 0xFF 0 7 (num1 l 1)
    { value := (r, p.value), clamps := p.clamps }

def putNode (s : State) (i : Nat) (x : NodeRole × Option Nat) : State :=
  s.onFsw fun w => w.onNode (BitVec.ofNat 6 i) fun e => { e with role := x.1, priority := x.2 }

/-- A CLASS entry (R26). -/
def parseClass (_ : Nat) (l : List Byte) : Option (Taken ClassEntry) :=
  match actionOf (num1 l 0), actionOf (num1 l 1) with
  | some a, some b =>
    let p := takeOpt 0xFF 0 7 (num1 l 2)
    let m := takeNat 0 240 (num1 l 3)
    some { value := { active := a, passive := b, priority := p.value, maxPayload := m.value }
           clamps := p.clamps + m.clamps }
  | _, _ => none

def putClass (s : State) (i : Nat) (x : ClassEntry) : State :=
  s.onFsw fun w => { w with classes := w.classes.set i x }

/-- A one-octet number: a TAG_MAP entry to 7, a WEIGHTS entry to 15 (R36). -/
def parseOctet (hi : Nat) (_ : Nat) (l : List Byte) : Option (Taken Nat) := some (takeNat 0 hi (num1 l 0))

def putTag (s : State) (i x : Nat) : State := s.onFsw fun w => { w with tagMap := w.tagMap.set i x }

def putWeight (s : State) (i x : Nat) : State := s.onFsw fun w => { w with weights := w.weights.set i x }

/-- The fields of queue `k` in a PORT_CONFIG entry (R44). -/
def parseQueue (l : List Byte) (k : Nat) : Option (Taken QueueConfig) :=
  (queueTypeOf (num1 l (3 + k))).map fun t =>
    let w := takeNat 1 127 (num1 l (7 + k))
    let d := takeNat 1 64 (num1 l (11 + k))
    { value := { type := t, weight := w.value, depth := d.value }, clamps := w.clamps + d.clamps }

/-- A PORT_CONFIG entry (R44). -/
def parsePortConfig (_ : Nat) (l : List Byte) : Option (Taken PortConfig) :=
  match permitOf (num1 l 2), parseQueue l 0, parseQueue l 1, parseQueue l 2, parseQueue l 3 with
  | some permit, some a, some b, some c, some d =>
    let n := takeNat 1 4 (num1 l 0)
    let p := takeNat 0 7 (num1 l 1)
    some
      { value :=
          { queueCount := n.value, defaultPriority := p.value, autoloop := permit
            queues := { data := [a.value, b.value, c.value, d.value], size := rfl } }
        clamps := n.clamps + p.clamps + a.clamps + b.clamps + c.clamps + d.clamps }
  | _, _, _, _, _ => none

/-- A queue whose type a write changes has its deficit set to 0 (R47). -/
def Egress.retype (e : Egress) (c : PortConfig) (k : Nat) : Egress :=
  if (e.queueConfig k).type = (c.queues.get k { type := .strict, weight := 1, depth := 1 }).type then e
  else e.onQueue k fun x => { x with deficit := 0 }

/-- A Port Config entry written, with its effect on what is queued (R47). -/
def Egress.configure (e : Egress) (c : PortConfig) : Egress :=
  { ((((e.retype c 0).retype c 1).retype c 2).retype c 3) with config := c }

/-- Index 1 is port A and index 2 port B (R171). A permit turned off stops a LOOPUP measure (R18). -/
def putPortConfig (s : State) (i : Nat) (c : PortConfig) : State :=
  let p := if i = 1 then Port.A else Port.B
  let t := s.onBqm fun q => q.onEgress p fun e => e.configure c
  if c.autoloop then t else t.onPort p LinePort.stopLoopup

/-- A QUEUE_MAP entry: each queue number clamped to one below the queue count, its index (R45). -/
def parseQueueMap (i : Nat) (l : List Byte) : Option (Taken (Tab Nat 8)) :=
  some
    { value :=
        { data := (List.range 8).map fun k => clampNat 0 (i - 1) (num1 l k)
          size := by rw [List.length_map, List.length_range] }
      clamps := ((List.range 8).map fun k => offRange 0 (i - 1) (num1 l k)).sum }

def putQueueMap (s : State) (i : Nat) (m : Tab Nat 8) : State :=
  s.onBqm fun q => { q with maps := q.maps.set (i - 1) m }

/-- The ROUTE header (R120). -/
def parseHeader (_ : Nat) (l : List Byte) : Option (Taken RouteHeader) :=
  let run := takeNat 1 65535 (num2 l 0)
  let line := takeNat 0 999 (num2 l 2)
  let u := takeNat 0 250 (num2 l 4)
  let a := takeNat 0 1000 (num2 l 6)
  let b := takeNat 0 1000 (num2 l 8)
  let len := takeNat 5 200 (num1 l 10)
  let n := takeNat 0 256 (num2 l 11)
  some
    { value :=
        { run := run.value, line := line.value, unconfirmed := u.value, straightCap := a.value
          divergingCap := b.value, junctionLength := len.value, count := n.value }
      clamps := run.clamps + line.clamps + u.clamps + a.clamps + b.clamps + len.clamps + n.clamps }

def putHeader (s : State) (_ : Nat) (h : RouteHeader) : State :=
  s.onJcu fun u => { u with shadowHeader := h }

/-- A ROUTE entry (R120). -/
def parseRoute (_ : Nat) (l : List Byte) : Option (Taken RouteEntry) :=
  (directionOf (num1 l 2)).map fun d =>
    let j := takeNat 1 4095 (num2 l 0)
    let a := takeOpt 0xFFFF 0 1000 (num2 l 3)
    let b := takeOpt 0xFFFF 0 1000 (num2 l 5)
    let len := takeOpt 0xFF 5 200 (num1 l 7)
    { value :=
        { junction := j.value, direction := d, straightCap := a.value, divergingCap := b.value
          junctionLength := len.value }
      clamps := j.clamps + a.clamps + b.clamps + len.clamps }

def putRoute (s : State) (i : Nat) (e : RouteEntry) : State :=
  s.onJcu fun u => { u with shadow := u.shadow.set (i - 1) e }

/-- A PROFILE field (R93). -/
def parseField (i : Nat) (l : List Byte) : Option (Taken Int) :=
  let r := profileRange i
  let v := numS2 l 0
  some { value := clampInt r.1 r.2 v, clamps := if r.1 ≤ v ∧ v ≤ r.2 then 0 else 1 }

def putField (s : State) (i : Nat) (v : Int) : State :=
  s.onTdu fun u => { u with shadow := u.shadow.setField i v }

/-- A step of a PATTERN write: a tone to 7 or REST, a duration of at least 1 (R151). -/
def parseStep (l : List Byte) (k : Nat) : Taken Step :=
  let t := takeOpt 0xFF 0 7 (num1 l (1 + 2 * k))
  let d := takeNat 1 255 (num1 l (2 + 2 * k))
  { value := { tone := t.value, duration := d.value }, clamps := t.clamps + d.clamps }

/-- The steps of a PATTERN write; none when the step count is above 12 (R151). -/
def parsePattern (l : List Byte) : Option (Taken (List Step)) :=
  let n := num1 l 0
  if 12 < n then none
  else
    let steps := (List.range n).map (parseStep l)
    some { value := steps.map fun x => x.value, clamps := (steps.map fun x => x.clamps).sum }

def putPattern (s : State) (i : Nat) (x : List Step) : State := s.onSnu fun u => u.writePattern i x

/-- A TONE entry (R150). -/
def parseTone (_ : Nat) (l : List Byte) : Option (Taken Nat) := some (takeNat 100 4000 (num2 l 0))

def putTone (s : State) (i x : Nat) : State := s.onSnu fun u => u.writeTone i x

/-- The SOUND_MAP entry (R152). -/
def parseSoundMap (_ : Nat) (l : List Byte) : Option (Taken (Tab Nat 7)) :=
  some
    { value :=
        { data := (List.range 7).map fun k => clampNat 0 15 (num1 l k)
          size := by rw [List.length_map, List.length_range] }
      clamps := ((List.range 7).map fun k => offRange 0 15 (num1 l k)).sum }

def putSoundMap (s : State) (_ : Nat) (m : Tab Nat 7) : State := s.onSnu fun u => u.writeMap m

/-- An ATTRIBUTE_CONFIG entry (R161). -/
def parseAttr (_ : Nat) (l : List Byte) : Option (Taken AttrConfig) :=
  let t := takeNat 0 95 (num1 l 0)
  let p := takeNat 1 50 (num1 l 1)
  let r := takeNat 1 255 (num1 l 2)
  let e := takeNat 0 1000 (num2 l 3)
  some
    { value := { threshold := t.value, penalty := p.value, interval := r.value, testLimit := e.value }
      clamps := t.clamps + p.clamps + r.clamps + e.clamps }

/-- The attribute with an id (R160). -/
def attrOf (i : Nat) : Attr :=
  match i with
  | 1 => .portALine
  | 2 => .portBLine
  | 3 => .buffer
  | 4 => .loopLink
  | 5 => .loopCheck
  | 6 => .speedSource
  | 7 => .adhesion
  | _ => .stopPanel

def putAttr (s : State) (i : Nat) (g : AttrConfig) : State := s.onCmn fun c => c.writeAttr (attrOf i) g

/-- A WRITE_TABLE on ROUTE: at index 0 the header alone, from index 1 entries (R120, R171). -/
def State.writeRoute (s : State) (payload : List Byte) : State × Answer :=
  if num2 payload 2 = 0 then
    if (payload.drop 4).length ≠ 13 then (s, Answer.refused reasonLength 0)
    else s.writeTaken 0 [parseHeader 0 (payload.drop 4)] putHeader
  else s.writeEntries 1 256 8 payload parseRoute putRoute

/-- A WRITE_TABLE on PATTERN: one pattern, whose length must match its step count (R151, R171). -/
def State.writePattern (s : State) (payload : List Byte) : State × Answer :=
  let i := num2 payload 2
  let e := payload.drop 4
  if 15 < i then (s, Answer.refused reasonBadIndex i)
  else if e.length ≠ 1 + 2 * num1 e 0 then (s, Answer.refused reasonLength 0)
  else s.writeTaken i [parsePattern e] putPattern

end Sys2Proof.Machine
end

