-- ==== Sys2Proof/Machine/Readout.lean ====
section
/-! DEFINITION. What the part tells of itself: the items of READ_STATE (R173), the entries of READ_LOG
(R183) and the fields of a STATUS_REPORT (R182). -/

namespace Sys2Proof.Machine

/-- A flag that is present or not, with the field it guards in four octets (R173). -/
def octWord (w : Option Word) : List Byte := octOpt4 (w.map fun x => x.toNat)

/-! ### The items of READ_STATE, in the order of R173 -/

def Latches.octets (l : Latches) : List Byte :=
  octFlag l.check ++ octFlag l.length ++ octFlag l.syncLoss ++ octFlag l.downSeen ++ octFlag l.overrun

/-- PORTS. -/
def State.readPort (s : State) (p : Port) : List Byte :=
  let x := s.port p
  let w := s.fsw.stats.get p
  oct1 (codeRx x.rx) ++ oct1 (codeTx x.tx) ++ oct1 (codeMode x.mode) ++
    oct1 (codeLoopCode x.loopCode) ++ x.latches.octets ++ oct4 x.good ++ oct4 x.discarded ++
    oct4 x.sent ++ oct4 w.malformed ++ oct4 w.ownSource ++ oct4 w.refused ++ oct4 w.filtered

def Egress.occupancies (e : Egress) : List Byte := e.queues.data.flatMap fun q => oct1 q.entries.length

def Egress.dropCounts (e : Egress) : List Byte := e.queues.data.flatMap fun q => oct4 q.drops

/-- BUFFERS. -/
def Bqm.readout (q : Bqm) : List Byte :=
  oct1 q.freeCount ++ q.egress.a.occupancies ++ q.egress.b.occupancies ++ q.egress.a.dropCounts ++
    q.egress.b.dropCounts ++ oct1 q.ldq.length ++ oct4 q.localDrops ++ oct4 q.ownFailures

def CabEntry.octets (e : CabEntry) : List Byte :=
  oct1 e.cab.toNat ++ oct1 (codeAnnounced e.role) ++ oct4 e.time.toNat

/-- ROLE. -/
def Cru.readout (u : Cru) : List Byte :=
  oct1 (codeRole u.role) ++ octFlag u.releasing ++ oct1 u.cabs.length ++
    u.cabs.flatMap CabEntry.octets ++ oct4 u.rejected

/-- INPUTS. -/
def Ciu.readout (u : Ciu) : List Byte :=
  octOpt2 u.handle ++ octFlag u.fault ++ u.inputs.data.flatMap fun i => octFlag i.level

/-- The period record in READ_STATE. DESIGN CHOICE (log entry 36): its four flags go as the one mask
octet of a TRACTION_DEMAND (R103), and not as four octets of R173. -/
def PeriodRecord.octets (r : PeriodRecord) : List Byte :=
  octS2 r.dh ++ octS2 r.dt ++ octS2 r.c ++ oct1 (flagsOctet r.flags)

def SpeedFacts.octets (f : SpeedFacts) : List Byte :=
  octFlag f.v.isSome ++ octOpt2 (f.v.map Int.toNat) ++ octOpt2 (f.s.map Int.toNat)

/-- TRACTION. -/
def Tdu.readout (u : Tdu) : List Byte :=
  oct1 (codeTraction u.state) ++ octS2 u.d ++ octS2 u.r ++ octS2 u.f ++ octFlag u.slip ++ [u.seq] ++
    octOpt4 u.periodTimer ++ u.record.octets ++ octOpt4 u.grace ++ u.facts.octets ++
    oct4 u.movingTime.toNat ++ oct4 u.odometer.toNat ++ oct4 u.rejected

/-- A slot with its freshness; a free slot is all ones and not fresh (R80, R81). -/
def slotOctets (x : Option Slot) (now : Word) : List Byte :=
  match x with
  | none => octAbsent 10 ++ octFlag false
  | some t =>
    oct1 t.node.toNat ++ octS2 t.speed ++ octS2 t.effort ++ oct1 (codeInverter t.state) ++
      oct4 t.time.toNat ++ octFlag (t.fresh now)

/-- INVERTERS, slot `n` of 1..6. -/
def State.readSlot (s : State) (n : Nat) : List Byte :=
  slotOctets (s.tdu.slots.get (n - 1) none) s.cmn.partTime ++ octFlag s.tdu.inverterOverflow

def PointRequest.octets (q : PointRequest) : List Byte :=
  oct2 q.junction ++ oct1 (codeDirection q.direction) ++ oct1 q.attempt

def DepotTest.octets (t : DepotTest) : List Byte :=
  oct2 t.loop ++ oct1 (if t.inSync then 2 else 1) ++ oct4 t.checked ++ oct4 t.errors ++
    (oct1 t.delay.length ++ octN 4 (packBits t.delay)) ++
    (oct1 t.history.length ++ octN 2 (packBits t.history)) ++
    (oct1 t.window.length ++ octN 8 (packBits t.window))

def TestRecord.octets (r : TestRecord) : List Byte :=
  oct1 (if r.pass then 1 else 2) ++ oct2 r.loop ++ oct4 r.checked ++ oct4 r.errors ++
    oct4 r.time.toNat

/-- An optional collection of fields of `n` octets, all ones when absent (R173). -/
def octOpt {α : Type} (n : Nat) (x : Option α) (lay : α → List Byte) : List Byte :=
  match x with
  | none => octAbsent n
  | some y => lay y

/-- LOOP. -/
def Llu.readout (u : Llu) : List Byte :=
  octFlag u.carrier ++ oct1 (codeLoopRx u.rx) ++ oct1 u.queue.length ++
    u.queue.flatMap PointRequest.octets ++ octOpt 4 u.sending (fun q => q.request.octets) ++
    octOpt 28 u.test DepotTest.octets ++ octOpt 15 u.lastTest TestRecord.octets ++ oct4 u.good ++
    oct4 u.checkErrors ++ oct4 u.lengthErrors ++ oct4 u.rejected ++ oct4 u.carrierDiscards ++
    oct4 u.sent ++ oct4 u.cutOff

/-- JUNCTION with index 0. -/
def Jcu.readout (u : Jcu) : List Byte :=
  oct1 u.contexts.length ++ octFlag u.overflow ++ octOpt1 (u.preselection.map codeDirection) ++
    oct4 u.unmatched

/-- JUNCTION with the index of an open context: its fields in the order of R123. -/
def Ctx.octets (x : Ctx) : List Byte :=
  oct2 x.junction ++ octOpt1 (x.direction.map codeDirection) ++ octOpt1 (x.source.map codeDirSource) ++
    oct1 (codeCtx x.state) ++ oct1 x.attempt ++ octOpt1 (x.status.map codePointStatus) ++
    octWord x.requestSent ++ octFlag x.wasSet ++ oct2 x.straightCap ++ oct2 x.divergingCap ++
    oct1 x.unconfirmedCap ++ oct1 x.junctionLength ++ oct4 x.odoCreated.toNat ++
    oct4 x.movingCreated.toNat ++ octWord x.odoCleared ++ octWord x.movingCleared ++
    octOpt1 x.trainLength ++ octOpt4 x.retry

/-- STOP. -/
def Sru.readout (u : Sru) : List Byte :=
  oct1 (codeStop u.record.state) ++ oct2 u.record.doors.toNat ++ octFlag u.record.accessible ++
    octWord u.record.firstPress ++ oct1 u.record.presses ++ octOpt4 u.inhibitTimer ++
    octOpt4 u.refreshTimer ++ oct4 u.rejected

/-- A player; with no playing source all is absent. -/
def Snu.playerOctets (u : Snu) (c : Channel) : List Byte :=
  let x := u.player c
  octOpt1 (x.playing.map fun y => y.index + 1) ++ octOpt1 (x.playing.map fun _ => x.step) ++
    octOpt4 (u.stepLeft c)

/-- SOUND. -/
def Snu.readout (u : Snu) : List Byte :=
  u.playerOctets .exterior ++ u.playerOctets .interior ++ octFlag u.horn ++ octFlag u.emergency ++
    octFlag u.bell ++ octFlag u.warning ++
    (octFlag (u.requested .cabAlert) ++ octFlag u.alertRole ++ octFlag u.alertJunction) ++
    octFlag u.accessChime ++ octFlag u.chime ++ oct4 u.discarded

/-- MONITOR, attribute `id`. -/
def Cmn.readout (u : Cmn) (id : Nat) : List Byte :=
  let x := u.attr (attrOf id)
  oct1 x.n ++ oct1 x.worst ++ oct4 x.raw ++ octFlag x.tripped ++ octOpt4 x.recovery ++
    oct4 u.partTime.toNat

/-- MANAGEMENT. -/
def Mgu.readout (u : Mgu) : List Byte :=
  oct1 u.manager.toNat ++ oct2 u.interval ++ octOpt4 u.reportTimer ++ oct4 u.executed ++ oct4 u.refused

/-- An item that has index 0 alone. -/
def onlyZero (index : Nat) (l : List Byte) : Option (List Byte) := if index = 0 then some l else none

/-- The fields READ_STATE returns; none where the item code or the index is outside the table (R173). -/
def State.readItem (s : State) (item index : Nat) : Option (List Byte) :=
  match item with
  | 1 => if index = 1 then some (s.readPort .A) else if index = 2 then some (s.readPort .B) else none
  | 2 => onlyZero index s.bqm.readout
  | 3 => onlyZero index s.cru.readout
  | 4 => onlyZero index s.ciu.readout
  | 5 => onlyZero index s.tdu.readout
  | 6 => if 1 ≤ index ∧ index ≤ 6 then some (s.readSlot index) else none
  | 7 => onlyZero index s.llu.readout
  | 8 => if index = 0 then some s.jcu.readout else (s.jcu.contexts[index - 1]?).map Ctx.octets
  | 9 => onlyZero index s.sru.readout
  | 10 => onlyZero index s.snu.readout
  | 11 => if 1 ≤ index ∧ index ≤ 8 then some (s.cmn.readout index) else none
  | 12 => onlyZero index s.mgu.readout
  | _ => none

/-! ### READ_LOG -/

/-- A log entry in its 17 octets (R183); an absent value has all ones (log entry 27). -/
def LogEntry.octets (e : LogEntry) : List Byte :=
  oct2 e.number ++ oct4 e.time.toNat ++ oct1 (codeLogKind e.info.kind) ++ oct1 (codeBlock e.info.block) ++
    octOpt2 e.info.junction ++ octOpt1 (e.info.node.map fun a => a.toNat) ++
    octOpt1 (e.info.port.map codePort) ++ octFlag e.info.value.isSome ++
    octOpt 4 e.info.value octS4

/-- The data of READ_LOG for up to `n` entries (R173, R183). -/
def FaultLog.readout (l : FaultLog) (n : Nat) : List Byte :=
  oct1 l.pointer ++ oct1 l.held ++ oct2 l.total ++ (l.newest n).flatMap LogEntry.octets

/-! ### STATUS_REPORT -/

/-- The latches of a port as a mask (R182). -/
def Latches.mask (l : Latches) : Nat :=
  packBits [l.check, l.length, l.syncLoss, l.downSeen, l.overrun]

def LinePort.report (x : LinePort) : List Byte :=
  oct1 (codeRx x.rx) ++ oct1 (codeMode x.mode) ++ oct1 x.latches.mask

/-- The tripped attributes as a mask: bit n − 1 for id n (R181). -/
def Cmn.trippedMask (u : Cmn) : Nat := packBits (u.attrs.data.map fun x => x.tripped)

/-- The payload of a STATUS_REPORT (R177, R182). -/
def State.reportPayload (s : State) : List Byte :=
  oct1 (codeRole s.cru.role) ++ octFlag s.cru.releasing ++ oct1 (codeTraction s.tdu.state) ++
    octS2 s.tdu.d ++ octS2 s.tdu.record.c ++ octOpt2 (s.tdu.facts.v.map Int.toNat) ++ octS2 s.tdu.f ++
    octFlag s.jcu.overflow ++ octOpt1 (s.jcu.preselection.map codeDirection) ++
    oct1 (codeIndicate s.sru.record.state) ++ s.ports.a.report ++ s.ports.b.report ++
    oct1 s.cmn.trippedMask ++ oct2 s.cmn.log.total ++ oct1 s.jcu.contexts.length ++
    s.jcu.contexts.flatMap fun x => oct2 x.junction ++ oct1 (codeCtx x.state)

/-- A STATUS_REPORT generated to the manager; the report sequence advances when it is generated
(R177). -/
def State.sendReport (s : State) : State :=
  let t := s.sendOwn priorityReport
    (ownFrame s.own (s.mgu.manager.setWidth 8) kindStatusReport priorityReport s.mgu.reportSeq
      s.reportPayload)
  if s.canSend then t.onMgu fun u => { u with reportSeq := u.reportSeq + 1 } else t

end Sys2Proof.Machine
end

