-- ==== Sys2Proof/Machine/LoopEvents.lean ====
section
/-! DEFINITION. The commands of the track loop (Chapter 7), the junctions (Chapter 8), the stop record
(Chapter 9), the sound channels (Chapter 10), the attributes (Chapter 11) and the report timer (R177). -/

namespace Sys2Proof.Machine

/-! ### The carrier -/

/-- CARRIER_GAIN (R106, R107): LOOP_CD has held high for 5 ms. -/
def execCarrierGain (s : State) : Host.Outcome State Fault Refusal :=
  .next (if s.llu.carrierDue true then
      let t := s.onLlu fun u => u.setCarrier true
      if s.cru.role = .active then t.onLlu Llu.startListening else t
    else s)

/-- The carrier loss while listening: what it does to the transmitter and the queue, then to the
contexts, then the test result (R106, R114, R116, R129; log entry 12). -/
def State.endListening (s : State) : State := ((s.onLlu Llu.stopListening).carrierLost).testResult

/-- CARRIER_LOSS (R106): LOOP_CD has held low for 5 ms. -/
def execCarrierLoss (s : State) : Host.Outcome State Fault Refusal :=
  .next (if s.llu.carrierDue false then
      let t := s.onLlu fun u => u.setCarrier false
      if s.cru.role = .active then t.endListening else t
    else s)

/-! ### Telegrams -/

/-- TELEGRAM_START (R109, R115): the bit taken, the last one of the start pair and so a one, completes a
telegram start. -/
def execTelegramStart (s : State) : Host.Outcome State Fault Refusal :=
  .next (if s.llu.rx = .hunt ∧ s.llu.completes true = true then s.onLlu Llu.telegramStart else s)

/-- LOOP_LENGTH_ERROR (R110). -/
def execLoopLengthError (s : State) : Host.Outcome State Fault Refusal :=
  .next (if s.llu.rx = .telegram then
      (s.onLlu fun u => { u.hunt with lengthErrors := bump u.lengthErrors }).count .loopCheck
    else s)

/-- An accepted TEST ident opens a test where none is open (R115). -/
def Llu.openTest (u : Llu) (loop : Nat) : Llu :=
  if u.test.isSome then u else { u with test := some (DepotTest.opened loop) }

/-- A good telegram judged and handed on (R111). -/
def State.acceptTelegram (s : State) (t : Telegram) : State :=
  match loopMessage t with
  | none => s.onLlu fun u => { u with rejected := bump u.rejected }
  | some (.ident .request j st locked) => s.requestIdent j st locked
  | some (.ident .clear j _ _) => s.clearIdent j
  | some (.ident .test j _ _) => s.onLlu fun u => u.openTest j
  | some (.reply j run r) => s.pointReply j run r

/-- The last check bit of a telegram taken (R110). -/
def State.endTelegram (s : State) (t : Telegram) : State :=
  if t.check = telegramCheck t then
    (s.onLlu fun u => { u.hunt with good := bump u.good }).acceptTelegram t
  else (s.onLlu fun u => { u.hunt with checkErrors := bump u.checkErrors }).count .loopCheck

/-- TELEGRAM_RECEIVED (R110). -/
def execTelegramReceived (t : Telegram) (s : State) : Host.Outcome State Fault Refusal :=
  .next (if s.llu.rx = .telegram ∧ t.fields.length ≤ 16 then s.endTelegram t else s)

/-- BIT_JUDGED (R109, R115): a bit taken in HUNT, with a test open or without. -/
def execBitJudged (bit : Bool) (s : State) : Host.Outcome State Fault Refusal :=
  .next (if s.llu.rx = .hunt then s.onLlu fun u => u.huntBit bit else s)

/-! ### Point requests -/

/-- The head of the request queue taken for transmission, with the run and the vehicle number of the
live tables (R114). -/
def State.transmitRequest (s : State) (q : PointRequest) (l : List PointRequest) : State :=
  match s.jcu.live, s.tdu.live with
  | some t, some p =>
    s.onLlu fun u =>
      { u with queue := l, txen := true, txHeld := 0
               sending := some { request := q, run := t.header.run, vehicle := p.vehicleNumber } }
  | _, _ => s

/-- POINT_REQUEST_TRANSMIT (R114): the transmitter is free, and LOOP_TXEN has been low for one bit time. -/
def execPointRequestTransmit (s : State) : Host.Outcome State Fault Refusal :=
  .next (match s.llu.queue with
    | [] => s
    | q :: l => if s.listening ∧ s.llu.transmitterFree then s.transmitRequest q l else s)

/-- The request in transmission reported as sent: LOOP_TXEN falls, the counter is raised, and the Junction
Unit is told (R114, R129). -/
def State.reportSent (s : State) (q : SendingRequest) : State :=
  (s.onLlu fun u =>
    { u with sending := none, txen := false, txHeld := 0, sent := bump u.sent }).requestReported
      q.request.junction

/-- POINT_REQUEST_SENT (R114, R129): the last check bit has been sent. -/
def execPointRequestSent (s : State) : Host.Outcome State Fault Refusal :=
  .next (match s.llu.sending with
    | none => s
    | some q => if s.llu.requestSent then s.reportSent q else s)

/-- RETRY_TIMER_EXPIRY (R127). -/
def execRetryTimerExpiry (junction : Nat) (s : State) : Host.Outcome State Fault Refusal :=
  .next (match s.jcu.find junction with
    | some x => if x.state = .requesting ∧ x.retry = some 0 then s.retryExpiry x else s
    | none => s)

/-! ### Stops, sound, attributes and reports -/

/-- REFRESH_TIMER_EXPIRY (R145). -/
def execRefreshTimerExpiry (s : State) : Host.Outcome State Fault Refusal :=
  .next (if s.sru.record.state = .requested ∧ s.sru.refreshTimer = some 0 then s.indicateRequested else s)

/-- INHIBIT_TIMER_EXPIRY (R144). -/
def execInhibitTimerExpiry (s : State) : Host.Outcome State Fault Refusal :=
  .next (if s.sru.record.state = .inhibit ∧ s.sru.inhibitTimer = some 0 then
      s.onSru fun u => { u with record := StopRecord.empty, inhibitTimer := none }
    else s)

/-- STEP_END (R154, R155): the duration of the step has passed. -/
def execStepEnd (c : Channel) (s : State) : Host.Outcome State Fault Refusal :=
  .next (if s.snu.stepLeft c = some 0 then
      s.onSnu fun u => u.stepEnd c (s.level .bell && s.keyOn)
    else s)

/-- RECOVERY_TIMER_EXPIRY (R162). -/
def execRecoveryTimerExpiry (a : Attr) (s : State) : Host.Outcome State Fault Refusal :=
  .next (if (s.cmn.attr a).recovery = some 0 then s.onCmn fun c => c.recover a else s)

/-- REPORT_TIMER_EXPIRY (R177). -/
def execReportTimerExpiry (s : State) : Host.Outcome State Fault Refusal :=
  .next (if s.mgu.reportTimer = some 0 then
      s.sendReport.onMgu fun u => { u with reportTimer := some u.interval }
    else s)

end Sys2Proof.Machine
end

