-- ==== Sys2Proof/Machine/Clock.lean ====
section
/-! DEFINITION. The passing of one bit time of 1 µs in which no command is taken (log entry 3): each
transmitter sends a bit, each receiver hears one and finds what R4 to R8 and R18 have it find, the loop
receiver takes a bit where one is due, the tone outputs move on, and every thousandth bit time ends a
millisecond. What is found, and every timer that has run out, is put as a command at the end of the queue
of commands (log entries 2 and 24). -/

namespace Sys2Proof.Machine

/-! ### The receiver -/

/-- A bit time heard: the count of valid bit times in a row, and the time since the last of them (R4). -/
def Front.signal (x : Front) (valid : Bool) : Front :=
  if valid then { x with valid := min 16 (x.valid + 1), silent := 0 }
  else { x with valid := 0, silent := min 1000 (x.silent + 1) }

/-- The last 16 bits of the search once `b` has come. -/
def Front.window (x : Front) (b : Bool) : List Bool := (x.bits ++ [b]).drop (x.bits.length - 15)

/-- What the search finds as a bit comes; a code violation, none, matches nothing (R5). -/
def Front.search (x : Front) : Option Bool → Found
  | some b => recognise (x.window b)
  | none => .nothing

/-- The search after a bit (R5). A pair found sets the boundary: the search begins again behind it, and a
fill run goes on until 16 bits follow that are not its pair. A code violation breaks the run. DESIGN CHOICE
(log entry 41): it also empties the search window, so that the last 16 bits received are found behind it. -/
def Front.afterSearch (x : Front) (bit : Option Bool) : Front :=
  match bit with
  | none => { x with bits := [], run := none }
  | some b =>
    match recognise (x.window b) with
    | .start => { x with bits := [], run := none }
    | .fill c => { x with bits := [], run := some c }
    | .nothing =>
      { x with bits := x.window b, run := if (x.window b).length < 16 then x.run else none }

/-- Whether a run of a loop code is timed at a port (R18). -/
def State.timesRun (s : State) (p : Port) (c : LoopCode) : Bool :=
  match c with
  | .none => false
  | .loopup => s.mayAutoloop p
  | .loopdown => decide ((s.port p).mode = .remoteLoopback)

/-- The measure of a run of code `c` with one more pair of 16 bit times (R18). -/
def LinePort.longer (u : LinePort) (c : LoopCode) : FillRun :=
  { code := c
    micros := (match u.persistence with
      | some r => if r.code = c then r.micros else 0
      | none => 0) + 16 }

/-- The loop-code persistence timer after a bit of the search: one pair longer where a fill pair has been
found whose run is timed, stopped where the run has ended, else as it was (R5, R18). DESIGN CHOICE (log
entry 43): a run that goes on unbroken over a control reset is measured afresh at its next pair. -/
def State.timeRun (s : State) (p : Port) (bit : Option Bool) : Option FillRun :=
  match (s.port p).front.search bit with
  | .fill c => if s.timesRun p c then some ((s.port p).longer c) else none
  | _ =>
    if ((s.port p).front.afterSearch bit).run = none then none else (s.port p).persistence

/-- What the search brings about: the start of a frame, or the end of the 500 ms of a loop code (R5,
R18). -/
def State.searchEvent (s : State) (p : Port) (bit : Option Bool) : Option Instr :=
  match (s.port p).front.search bit with
  | .start => some (.frameStart p)
  | .fill c =>
    match s.timeRun p bit with
    | some r =>
      if r.micros < 500000 then none
      else if c = .loopup then some (.autoloopEnter p) else some (.autoloopExit p)
    | none => none
  | .nothing => none

/-- The octets of the frame in reception after a bit, each taken on the octet boundary (R1, R6). -/
def Front.afterBit (x : Front) (b : Bool) : Front :=
  if x.bits.length < 7 then { x with bits := x.bits ++ [b] }
  else { x with bits := [], octets := x.octets ++ [octetOf (x.bits ++ [b])] }

/-- What the octets taken bring about: LENGTH at the length octet, or the end of the frame, skipped or
whole, at the last check octet (R6, R7, R8). -/
def octetsEvent (p : Port) (held : Bool) (l : List Byte) : Option Instr :=
  if l.length = 6 ∧ 240 < num1 l 5 then some (.lengthError p)
  else if 6 ≤ l.length ∧ l.length = num1 l 5 + 8 then
    some (if held then .frameEnd p (frameOf (num1 l 5) l) else .skippedFrameEnd p)
  else none

/-- A port whose receiver has found an event, or none, at this bit time. -/
def LinePort.finding (u : LinePort) (x : Front) (e : Option Instr) : LinePort × Option Instr :=
  ({ u with front := { x with found := e } }, e)

/-- A bit time in HUNT (R5). -/
def State.huntBit (s : State) (p : Port) (x : Front) (bit : Option Bool) : LinePort × Option Instr :=
  LinePort.finding { s.port p with persistence := s.timeRun p bit } (x.afterSearch bit)
    (s.searchEvent p bit)

/-- A bit time in FRAME: a code violation is SYNC_LOSS (R6, R7, R8). -/
def LinePort.frameBit (u : LinePort) (p : Port) (x : Front) (bit : Option Bool) :
    LinePort × Option Instr :=
  match bit with
  | none => u.finding x.restart (some (.syncLoss p))
  | some b =>
    let y := x.afterBit b
    u.finding y (if y.bits = [] then octetsEvent p u.receiving.isSome y.octets else none)

/-- A bit time heard by the receiver: the levels of its two halves. DOWN is left after 16 valid bit times
in a row, and entered when 1 ms has passed without one (R4). DESIGN CHOICE (log entry 45): the bits heard in
DOWN, and those of a frame that has ended, do not join the search window, so that HUNT begins with it
empty and the last 16 bits of R5 are bits received in HUNT. -/
def State.hear (s : State) (p : Port) (h : Bool × Bool) : LinePort × Option Instr :=
  let u := s.port p
  let x := u.front.signal (validBitTime h)
  let bit := if validBitTime h then some h.1 else none
  if u.rx = .down then u.finding x (if x.valid = 16 then some (.receiverUp p) else none)
  else if x.silent = 1000 then u.finding x (some (.receiverDown p))
  else if u.inFrame then u.frameBit p x bit
  else s.huntBit p x bit

/-! ### The two pairs of a port -/

/-- The transmitter begins a fill pair in this bit time (R11). -/
def LinePort.beginsPair (u : LinePort) : Bool :=
  decide (u.pos = 0) && (decide (u.tx = .fill) || (u.transmitting.isSome && u.lead))

/-- The levels that the line has at the receive pair in this bit time; no transition where nothing is
connected or nothing is sent. -/
def LinePort.lineNow (u : LinePort) : Bool × Bool := u.line.headD (false, false)

/-- The levels of the port's own transmitted stream in this bit time. -/
def State.ownStream (s : State) (p : Port) : Bool × Bool :=
  match lineBit s p with
  | some b => manchester b
  | none => (false, false)

/-- The input of a receiver in this bit time (R14): the line, the own transmitted stream from the
transmitter's next fill pair on (R15), or none. -/
def State.receiverInput (s : State) (p : Port) : Option (Bool × Bool) :=
  match (s.port p).mode with
  | .disabled => none
  | .localLoopback =>
    if (s.port p).joined || (s.port p).beginsPair then some (s.ownStream p) else none
  | _ => some (s.port p).lineNow

/-- The receive side of a port in one bit time. -/
def State.receiveBit (s : State) (p : Port) : LinePort × Option Instr :=
  match s.receiverInput p with
  | some h => s.hear p h
  | none => (s.port p, none)

/-- What the transmitter's present output is, once all its bits have been sent (R11, R13). -/
def LinePort.outputSent (u : LinePort) (p : Port) : Option Instr :=
  match u.tx with
  | .fill => some (.fillPairSent p)
  | .sending _ => some (.frameSent p)
  | .silent => none

/-- The last bit of the present output is sent in this bit time. -/
def State.lastBit (s : State) (p : Port) : Bool :=
  match lineOutput s p with
  | some l => decide (l.length * 8 ≤ (s.port p).pos + 1)
  | none => false

/-- The place in the transmitter's output after this bit time. -/
def State.nextPos (s : State) (p : Port) : Nat :=
  if s.lastBit p then 0
  else if (s.port p).tx = .silent then (s.port p).pos else (s.port p).pos + 1

/-- The receiver takes the looped stream after this bit time (R15). -/
def LinePort.nextJoined (u : LinePort) : Bool :=
  u.joined || (decide (u.mode = .localLoopback) && u.beginsPair)

/-- What a port finds in one bit time, the receiver's event first. -/
def State.portEvents (s : State) (p : Port) : List Instr :=
  (s.receiveBit p).2.toList ++ if s.lastBit p then ((s.port p).outputSent p).toList else []

/-- One bit time at a port: the receiver hears a bit, the line and the transmitter move on by one, and
what they find waits to be taken. -/
def State.clockPort (s : State) (p : Port) : State :=
  { s with
    ports := s.ports.set p
      { (s.receiveBit p).1 with
        line := (s.port p).line.tail
        joined := (s.port p).nextJoined
        pos := s.nextPos p }
    pending := s.pending ++ s.portEvents p }

/-! ### The track loop -/

/-- A loop bit of 1/4800 s ends in this bit time: 625 thirds of a microsecond have passed. -/
def LoopLine.bitEnds (x : LoopLine) : Bool := decide (625 ≤ x.phase + 3)

/-- What the modem still has to present after this bit time. -/
def LoopLine.next (x : LoopLine) : LoopLine :=
  if x.bitEnds then { cd := x.cd.tail, bits := x.bits.tail, phase := x.phase + 3 - 625 }
  else { x with cd := x.cd.tail, phase := x.phase + 3 }

/-- The bit that the receiver takes in this bit time; in IDLE it takes none (R107). -/
def Llu.bitNow (u : Llu) : Option Bool :=
  if u.line.bitEnds ∧ u.rx ≠ .idle then u.line.bits.head? else none

/-- The telegram whose octets, from type to check, are these (R108, R110). -/
def telegramOf (l : List Byte) : Telegram :=
  { kind := octetAt l 0, fields := (l.drop 2).take (num1 l 1)
    check := BitVec.ofNat 16 (num2 l (2 + num1 l 1)) }

/-- What the octets taken in TELEGRAM bring about: a length error at the length octet, or the telegram at
its last check bit (R110). -/
def telegramEvent (l : List Byte) : Option Instr :=
  if l.length = 2 ∧ 16 < num1 l 1 then some .loopLengthError
  else if 2 ≤ l.length ∧ l.length = num1 l 1 + 4 then some (.telegramReceived (telegramOf l))
  else none

/-- The octets of the telegram in reception after a bit, each taken on the octet boundary (R109). -/
def LoopFront.afterBit (x : LoopFront) (b : Bool) : LoopFront :=
  if x.bits.length < 7 then { x with bits := x.bits ++ [b] }
  else { x with bits := [], octets := x.octets ++ [octetOf (x.bits ++ [b])] }

/-- The receiver's own part of a bit: in TELEGRAM it joins the octets. A bit taken in HUNT is told by its
command. -/
def Llu.frontNext (u : Llu) : LoopFront :=
  match u.bitNow with
  | some b => if u.rx = .telegram then u.front.afterBit b else u.front
  | none => u.front

/-- What a bit taken brings about: in HUNT a telegram start, or a bit that joins the search (R109, R115);
in TELEGRAM what its octets do (R110). -/
def Llu.bitEvent (u : Llu) : Option Instr :=
  match u.bitNow with
  | none => none
  | some b =>
    if u.rx = .hunt then some (if u.completes b then .telegramStart else .bitJudged b)
    else if u.frontNext.bits = [] then telegramEvent u.frontNext.octets
    else none

/-- The Loop Link Unit after one bit time: LOOP_CD at its next level, the measure of the carrier filter with
it (R106), and the measure of LOOP_TXEN (R114). -/
def Llu.clock (u : Llu) : Llu :=
  { u with
    line := u.line.next
    cdPin := u.line.cd.headD u.cdPin
    filter := follow 5000 (u.line.cd.headD u.cdPin != u.carrier) u.filter
    front := u.frontNext
    txHeld := min u.txLimit (u.txHeld + 3) }

/-- The change of the carrier presence that the filter has come to (R106). -/
def Llu.carrierEvent (u : Llu) : List Instr :=
  if u.carrierDue true then [.carrierGain] else if u.carrierDue false then [.carrierLoss] else []

/-- What the loop transmitter has come to: the last check bit of a request sent, or, free and with LOOP_TXEN
low for one bit time, the head of the queue to be taken (R114). -/
def State.transmitterEvent (s : State) : List Instr :=
  if s.llu.requestSent then [.pointRequestSent]
  else if s.listening ∧ s.llu.transmitterFree ∧ s.llu.queue ≠ [] then [.pointRequestTransmit]
  else []

/-- What the loop port finds in one bit time: the bit, the transmitter, then the carrier (log entry 39). A
request whose last check bit is sent before listening ends is thereby sent (R114). -/
def State.loopEvents (s : State) : List Instr :=
  s.llu.bitEvent.toList ++ (s.onLlu Llu.clock).transmitterEvent ++ s.llu.clock.carrierEvent

/-- One bit time at the loop port. -/
def State.clockLoop (s : State) : State :=
  { s.onLlu Llu.clock with pending := s.pending ++ s.loopEvents }

/-! ### The end of a millisecond -/

/-- A command where its timer runs and has no time left. -/
def expired (t : Option Nat) (c : Instr) : List Instr := if t = some 0 then [c] else []

/-- The nine inputs, in the order of R75. -/
def allInputs : List Input :=
  [.key, .deadman, .estop, .doorRelease, .horn, .bell, .routeLeft, .routeStraight, .routeRight]

/-- The eight attributes, in the order of their ids. -/
def allAttrs : List Attr :=
  [.portALine, .portBLine, .buffer, .loopLink, .loopCheck, .speedSource, .adhesion, .stopPanel]

/-- The debounced change that an input has come to (R75). -/
def Ciu.change (u : Ciu) (i : Input) : List Instr :=
  if (u.input i).due true then [.debouncedChange i true]
  else if (u.input i).due false then [.debouncedChange i false] else []

/-- The learning timers that have run out (R23). -/
def Fsw.expiries (u : Fsw) : List Instr :=
  (List.range 63).flatMap fun n =>
    expired ((u.nodes.get n NodeEntry.powerOn).learned.map fun l => l.left)
      (.learningTimerExpiry (BitVec.ofNat 6 n))

/-- The timers of the Cab Role Unit that have run out (R59, R61, R64, R66, R67, R70). -/
def Cru.expiries (u : Cru) : List Instr :=
  expired u.announceTimer .announceTimerExpiry ++ expired u.claimWindow .claimWindowExpiry ++
    u.cabs.flatMap (fun e => expired (some e.left) (.cabEntryTimeout e.cab)) ++
    expired u.clearTimer .clearTimerExpiry ++ expired u.releasingTimer .releasingTimerExpiry ++
    expired u.flashTimer .cabLampFlash

/-- A handle fault whose in-range timer has reached 100 ms (R74). -/
def Ciu.faultEnds (u : Ciu) : List Instr :=
  if u.fault ∧ 100 ≤ u.inRange.getD 0 then [.handleFaultCleared] else []

/-- Every command that is due as a millisecond ends: the sample of the handle (R73), the debounced changes
in the order of R75, then each timer that has no time left, unit by unit. DESIGN CHOICE (log entry 2): their
order within a millisecond. -/
def State.due (s : State) : List Instr :=
  .handleSample s.ciu.wiper :: allInputs.flatMap s.ciu.change ++ s.ciu.faultEnds ++ s.fsw.expiries ++
    expired s.fsw.stats.a.hold (.loopReportHoldExpiry .A) ++
    expired s.fsw.stats.b.hold (.loopReportHoldExpiry .B) ++ s.cru.expiries ++
    expired s.tdu.grace .graceTimerExpiry ++ expired s.tdu.periodTimer .demandPeriod ++
    s.jcu.contexts.flatMap (fun x => expired x.retry (.retryTimerExpiry x.junction)) ++
    expired s.sru.refreshTimer .refreshTimerExpiry ++ expired s.sru.inhibitTimer .inhibitTimerExpiry ++
    expired (s.snu.stepLeft .exterior) (.stepEnd .exterior) ++
    expired (s.snu.stepLeft .interior) (.stepEnd .interior) ++
    allAttrs.flatMap (fun a => expired (s.cmn.attr a).recovery (.recoveryTimerExpiry a)) ++
    expired s.mgu.reportTimer .reportTimerExpiry

/-- The end of a millisecond, with what is due at it at the end of the queue. -/
def State.endMilli (s : State) : State := { s.tick with pending := s.pending ++ s.tick.due }

/-! ### The part -/

/-- The thousandth bit time ends a millisecond. -/
def State.countMicro (s : State) : State :=
  if s.cmn.micros + 1 < 1000 then s.onCmn fun c => { c with micros := c.micros + 1 }
  else (s.onCmn fun c => { c with micros := 0 }).endMilli

/-- One bit time with no command: port A, port B, the loop, the tone outputs, the count of the millisecond
(log entry 3). -/
def State.clock (s : State) : State :=
  (((s.clockPort .A).clockPort .B).clockLoop.onSnu Snu.clock).countMicro

end Sys2Proof.Machine
end

