-- ==== Sys2Proof/Machine/Control.lean ====
section
/-! DEFINITION. The frame of every CONTROL command (R170, R172 to R178): which row of the table a frame
calls for, the judgements, the action, the REPLY and what follows it. -/

namespace Sys2Proof.Machine

/-- The row of a WRITE_TABLE, by table code (R171). -/
def writeRow (table : Nat) : Instr :=
  match table with
  | 1 => .writeNode
  | 2 => .writeClass
  | 3 => .writeTagMap
  | 4 => .writeWeights
  | 5 => .writePortConfig
  | 6 => .writeQueueMap
  | 7 => .writeRoute
  | 8 => .writeProfile
  | 9 => .writePattern
  | 10 => .writeTone
  | 11 => .writeSoundMap
  | 12 => .writeAttributeConfig
  | _ => .unknownCommand

/-- The row of a CLEAR, by group (R183). -/
def clearRow (group : Nat) : Instr :=
  match group with
  | 1 => .clearLatches
  | 2 => .clearLog
  | 3 => .clearAttributes
  | 4 => .clearCounters
  | _ => .unknownCommand

/-- The row of a SET_PORT_MODE, by action (R183). -/
def modeRow (action : Nat) : Instr :=
  match action with
  | 1 => .setNormal
  | 2 => .setLocalLoopback
  | 3 => .setRemoteLoopback
  | 4 => .setDisabled
  | 5 => .sendLoopup
  | 6 => .sendLoopdown
  | 7 => .stopLoopcode
  | _ => .unknownCommand

/-- The row of the table that a CONTROL payload calls for (R183). A frame that no row names goes to
UNKNOWN_COMMAND (log entry 8). -/
def rowOf (payload : List Byte) : Instr :=
  match num1 payload 0 with
  | 1 => .readTable
  | 2 => writeRow (num1 payload 1)
  | 3 =>
    if num1 payload 1 = 7 then .commitRoute
    else if num1 payload 1 = 8 then .commitProfile
    else .unknownCommand
  | 4 => .readState
  | 5 => .readLog
  | 6 => clearRow (num1 payload 1)
  | 7 => modeRow (num1 payload 2)
  | 8 => .setManager
  | 9 => .setReport
  | 10 => .preselect
  | 11 => .resetPart
  | _ => .unknownCommand

/-- Whether a command code is one of the eleven (R170 test 2). An empty payload has none. -/
def knownCode (payload : List Byte) : Bool :=
  !payload.isEmpty && decide (1 ≤ num1 payload 0 ∧ num1 payload 0 ≤ 11)

/-- Whether a payload is as long as its command's layout requires (R170 test 3, R183). -/
def lengthFits (payload : List Byte) : Bool :=
  match num1 payload 0 with
  | 1 => decide (payload.length = 5)
  | 2 => decide (5 ≤ payload.length)
  | 4 => decide (payload.length = 3)
  | 7 => decide (payload.length = 3)
  | 9 => decide (payload.length = 3)
  | 11 => decide (payload.length = 1)
  | _ => decide (payload.length = 2)

/-- A command's own checks and action, on the state in which its frame is taken (R170 test 4). -/
abbrev Act := State → Frame → State × Answer

/-- The judgements of R170 in their order, then the command's own checks and action. -/
def State.obey (s : State) (f : Frame) (act : Act) : State × Answer :=
  if addrOf f.src ≠ s.mgu.manager then (s, Answer.refused reasonNotManager 0)
  else if knownCode f.payload = false then (s, Answer.refused reasonUnknownCommand 0)
  else if lengthFits f.payload = false then (s, Answer.refused reasonLength 0)
  else act s f

/-- A command counted as executed or refused (R170). -/
def Mgu.tally (u : Mgu) (a : Answer) : Mgu :=
  if a.status = 3 then { u with refused := bump u.refused } else { u with executed := bump u.executed }

/-- The command code octet of a REPLY: a free value where the CONTROL payload is empty (log entry 9). -/
def State.replyCode (s : State) (f : Frame) : Byte := f.payload.headD (Config.absentCommandCode s.free)

/-- The model's count of free values advances when the command code had to be drawn. -/
def State.drawCode (s : State) (f : Frame) : State := if f.payload.isEmpty then s.draw else s

/-- The REPLY to a CONTROL frame (R170, R183). -/
def State.replyFrame (s : State) (f : Frame) (a : Answer) : Frame :=
  ownFrame s.own f.src kindReply priorityReply f.seq
    (replyHead (s.replyCode f) a.status a.reason a.figure ++ a.data)

/-- The marking of the reply that carries a control reset: its buffer and the ports at which it is
queued (R56). -/
def State.markFor (s : State) (dest : Addr) : Option ResetReply :=
  s.bqm.firstFree.map fun b =>
    { buffer := b
      undone :=
        { a := (s.routes dest).a && s.wouldQueue .A priorityReply
          b := (s.routes dest).b && s.wouldQueue .B priorityReply } }

/-- The reply is marked while a reset is pending (R178). -/
def State.mark (s : State) (f : Frame) : State :=
  if s.mgu.pendingReset.isSome then
    s.onBqm fun q => { q with resetReply := s.markFor (addrOf f.src) }
  else s

/-- The REPLY sent (R170), marked when it carries a control reset. -/
def State.reply (s : State) (f : Frame) (a : Answer) : State :=
  ((s.mark f).sendOwn priorityReply (s.replyFrame f a)).drawCode f

/-- A CONTROL frame taken from the head of the Local Dispatch Queue by its row of the table (R52, R170):
judged, acted on, counted, answered, and its reference released; then a pending reset whose reply is
done is settled (log entry 13). While a reset is pending no frame is taken (R178). -/
def State.control (s : State) (row : Instr) (act : Act) : State :=
  match s.headOfKind kindControl with
  | none => s
  | some (b, f) =>
    if s.mgu.pendingReset.isSome ∨ rowOf f.payload ≠ row then s
    else
      let r := s.takeHead.obey f act
      (((r.1.onMgu fun u => u.tally r.2).reply f r.2).consumed b).settleReset

/-- An action that changes nothing and answers. -/
def answering (f : State → List Byte → Answer) : Act := fun s x => (s, f s x.payload)

/-- An action that is always carried out. -/
def doing (f : State → State) : Act := fun s _ => (f s, Answer.ok [])

/-- A refusal with BAD_INDEX of a command that names no index: the figure is a free value (log entry
10). -/
def State.badIndex (s : State) : State × Answer :=
  (s.draw, Answer.refused reasonBadIndex (Config.figureWithoutIndex s.free).toNat)

/-! ### SET_PORT_MODE -/

/-- The port a SET_PORT_MODE names (R181). -/
def portOf (n : Nat) : Option Port := if n = 1 then some .A else if n = 2 then some .B else none

/-- SET_PORT_MODE naming a mode (R14, R175). DESIGN CHOICE (log entry 37): a loopback taken while the
role is still INACTIVE is accepted by R14 and R175, whatever the heads of R177's pair table give. -/
def setMode (m : PortMode) : Act := fun s f =>
  match portOf (num1 f.payload 1) with
  | none => s.badIndex
  | some p =>
    if (m = .localLoopback ∨ m = .remoteLoopback) ∧ s.cru.role ≠ .inactive then
      (s, Answer.refused reasonRole 0)
    else (s.changeMode p m, Answer.ok [])

/-- SET_PORT_MODE naming a loop-code action (R12, R175). -/
def setCode (c : LoopCode) : Act := fun s f =>
  match portOf (num1 f.payload 1) with
  | none => s.badIndex
  | some p => (s.setLoopCode p c, Answer.ok [])

/-! ### COMMIT -/

/-- The index of the first of the entries that does not rise above the one before it (R121). -/
def firstFall : Nat → List RouteEntry → Option Nat
  | i, x :: y :: l => if y.junction ≤ x.junction then some (i + 1) else firstFall (i + 1) (y :: l)
  | _, _ => none

/-- COMMIT(ROUTE) (R121). -/
def commitRoute : Act := fun s _ =>
  let entries := s.jcu.shadow.data.take s.jcu.shadowHeader.count
  match firstFall 1 entries with
  | some i => (s, Answer.refused reasonInvalid i)
  | none =>
    (s.onJcu fun u => { u with live := some { header := u.shadowHeader, entries := entries } },
      Answer.ok [])

/-- COMMIT(PROFILE) (R94), taken as the key-on where one is pending (R62, R172). -/
def commitProfile : Act := fun s _ =>
  let p := s.tdu.shadow
  if ¬ (p.hb < p.hn1 ∧ p.hn1 ≤ p.hn2 ∧ p.hn2 < p.hp) then (s, Answer.refused reasonInvalid 1)
  else if ¬ (p.jerk ≤ p.rateLimit) then (s, Answer.refused reasonInvalid 2)
  else
    let t := s.onTdu fun u => { u with live := some u.shadow }
    (if s.cru.pendingKeyOn then t.takeKeyOn else t, Answer.ok [])

/-! ### CLEAR -/

/-- CLEAR(LATCHES) (R10, R174). -/
def State.clearLatches (s : State) : State :=
  { s with ports := s.ports.map fun x => { x with latches := Latches.clear } }

def LinePort.clearCounters (x : LinePort) : LinePort := { x with good := 0, discarded := 0, sent := 0 }

def SwitchStats.clearCounters (x : SwitchStats) : SwitchStats :=
  { x with malformed := 0, ownSource := 0, refused := 0, filtered := 0 }

def Egress.clearCounters (e : Egress) : Egress :=
  { e with queues := e.queues.map fun x => { x with drops := 0 } }

def Bqm.clearCounters (q : Bqm) : Bqm :=
  { q with egress := q.egress.map Egress.clearCounters, localDrops := 0 }

def Llu.clearCounters (u : Llu) : Llu :=
  { u with good := 0, checkErrors := 0, lengthErrors := 0, rejected := 0, carrierDiscards := 0
           sent := 0, cutOff := 0 }

/-- CLEAR(COUNTERS): every counter the manual names so (R10, R35, R46, R51, R60, R79, R117, R128,
R142, R156, R170). -/
def State.clearCounters (s : State) : State :=
  { s with
    ports := s.ports.map LinePort.clearCounters
    fsw := { s.fsw with stats := s.fsw.stats.map SwitchStats.clearCounters }
    bqm := s.bqm.clearCounters
    cru := { s.cru with rejected := 0 }
    tdu := { s.tdu with rejected := 0 }
    llu := s.llu.clearCounters
    jcu := { s.jcu with unmatched := 0 }
    sru := { s.sru with rejected := 0 }
    snu := { s.snu with discarded := 0 }
    mgu := { s.mgu with executed := 0, refused := 0 } }

/-! ### The rest -/

/-- SET_MANAGER (R176). -/
def setManager : Act := fun s f =>
  let a := num1 f.payload 1
  if 63 ≤ a then (s, Answer.refused reasonInvalid 0)
  else (s.onMgu fun u => { u with manager := BitVec.ofNat 6 a }, Answer.ok [])

/-- The report interval a SET_REPORT names (R176). -/
def reportInterval (n : Nat) : Nat := if n = 0 then 0 else clampNat 100 5000 n

/-- SET_REPORT (R176). The timer runs only while the part is addressed (R177). -/
def setReport : Act := fun s f =>
  let n := num2 f.payload 1
  let i := reportInterval n
  (s.onMgu fun u =>
      { u with interval := i, reportTimer := if i ≠ 0 ∧ s.addressed then some i else none },
    Answer.clamped (if i = n then 0 else 1) [])

/-- PRESELECT (R122, R175). DESIGN CHOICE (log entry 37): a PRESELECT taken while the role is still ACTIVE
is accepted by R122 and R175, whatever the heads of R177's pair table give. -/
def preselect : Act := fun s f =>
  if s.cru.role ≠ .active then (s, Answer.refused reasonRole 0)
  else
    match directionOf (num1 f.payload 1) with
    | none => (s, Answer.refused reasonInvalid 0)
    | some d => (s.routePress d, Answer.ok [])

/-- RESET_PART (R178). -/
def resetPart : Act := fun s f =>
  if s.resetBarred then (s, Answer.refused reasonBusy 0)
  else (s.onMgu fun u => { u with pendingReset := some (addrOf f.src) }, Answer.ok [])

/-- READ_STATE (R173). -/
def readState : Act := answering fun s l =>
  match s.readItem (num1 l 1) (num1 l 2) with
  | some data => Answer.ok data
  | none => Answer.refused reasonBadIndex (num1 l 2)

/-- READ_LOG: a count above 8 is clamped to 8 (R173). -/
def readLog : Act := answering fun s l =>
  Answer.clamped (offRange 0 8 (num1 l 1)) (s.cmn.log.readout (clampNat 0 8 (num1 l 1)))

/-- A frame that names no row: a table code no command takes is BAD_TABLE (R171, R172), a group or
action code outside its set is BAD_INDEX (R174, R175). -/
def noRow : Act := fun s f =>
  if num1 f.payload 0 = 2 ∨ num1 f.payload 0 = 3 then (s, Answer.refused reasonBadTable 0)
  else s.badIndex

end Sys2Proof.Machine
end

