-- ==== Sys2Proof/Machine/ManagementEvents.lean ====
section
/-! DEFINITION. The commands that reach the Management Unit in CONTROL frames (Chapter 12): each row
takes the frame at the head of the Local Dispatch Queue when the frame calls for it. -/

namespace Sys2Proof.Machine

/-- UNKNOWN_COMMAND (R170): a code that is not one of the eleven, and every frame that names no row. -/
def execUnknownCommand (s : State) : Host.Outcome State Fault Refusal :=
  .next (s.control .unknownCommand noRow)

/-- READ_TABLE (R171). -/
def execReadTable (s : State) : Host.Outcome State Fault Refusal :=
  .next (s.control .readTable (answering fun t l => t.readTable (num1 l 1) (num2 l 2) (num1 l 4)))

/-- WRITE_NODE (R21, R171). -/
def execWriteNode (s : State) : Host.Outcome State Fault Refusal :=
  .next (s.control .writeNode (fun t f => t.writeEntries 0 62 4 f.payload parseNode putNode))

/-- WRITE_CLASS (R26, R171). -/
def execWriteClass (s : State) : Host.Outcome State Fault Refusal :=
  .next (s.control .writeClass (fun t f => t.writeEntries 0 255 4 f.payload parseClass putClass))

/-- WRITE_TAG_MAP (R36, R171). -/
def execWriteTagMap (s : State) : Host.Outcome State Fault Refusal :=
  .next (s.control .writeTagMap (fun t f => t.writeEntries 0 7 1 f.payload (parseOctet 7) putTag))

/-- WRITE_WEIGHTS (R36, R171). -/
def execWriteWeights (s : State) : Host.Outcome State Fault Refusal :=
  .next (s.control .writeWeights (fun t f => t.writeEntries 0 3 1 f.payload (parseOctet 15) putWeight))

/-- WRITE_PORT_CONFIG (R44, R47, R171). -/
def execWritePortConfig (s : State) : Host.Outcome State Fault Refusal :=
  .next (s.control .writePortConfig (fun t f => t.writeEntries 1 2 15 f.payload parsePortConfig putPortConfig))

/-- WRITE_QUEUE_MAP (R45, R171). -/
def execWriteQueueMap (s : State) : Host.Outcome State Fault Refusal :=
  .next (s.control .writeQueueMap (fun t f => t.writeEntries 1 4 8 f.payload parseQueueMap putQueueMap))

/-- WRITE_ROUTE (R120, R171). -/
def execWriteRoute (s : State) : Host.Outcome State Fault Refusal :=
  .next (s.control .writeRoute (fun t f => t.writeRoute f.payload))

/-- WRITE_PROFILE (R93, R171). -/
def execWriteProfile (s : State) : Host.Outcome State Fault Refusal :=
  .next (s.control .writeProfile (fun t f => t.writeEntries 1 19 2 f.payload parseField putField))

/-- WRITE_PATTERN (R151, R157, R171). -/
def execWritePattern (s : State) : Host.Outcome State Fault Refusal :=
  .next (s.control .writePattern (fun t f => t.writePattern f.payload))

/-- WRITE_TONE (R150, R171). -/
def execWriteTone (s : State) : Host.Outcome State Fault Refusal :=
  .next (s.control .writeTone (fun t f => t.writeEntries 0 7 2 f.payload parseTone putTone))

/-- WRITE_SOUND_MAP (R152, R157, R171). -/
def execWriteSoundMap (s : State) : Host.Outcome State Fault Refusal :=
  .next (s.control .writeSoundMap (fun t f => t.writeEntries 0 0 7 f.payload parseSoundMap putSoundMap))

/-- WRITE_ATTRIBUTE_CONFIG (R161, R163, R171). -/
def execWriteAttributeConfig (s : State) : Host.Outcome State Fault Refusal :=
  .next (s.control .writeAttributeConfig (fun t f => t.writeEntries 1 8 5 f.payload parseAttr putAttr))

/-- COMMIT_ROUTE (R121, R172). -/
def execCommitRoute (s : State) : Host.Outcome State Fault Refusal :=
  .next (s.control .commitRoute commitRoute)

/-- COMMIT_PROFILE (R94, R172). -/
def execCommitProfile (s : State) : Host.Outcome State Fault Refusal :=
  .next (s.control .commitProfile commitProfile)

/-- READ_STATE (R173). -/
def execReadState (s : State) : Host.Outcome State Fault Refusal :=
  .next (s.control .readState readState)

/-- READ_LOG (R173). -/
def execReadLog (s : State) : Host.Outcome State Fault Refusal :=
  .next (s.control .readLog readLog)

/-- CLEAR_LATCHES (R174). -/
def execClearLatches (s : State) : Host.Outcome State Fault Refusal :=
  .next (s.control .clearLatches (doing State.clearLatches))

/-- CLEAR_LOG (R169, R174). -/
def execClearLog (s : State) : Host.Outcome State Fault Refusal :=
  .next (s.control .clearLog (doing fun t => t.onCmn Cmn.clearLog))

/-- CLEAR_ATTRIBUTES (R169, R174). -/
def execClearAttributes (s : State) : Host.Outcome State Fault Refusal :=
  .next (s.control .clearAttributes (doing fun t => t.onCmn Cmn.clearAttributes))

/-- CLEAR_COUNTERS (R174). -/
def execClearCounters (s : State) : Host.Outcome State Fault Refusal :=
  .next (s.control .clearCounters (doing State.clearCounters))

/-- SET_NORMAL (R14, R19). -/
def execSetNormal (s : State) : Host.Outcome State Fault Refusal :=
  .next (s.control .setNormal (setMode .normal))

/-- SET_LOCAL_LOOPBACK (R14, R15). -/
def execSetLocalLoopback (s : State) : Host.Outcome State Fault Refusal :=
  .next (s.control .setLocalLoopback (setMode .localLoopback))

/-- SET_REMOTE_LOOPBACK (R14, R16). -/
def execSetRemoteLoopback (s : State) : Host.Outcome State Fault Refusal :=
  .next (s.control .setRemoteLoopback (setMode .remoteLoopback))

/-- SET_DISABLED (R14, R17). -/
def execSetDisabled (s : State) : Host.Outcome State Fault Refusal :=
  .next (s.control .setDisabled (setMode .disabled))

/-- SEND_LOOPUP (R12, R19). -/
def execSendLoopup (s : State) : Host.Outcome State Fault Refusal :=
  .next (s.control .sendLoopup (setCode .loopup))

/-- SEND_LOOPDOWN (R12, R19). -/
def execSendLoopdown (s : State) : Host.Outcome State Fault Refusal :=
  .next (s.control .sendLoopdown (setCode .loopdown))

/-- STOP_LOOPCODE (R12, R19). -/
def execStopLoopcode (s : State) : Host.Outcome State Fault Refusal :=
  .next (s.control .stopLoopcode (setCode .none))

/-- SET_MANAGER (R176). -/
def execSetManager (s : State) : Host.Outcome State Fault Refusal :=
  .next (s.control .setManager setManager)

/-- SET_REPORT (R176). -/
def execSetReport (s : State) : Host.Outcome State Fault Refusal :=
  .next (s.control .setReport setReport)

/-- PRESELECT (R122, R175). -/
def execPreselect (s : State) : Host.Outcome State Fault Refusal :=
  .next (s.control .preselect preselect)

/-- RESET_PART (R178). -/
def execResetPart (s : State) : Host.Outcome State Fault Refusal :=
  .next (s.control .resetPart resetPart)

end Sys2Proof.Machine
end

