-- ==== Sys2Proof/Machine/Dispatch.lean ====
section
/-! DEFINITION. The meaning of each command. -/

namespace Sys2Proof.Machine

/-- The effect of a command on everything but the queue of waiting commands. -/
def exec (i : Instr) (s : State) : Host.Outcome State Fault Refusal :=
  match i with
  | .powerOnReset straps => Sys2Proof.Machine.execPowerOnReset straps s
  | .frameStart p => Sys2Proof.Machine.execFrameStart p s
  | .frameEnd p f => Sys2Proof.Machine.execFrameEnd p f s
  | .skippedFrameEnd p => Sys2Proof.Machine.execSkippedFrameEnd p s
  | .lengthError p => Sys2Proof.Machine.execLengthError p s
  | .syncLoss p => Sys2Proof.Machine.execSyncLoss p s
  | .receiverDown p => Sys2Proof.Machine.execReceiverDown p s
  | .receiverUp p => Sys2Proof.Machine.execReceiverUp p s
  | .autoloopEnter p => Sys2Proof.Machine.execAutoloopEnter p s
  | .autoloopExit p => Sys2Proof.Machine.execAutoloopExit p s
  | .learningTimerExpiry node => Sys2Proof.Machine.execLearningTimerExpiry node s
  | .loopReportHoldExpiry p => Sys2Proof.Machine.execLoopReportHoldExpiry p s
  | .fillPairSent p => Sys2Proof.Machine.execFillPairSent p s
  | .frameSent p => Sys2Proof.Machine.execFrameSent p s
  | .takeCabAnnounce => Sys2Proof.Machine.execTakeCabAnnounce s
  | .takeInverterStatus => Sys2Proof.Machine.execTakeInverterStatus s
  | .takeStopPress => Sys2Proof.Machine.execTakeStopPress s
  | .announceTimerExpiry => Sys2Proof.Machine.execAnnounceTimerExpiry s
  | .claimWindowExpiry => Sys2Proof.Machine.execClaimWindowExpiry s
  | .cabEntryTimeout cab => Sys2Proof.Machine.execCabEntryTimeout cab s
  | .clearTimerExpiry => Sys2Proof.Machine.execClearTimerExpiry s
  | .releasingTimerExpiry => Sys2Proof.Machine.execReleasingTimerExpiry s
  | .debouncedChange x level => Sys2Proof.Machine.execDebouncedChange x level s
  | .graceTimerExpiry => Sys2Proof.Machine.execGraceTimerExpiry s
  | .handleFault sample => Sys2Proof.Machine.execHandleFault sample s
  | .handleFaultCleared => Sys2Proof.Machine.execHandleFaultCleared s
  | .demandPeriod => Sys2Proof.Machine.execDemandPeriod s
  | .carrierGain => Sys2Proof.Machine.execCarrierGain s
  | .carrierLoss => Sys2Proof.Machine.execCarrierLoss s
  | .telegramStart => Sys2Proof.Machine.execTelegramStart s
  | .loopLengthError => Sys2Proof.Machine.execLoopLengthError s
  | .telegramReceived t => Sys2Proof.Machine.execTelegramReceived t s
  | .pointRequestTransmit => Sys2Proof.Machine.execPointRequestTransmit s
  | .pointRequestSent => Sys2Proof.Machine.execPointRequestSent s
  | .retryTimerExpiry junction => Sys2Proof.Machine.execRetryTimerExpiry junction s
  | .refreshTimerExpiry => Sys2Proof.Machine.execRefreshTimerExpiry s
  | .inhibitTimerExpiry => Sys2Proof.Machine.execInhibitTimerExpiry s
  | .stepEnd c => Sys2Proof.Machine.execStepEnd c s
  | .recoveryTimerExpiry a => Sys2Proof.Machine.execRecoveryTimerExpiry a s
  | .reportTimerExpiry => Sys2Proof.Machine.execReportTimerExpiry s
  | .unknownCommand => Sys2Proof.Machine.execUnknownCommand s
  | .readTable => Sys2Proof.Machine.execReadTable s
  | .writeNode => Sys2Proof.Machine.execWriteNode s
  | .writeClass => Sys2Proof.Machine.execWriteClass s
  | .writeTagMap => Sys2Proof.Machine.execWriteTagMap s
  | .writeWeights => Sys2Proof.Machine.execWriteWeights s
  | .writePortConfig => Sys2Proof.Machine.execWritePortConfig s
  | .writeQueueMap => Sys2Proof.Machine.execWriteQueueMap s
  | .writeRoute => Sys2Proof.Machine.execWriteRoute s
  | .writeProfile => Sys2Proof.Machine.execWriteProfile s
  | .writePattern => Sys2Proof.Machine.execWritePattern s
  | .writeTone => Sys2Proof.Machine.execWriteTone s
  | .writeSoundMap => Sys2Proof.Machine.execWriteSoundMap s
  | .writeAttributeConfig => Sys2Proof.Machine.execWriteAttributeConfig s
  | .commitRoute => Sys2Proof.Machine.execCommitRoute s
  | .commitProfile => Sys2Proof.Machine.execCommitProfile s
  | .readState => Sys2Proof.Machine.execReadState s
  | .readLog => Sys2Proof.Machine.execReadLog s
  | .clearLatches => Sys2Proof.Machine.execClearLatches s
  | .clearLog => Sys2Proof.Machine.execClearLog s
  | .clearAttributes => Sys2Proof.Machine.execClearAttributes s
  | .clearCounters => Sys2Proof.Machine.execClearCounters s
  | .setNormal => Sys2Proof.Machine.execSetNormal s
  | .setLocalLoopback => Sys2Proof.Machine.execSetLocalLoopback s
  | .setRemoteLoopback => Sys2Proof.Machine.execSetRemoteLoopback s
  | .setDisabled => Sys2Proof.Machine.execSetDisabled s
  | .sendLoopup => Sys2Proof.Machine.execSendLoopup s
  | .sendLoopdown => Sys2Proof.Machine.execSendLoopdown s
  | .stopLoopcode => Sys2Proof.Machine.execStopLoopcode s
  | .setManager => Sys2Proof.Machine.execSetManager s
  | .setReport => Sys2Proof.Machine.execSetReport s
  | .preselect => Sys2Proof.Machine.execPreselect s
  | .resetPart => Sys2Proof.Machine.execResetPart s
  | .handleSample sample => Sys2Proof.Machine.execHandleSample sample s
  | .bitJudged bit => Sys2Proof.Machine.execBitJudged bit s
  | .cabLampFlash => Sys2Proof.Machine.execCabLampFlash s

end Sys2Proof.Machine
end

