-- ==== Sys2Proof/Safety.lean ====
section
/-! DEFINITION. The laws the spec states of the part's state in so many words, each as a property of one
state. -/

namespace Sys2Proof.Machine

/-! ### The parts of the law of the pool -/

/-- How often a buffer occurs in a list of references. -/
def occurrences (b : Nat) (l : List Nat) : Nat := l.count b

/-- The references one port's receiver, transmitter, return list and queues hold on a buffer (R41). -/
def State.heldAt (s : State) (p : Port) (b : Nat) : Nat :=
  (if (s.port p).receiving = some b then 1 else 0) + (if (s.port p).transmitting = some b then 1 else 0) +
    occurrences b (s.port p).returnList + occurrences b (s.bqm.egress.get p).references

/-- The number of places that hold a buffer, between two commands, when no unit is in the middle of one
(R41). -/
def State.places (s : State) (b : Nat) : Nat :=
  s.heldAt .A b + s.heldAt .B b + occurrences b s.bqm.ldq

/-- The law of the pool: each buffer's reference count equals the number of places holding it (R41). -/
def State.PoolLaw (s : State) : Prop := ∀ b, b < 96 → (s.bqm.buffer b).refs = s.places b

/-- A buffer in the hands of a receiver has that one reference alone (R6, R42). -/
def State.ReceiverLaw (s : State) : Prop :=
  ∀ (p : Port) (b : Nat), (s.port p).receiving = some b → (s.bqm.buffer b).refs = 1

/-- A demand that waits at a port stands in that port's queues once; two waiting demands are one and the
same, and where the demand waits no longer it stands in no queue (R53, R54). -/
def State.SlotLaw (s : State) : Prop :=
  ∀ (p q : Port) (b : Nat), s.bqm.slot.get p = .waiting b →
    occurrences b (s.bqm.egress.get q).references = (if s.bqm.slot.get q = .waiting b then 1 else 0) ∧
      ∀ c, s.bqm.slot.get q = .waiting c → c = b

/-- A return list holds frames in REMOTE_LOOPBACK alone (R16). -/
def State.ReturnLaw (s : State) : Prop :=
  ∀ p : Port, (s.port p).mode ≠ .remoteLoopback → (s.port p).returnList = []

/-- Each Queue Map names queues below its queue count alone; the map of queue count k + 1 is entry k
(R45). -/
def Bqm.MapLaw (q : Bqm) : Prop :=
  ∀ k n, k < 4 → n < 8 → (q.maps.get k (Tab.fill 8 0)).get n 0 ≤ k

/-- The laws of the buffers together: the law of the pool, with what its upkeep rests on. -/
def State.BufferLaw (s : State) : Prop := s.PoolLaw ∧ s.ReceiverLaw ∧ s.SlotLaw ∧ s.ReturnLaw ∧ s.bqm.MapLaw

/-- The reference a holder gives up, if it holds a buffer. -/
def Bqm.letGo (q : Bqm) : Option Nat → Bqm
  | some b => q.release b
  | none => q

/-! ### The receiver's input -/

/-- The receiver has heard the event: in LOCAL_LOOPBACK the looped stream has just brought it about (R15). -/
def LinePort.Heard (u : LinePort) (c : Instr) : Prop := u.mode = .localLoopback → u.front.found = some c

/-! ### The demand of a period -/

/-- `v` is the state after the stages of a demand period in RUN or HOLD, opened as `u` with handle value
`h` and the live profile `p`: the new D, R and f, the record with Dh, Dt, C and the flags, one ADHESION event
at an onset of slip, and the frame offered with the D, the flags and the C of the record (R95 to R103). -/
def State.Drives (u : State) (p : Profile) (h : Nat) (v : State) : Prop :=
  ∃ (c dh f : Int) (hold slip : Bool) (w x : Work) (g : DemandFlags),
    c = u.capC p.maxSpeed ∧ dh = handleTarget p u.ciu.fault h ∧ hold = decide (u.tdu.state = .hold) ∧
    slip = findsSlip p u.tdu.facts.s ∧
    f = (if slip then max 250 (u.tdu.f - p.adhesionCut) else min 1000 (u.tdu.f + p.adhesionRestore)) ∧
    w = stages p hold (u.level .doorRelease) (u.cmn.tripped .speedSource) dh c u.tdu.facts.v f
      { dt := dh, d := u.tdu.d, r := u.tdu.r, cut := false } ∧
    x = stageRamp p (powerBar hold (u.level .doorRelease) c u.tdu.facts.v) w ∧
    g = { emergency := false, hold := hold, blind := u.tdu.facts.v.isNone, sand := slip } ∧
    v = State.emitDemand { u with
        tdu := { u.tdu with
          d := x.d, r := x.r, f := f, slip := slip, periodD := x.d
          record := { dh := dh, dt := w.dt, c := c, flags := g } }
        cmn := if slip = true ∧ u.tdu.slip = false then u.cmn.count .adhesion else u.cmn } x.d g c

/-! ### The lamp and the sounds of the junctions -/

/-- The warning condition: an open context in another state than SET and PASSED, or the overflow flag
(R136). -/
def Jcu.Warns (u : Jcu) : Prop :=
  u.overflow = true ∨ ∃ x ∈ u.contexts, x.state ≠ .set ∧ x.state ≠ .passed

/-- The condition of the Junction Unit's claim of CAB_ALERT (R137). -/
def Jcu.Alerts (u : Jcu) : Prop :=
  ∃ x ∈ u.contexts, x.state = .mismatch ∨ x.state = .refused ∨ x.state = .unanswered

/-- The ROUTE lamp and the two requests of the Sound Unit that `u` was are judged anew by the contexts and
the overflow flag of `t`, the WARNING source first (R136, R137). -/
def State.Signals (t : State) (u : Snu) : Prop :=
  ∃ w a : Bool, (w = true ↔ t.jcu.Warns) ∧ (a = true ↔ t.jcu.Alerts) ∧ t.jcu.routeLamp = w ∧
    t.snu = (u.setWarning w).setAlertJunction a

/-- The law of the lamp: the ROUTE lamp is lit, and the WARNING source active, exactly while the warning
condition holds, and the Junction Unit's claim of CAB_ALERT stands exactly while its condition holds (R136,
R137). -/
def State.SignalLaw (s : State) : Prop :=
  (s.jcu.routeLamp = true ↔ s.jcu.Warns) ∧ (s.snu.warning = true ↔ s.jcu.Warns) ∧
    (s.snu.alertJunction = true ↔ s.jcu.Alerts)

/-! ### A route change -/

/-- `t` is `u` after a press of direction `d` that acts on the open context `x`: refused in SET and PASSED,
and otherwise the new direction requested with attempt 1, the lamp and the sounds judged anew (R114, R127,
R130, R136, R137). -/
def State.RouteChanged (u : State) (x : Ctx) (d : Direction) (t : State) : Prop :=
  ((x.state = .set ∨ x.state = .passed) →
    t = { u with
      cmn := u.cmn.note
        { kind := .routeChangeRefused, block := .jcu, junction := some x.junction
          value := some (codeDirection d : Int) } }) ∧
  (x.state ≠ .set → x.state ≠ .passed →
    t = { u with llu := t.llu, jcu := t.jcu, snu := t.snu } ∧ t.Signals u.snu ∧
    t.jcu = { u.jcu with
      routeLamp := t.jcu.routeLamp
      contexts := u.jcu.contexts.map fun y =>
        if y.junction = x.junction then
          { y with direction := some d, source := some .manual, wasSet := false, state := .requesting
                   attempt := 1, retry := some 200 }
        else y } ∧
    t.llu = { u.llu with queue := t.llu.queue } ∧
    ((∃ y ∈ u.llu.queue, y.junction = x.junction) →
      t.llu.queue = u.llu.queue.map fun y =>
        if y.junction = x.junction then { junction := x.junction, direction := d, attempt := 1 } else y) ∧
    ((∀ y ∈ u.llu.queue, y.junction ≠ x.junction) →
      t.llu.queue = if u.llu.queue.length < 8 then
          u.llu.queue ++ [{ junction := x.junction, direction := d, attempt := 1 }]
        else u.llu.queue))

/-! ### The answer to a command -/

/-- The head of the Local Dispatch Queue is the CONTROL frame `f` from the manager, in buffer `b`, and no
reset is pending (R170, R178). -/
def State.Commanded (s : State) (b : Nat) (f : Frame) : Prop :=
  s.headOfKind kindControl = some (b, f) ∧ s.mgu.pendingReset = none ∧ addrOf f.src = s.mgu.manager

/-- What follows the action of a command: it is counted, its REPLY is sent to the sender with the
command's seq and code, and the reference on its frame is released (R52, R170, R183). -/
def State.answered (s : State) (b : Nat) (f : Frame) (a : Answer) : State :=
  ((s.onMgu fun u => u.tally a).sendOwn 3 (ownFrame s.own f.src 0x71 3 f.seq
    (f.payload.take 1 ++ oct1 a.status ++ oct1 a.reason ++ oct2 a.figure ++ a.data))).consumed b

/-- The rows of the table that take a CONTROL frame. -/
def controlRows : List Instr :=
  [.unknownCommand, .readTable, .writeNode, .writeClass, .writeTagMap, .writeWeights, .writePortConfig,
   .writeQueueMap, .writeRoute, .writeProfile, .writePattern, .writeTone, .writeSoundMap,
   .writeAttributeConfig, .commitRoute, .commitProfile, .readState, .readLog, .clearLatches, .clearLog,
   .clearAttributes, .clearCounters, .setNormal, .setLocalLoopback, .setRemoteLoopback, .setDisabled,
   .sendLoopup, .sendLoopdown, .stopLoopcode, .setManager, .setReport, .preselect, .resetPart]

/-! ### The other laws -/

/-- The law of the attributes: every normalised value lies in 1..100, the worst no higher than the
present one (R160), and the FAULT lamp is lit exactly while LOOP_LINK or SPEED_SOURCE is tripped (R164). -/
def Cmn.AttributeLaw (c : Cmn) : Prop :=
  (∀ x ∈ c.attrs.data, 1 ≤ x.worst ∧ x.worst ≤ x.n ∧ x.n ≤ 100) ∧
    (c.faultLamp = true ↔ c.tripped .loopLink = true ∨ c.tripped .speedSource = true)

/-- The law of the log (R166): at most 32 entries are held, never more than were appended, none exactly
while the pointer is 0, and the places that the held entries stand in are filled. -/
def Cmn.LogLaw (c : Cmn) : Prop :=
  c.log.held ≤ 32 ∧ c.log.held ≤ c.log.total ∧ c.log.total ≤ 65535 ∧ c.log.pointer ≤ 32 ∧
    (c.log.pointer = 0 ↔ c.log.held = 0) ∧ ∀ k, k < c.log.held → (c.log.back k).isSome = true

/-- The law of the list: at most 8 contexts, and never two with the same junction (R123). -/
def Jcu.ListLaw (u : Jcu) : Prop :=
  u.contexts.length ≤ 8 ∧ (u.contexts.map fun x => x.junction).Nodup

/-- The law of the record: REQUESTED only while the role is ACTIVE, and the STOP lamp lit exactly while
REQUESTED (R141). -/
def State.StopLaw (s : State) : Prop :=
  (s.sru.record.state = .requested → s.cru.role = .active) ∧
    (s.sru.lamp = true ↔ s.sru.record.state = .requested)

/-- The Cab Table holds at most 4 entries, in ascending order of address, with no address twice
(section 4.3). -/
def Cru.TableLaw (u : Cru) : Prop :=
  u.cabs.length ≤ 4 ∧ (u.cabs.map fun e => e.cab.toNat).Pairwise (· < ·)

/-- The traction state is OFF exactly while the role is neither ACTIVE nor CONFLICT (R89). -/
def State.TractionLaw (s : State) : Prop :=
  s.tdu.state = .off ↔ (s.cru.role ≠ .active ∧ s.cru.role ≠ .conflict)

end Sys2Proof.Machine
end

