-- ==== Sys2Proof/Certificates/Slice0/Obligations.lean ====
section
/-! DEFINITION. The statements for the provers. A docstring names the rules of spec/ a statement
formalises, or the log entry of a choice of the model that it rests on. An equation with an updated
state says the whole frame: what the update does not name stays as it was. -/

open Sys2Proof Sys2Proof.Machine

/-! ### The queue of commands -/

/-- A step with a command at the front of the queue is that command on the state with the rest. -/
def Obligations.StepTakesTheFrontCommand : Prop :=
  ∀ (c : Instr) (rest : List Instr) (s : State),
    step { s with pending := c :: rest } = exec c { s with pending := rest }

/-- The model's own choice (log entries 2, 3, 24, 38, 39 and 47): a step on an empty queue passes one bit
time of 1 µs. What is found in it waits to be taken, port A's first, then port B's and the loop's, then, as the
thousandth bit time ends a millisecond, the sample of the handle and every other command whose time has come.
It moves of each port what it hears, its persistence timer, its line and the place in its output; of the loop
link its line, pin, filter, front and the measure of LOOP_TXEN; of each player its wave; and the count of the
millisecond. All else stays before the thousandth. At it part time advances by one modulo 2^32 (R165), the
inputs and the handle are read, every running countdown loses one, its expiry waiting to be taken where it
comes to 0, the time elapsed of a playing source and the in-range time grow by one, and all else stays. -/
def Obligations.EmptyQueuePassesABitTime : Prop :=
  ∀ s : State, s.pending = [] →
    ∃ t, step s = .next t ∧
      t.pending = s.portEvents .A ++ s.portEvents .B ++ s.loopEvents ++
        (if s.cmn.micros + 1 < 1000 then [] else t.due) ∧
      t = { s with
        ports := t.ports, fsw := t.fsw, cru := t.cru, ciu := t.ciu, tdu := t.tdu, llu := t.llu, jcu := t.jcu
        sru := t.sru, snu := t.snu, cmn := t.cmn, mgu := t.mgu, pending := t.pending } ∧
      (∀ p, t.port p = { s.port p with
        front := (t.port p).front, persistence := (t.port p).persistence, line := (s.port p).line.tail
        joined := (t.port p).joined, pos := (t.port p).pos }) ∧
      t.llu = { s.llu with
        line := t.llu.line, cdPin := t.llu.cdPin, filter := t.llu.filter, front := t.llu.front
        txHeld := t.llu.txHeld } ∧
      (s.cmn.micros < 999 →
        t.cmn = { s.cmn with micros := s.cmn.micros + 1 } ∧ t.cru = s.cru ∧ t.tdu = s.tdu ∧
        t.sru = s.sru ∧ t.mgu = s.mgu ∧ t.fsw = s.fsw ∧ t.jcu = s.jcu ∧ t.ciu = s.ciu ∧
        t.snu = { s.snu with
          exterior := { s.snu.exterior with wave := t.snu.exterior.wave }
          interior := { s.snu.interior with wave := t.snu.interior.wave } }) ∧
      (∀ lose : Option Nat → Option Nat, (∀ x, lose x = x.map fun n => n - 1) → 999 ≤ s.cmn.micros →
        t.cmn = { s.cmn with
          micros := 0, partTime := s.cmn.partTime + 1
          attrs := s.cmn.attrs.map fun x => { x with recovery := lose x.recovery } } ∧
        t.fsw = { s.fsw with
          nodes := s.fsw.nodes.map fun e =>
            { e with learned := e.learned.map fun l => { l with left := l.left - 1 } }
          stats := s.fsw.stats.map fun x => { x with hold := lose x.hold } } ∧
        t.cru = { s.cru with
          cabs := s.cru.cabs.map fun e => { e with left := e.left - 1 }
          announceTimer := lose s.cru.announceTimer, claimWindow := lose s.cru.claimWindow
          clearTimer := lose s.cru.clearTimer, releasingTimer := lose s.cru.releasingTimer
          flashTimer := lose s.cru.flashTimer } ∧
        t.ciu = { s.ciu with
          inputs := t.ciu.inputs, ahead := t.ciu.ahead, wiper := t.ciu.wiper
          wiperAhead := t.ciu.wiperAhead, inRange := s.ciu.inRange.map fun n => n + 1 } ∧
        t.tdu = { s.tdu with periodTimer := lose s.tdu.periodTimer, grace := lose s.tdu.grace } ∧
        t.jcu = { s.jcu with
          contexts := s.jcu.contexts.map fun x => { x with retry := lose x.retry } } ∧
        t.sru = { s.sru with
          inhibitTimer := lose s.sru.inhibitTimer, refreshTimer := lose s.sru.refreshTimer } ∧
        t.snu = { s.snu with
          exterior := { s.snu.exterior with
            wave := t.snu.exterior.wave
            elapsed := s.snu.exterior.elapsed + if s.snu.exterior.playing.isSome then 1 else 0 }
          interior := { s.snu.interior with
            wave := t.snu.interior.wave
            elapsed := s.snu.interior.elapsed + if s.snu.interior.playing.isSome then 1 else 0 } } ∧
        t.mgu = { s.mgu with reportTimer := lose s.mgu.reportTimer } ∧
        (s.cru.announceTimer = some 1 → .announceTimerExpiry ∈ t.pending) ∧
        (s.cru.claimWindow = some 1 → .claimWindowExpiry ∈ t.pending) ∧
        (s.tdu.periodTimer = some 1 → .demandPeriod ∈ t.pending) ∧
        (s.tdu.grace = some 1 → .graceTimerExpiry ∈ t.pending) ∧
        (s.sru.refreshTimer = some 1 → .refreshTimerExpiry ∈ t.pending) ∧
        (s.mgu.reportTimer = some 1 → .reportTimerExpiry ∈ t.pending))

/-- The model's own choice (log entry 26): every command answers a next state in every state. It keeps the
commands that wait, and only a power-on reset reads the address straps anew (section 0.2, R40). -/
def Obligations.EveryCommandCompletes : Prop :=
  ∀ (c : Instr) (s : State), ∃ t, exec c s = .next t ∧ t.pending = s.pending ∧
    ((∀ straps, c ≠ .powerOnReset straps) → t.own = s.own)

/-! ### Reset -/

/-- What a power-on reset leaves, unit by unit, over whatever stood before it: every item of the reset tables
of R20, R40, R57, R72, R88, R105, R119, R140, R149, R159, R169 and R180, with the tables at the values of
R26, R44, R45, R93, R120, R150 to R152 and R161, and the pins as they are. That a player with no playing
source has step number 0 and no time elapsed is log entry 48. -/
def Obligations.PowerOnResetRestoresEveryUnit : Prop :=
  ∀ (straps : Addr) (s : State), ∃ t, exec (.powerOnReset straps) s = .next t ∧ t.own = straps ∧
    (∀ p, (t.port p).rx = .down ∧ (t.port p).tx = .fill ∧ (t.port p).mode = .normal ∧
      (t.port p).loopCode = .none ∧ (t.port p).persistence = none ∧ (t.port p).fill = .none ∧
      (t.port p).latches =
        { check := false, length := false, syncLoss := false, downSeen := false, overrun := false } ∧
      (t.port p).good = 0 ∧ (t.port p).discarded = 0 ∧
      (t.port p).sent = 0 ∧ (t.port p).returnList = []) ∧
    ((∀ a : Addr, t.fsw.node a = { role := .any, priority := none, learned := none }) ∧
      (∀ k, k < 256 → t.fsw.classes.get k (ClassEntry.plain .drop .drop) =
        { active := if k = 0x10 ∨ k = 0x21 then .snoop else if k = 0x30 then .absorb else .forward
          passive := if k = 0x10 then .snoop else .forward, priority := none, maxPayload := 240 }) ∧
      (∀ i, i < 8 → t.fsw.tagMap.get i 0 = i) ∧ t.fsw.weights.data = [1, 0, 0, 0] ∧
      ∀ p, t.fsw.stats.get p =
        { malformed := 0, ownSource := 0, refused := 0, filtered := 0, hold := none }) ∧
    (t.bqm.freeCount = 96 ∧ t.bqm.ldq = [] ∧ t.bqm.localDrops = 0 ∧ t.bqm.ownFailures = 0 ∧
      (∀ p, ∀ n, n < 4 → (t.bqm.egress.get p).queue n = { entries := [], drops := 0, deficit := 0 }) ∧
      (∀ p, (t.bqm.egress.get p).pointer = none ∧ (t.bqm.egress.get p).config.queueCount = 4 ∧
        (t.bqm.egress.get p).config.defaultPriority = 0 ∧
        (t.bqm.egress.get p).config.autoloop = false ∧
        (t.bqm.egress.get p).config.queues.data =
          [{ type := .weighted, weight := 1, depth := 32 }, { type := .weighted, weight := 3, depth := 32 },
           { type := .strict, weight := 1, depth := 32 }, { type := .strict, weight := 1, depth := 32 }]) ∧
      (t.bqm.maps.data.map fun m => m.data) =
        [[0, 0, 0, 0, 0, 0, 0, 0], [0, 0, 0, 0, 1, 1, 1, 1], [0, 0, 0, 1, 1, 1, 2, 2],
         [0, 0, 1, 1, 2, 2, 3, 3]] ∧
      t.bqm.slot = Both.same .notQueued ∧ t.bqm.resetReply = none) ∧
    (t.cru.role = .inactive ∧ t.cru.releasing = false ∧ t.cru.cabs = [] ∧
      t.cru.announceTimer = none ∧ t.cru.claimWindow = none ∧ t.cru.clearTimer = none ∧
      t.cru.releasingTimer = none ∧ t.cru.pendingKeyOn = false ∧ t.cru.tableFull = false ∧
      t.cru.seq = 0 ∧ t.cru.rejected = 0 ∧ t.cru.lamp = false ∧ t.cru.flashTimer = none) ∧
    (t.ciu.window = [] ∧ t.ciu.handle = none ∧ t.ciu.fault = false ∧ t.ciu.inRange = none ∧
      t.ciu.ahead = s.ciu.ahead ∧ t.ciu.wiper = s.ciu.wiper ∧ t.ciu.wiperAhead = s.ciu.wiperAhead ∧
      ∀ i, t.ciu.input i = { pin := (s.ciu.input i).pin, level := false, stability := none }) ∧
    (t.tdu.state = .off ∧ t.tdu.d = 0 ∧ t.tdu.r = 0 ∧ t.tdu.f = 1000 ∧ t.tdu.slip = false ∧
      t.tdu.seq = 0 ∧ t.tdu.periodTimer = none ∧
      t.tdu.record = { dh := 0, dt := 0, c := 0
                       flags := { emergency := false, hold := false, blind := false, sand := false } } ∧
      t.tdu.periodD = 0 ∧ t.tdu.grace = none ∧ (∀ n, t.tdu.slots.get n none = none) ∧
      t.tdu.inverterOverflow = false ∧ t.tdu.rejected = 0 ∧ t.tdu.facts = { v := none, s := none } ∧
      t.tdu.movingTime = 0 ∧ t.tdu.odometer = 0 ∧ t.tdu.carry = 0 ∧ t.tdu.live = none ∧
      t.tdu.shadow.fields =
        [120, 470, 550, 900, 700, 30, 20, -300, -400, 150, 30, 5, 15, 100, 5, 15, 32, 8, 1]) ∧
    (t.llu.cdPin = s.llu.cdPin ∧ t.llu.carrier = false ∧ t.llu.filter = none ∧ t.llu.rx = .idle ∧
      t.llu.txen = false ∧ t.llu.sending = none ∧ t.llu.queue = [] ∧ t.llu.test = none ∧
      t.llu.lastTest = none ∧ t.llu.good = 0 ∧ t.llu.checkErrors = 0 ∧ t.llu.lengthErrors = 0 ∧
      t.llu.rejected = 0 ∧ t.llu.carrierDiscards = 0 ∧ t.llu.sent = 0 ∧ t.llu.cutOff = 0) ∧
    (t.jcu.contexts = [] ∧ t.jcu.live = none ∧ t.jcu.overflow = false ∧ t.jcu.preselection = none ∧
      t.jcu.lastIdent = none ∧ t.jcu.unmatched = 0 ∧ t.jcu.routeLamp = false ∧
      t.jcu.shadowHeader =
        { run := 1, line := 0, unconfirmed := 100, straightCap := 250, divergingCap := 150
          junctionLength := 30, count := 0 } ∧
      ∀ e ∈ t.jcu.shadow.data,
        e = { junction := 1, direction := .straight, straightCap := none, divergingCap := none
              junctionLength := none }) ∧
    (t.sru.record = { state := .idle, doors := 0, accessible := false, firstPress := none, presses := 0 } ∧
      t.sru.inhibitTimer = none ∧ t.sru.refreshTimer = none ∧ t.sru.lamp = false ∧ t.sru.seq = 0 ∧
      t.sru.rejected = 0) ∧
    (t.snu.tones.data = [392, 523, 659, 784, 880, 1046, 1318, 2000] ∧
      t.snu.map.data = [1, 2, 3, 4, 5, 7, 6] ∧
      (t.snu.patterns.data.map fun l => l.map fun y => (y.tone, y.duration)) =
        [[], [(some 0, 100)], [(some 7, 25), (some 4, 25)],
         [(some 6, 8), (none, 12), (some 6, 8), (none, 40)], [(some 3, 15), (none, 85)],
         [(some 5, 10), (none, 10), (some 5, 10), (none, 70)], [(some 2, 30), (some 1, 50)],
         [(some 1, 30), (some 2, 30), (some 3, 60)], [], [], [], [], [], [], [], []] ∧
      (∀ x, t.snu.requested x = false) ∧ t.snu.alertRole = false ∧ t.snu.alertJunction = false ∧
      (∀ c, t.snu.player c = { playing := none, step := 0, elapsed := 0, wave := none }) ∧
      t.snu.discarded = 0) ∧
    (t.cmn.log.held = 0 ∧ t.cmn.log.total = 0 ∧ t.cmn.log.pointer = 0 ∧ t.cmn.partTime = 0 ∧
      t.cmn.faultLamp = false ∧
      (∀ a, t.cmn.attr a = { n := 100, worst := 100, raw := 0, tripped := false, recovery := none }) ∧
      (t.cmn.config.data.map fun g => (g.threshold, g.penalty, g.interval, g.testLimit)) =
        [(0, 5, 10, 4), (0, 5, 10, 4), (0, 5, 10, 4), (40, 20, 60, 4), (0, 5, 30, 4), (40, 20, 60, 4),
         (0, 10, 30, 4), (0, 10, 60, 4)]) ∧
    (t.mgu.manager = 1 ∧ t.mgu.interval = 500 ∧
      t.mgu.reportTimer = (if straps = 63 then none else some 500) ∧ t.mgu.reportSeq = 0 ∧
      t.mgu.pendingReset = none ∧ t.mgu.executed = 0 ∧ t.mgu.refused = 0)

/-! ### Receiving -/

/-- FRAME_START in HUNT while more than 8 buffers are free: the receiver enters FRAME with a buffer that was
free and now has one reference, and the free count falls by one (R6, R42). A frame that finds at most 8 free
buffers is skipped: OVERRUN and a BUFFER event at its start, and at its end the receiver in HUNT and one
discarded frame (R7, R8). In LOCAL_LOOPBACK each of these is what the looped stream has just brought about, and
one that it has not changes nothing (R15). A receiver in HUNT that has heard all of the start pair but its last
bit, and hears it, finds the start of a frame (R1, R2, R5; log entry 24). That the frame counts as discarded at
its end is log entry 46, that HUNT begins with an empty search window log entry 45. -/
def Obligations.FramesStartWithABufferOrAreSkipped : Prop :=
  (∀ (p : Port) (s : State), (s.port p).rx = .hunt → (s.port p).Heard (.frameStart p) →
    8 < s.bqm.freeCount →
    ∃ b t, b < 96 ∧ (s.bqm.buffer b).refs = 0 ∧ exec (.frameStart p) s = .next t ∧
      t = { s with
        ports := s.ports.modify p fun u =>
          { u with rx := .frame (some b), persistence := none, front := u.front.restart }
        bqm := { s.bqm with
          pool := s.bqm.pool.set b { frame := (s.bqm.buffer b).frame, refs := 1 } } } ∧
      t.bqm.freeCount + 1 = s.bqm.freeCount) ∧
  (∀ (p : Port) (s : State), (s.port p).rx = .hunt → (s.port p).Heard (.frameStart p) →
    s.bqm.freeCount ≤ 8 →
    exec (.frameStart p) s = .next { s with
      ports := s.ports.modify p fun u =>
        { u with rx := .frame none, persistence := none, front := u.front.restart
                 latches := { u.latches with overrun := true } }
      cmn := s.cmn.count .buffer }) ∧
  (∀ (p : Port) (s : State), (s.port p).rx = .frame none → (s.port p).Heard (.skippedFrameEnd p) →
    exec (.skippedFrameEnd p) s = .next { s with
      ports := s.ports.modify p fun u =>
        { u with rx := .hunt, persistence := none, front := u.front.restart
                 discarded := bump u.discarded } }) ∧
  (∀ (p : Port) (c : Instr) (s : State), (s.port p).mode = .localLoopback →
    (s.port p).front.found ≠ some c →
    (c = .frameStart p ∨ c = .skippedFrameEnd p ∨ c = .lengthError p ∨ c = .syncLoss p ∨
      ∃ f, c = .frameEnd p f) →
    exec c s = .next s) ∧
  (∀ (p : Port) (s : State), s.pending = [] → (s.port p).rx = .hunt →
    ((s.port p).mode = .normal ∨ (s.port p).mode = .remoteLoopback) →
    (s.port p).front.bits = (lineBits [0xC7, 0x1E]).take 15 →
    (s.port p).line.head? = some (false, true) →
    ∃ t, step s = .next t ∧ .frameStart p ∈ t.pending)

/-- The line errors LENGTH, SYNC_LOSS and CHECK: the receiver in HUNT, the latch set, one discarded
frame, one event on the port's line attribute, and the receiver's reference released (R7, R8). In
LOCAL_LOOPBACK they are what the looped stream has just brought about (R15). A bit time without a
transition at its middle, heard in FRAME, is found as SYNC_LOSS (R1, R7; log entry 24). A skip that ends so
counts here alone (log entry 46), and after CHECK the search window is empty (log entry 45). -/
def Obligations.LineErrorsDiscardTheFrame : Prop :=
  (∀ (p : Port) (s : State), (s.port p).inFrame = true → (s.port p).Heard (.lengthError p) →
    exec (.lengthError p) s = .next { s with
      ports := s.ports.modify p fun u =>
        { u with rx := .hunt, persistence := none, front := u.front.restart, discarded := bump u.discarded
                 latches := { u.latches with length := true } }
      bqm := s.bqm.letGo (s.port p).receiving
      cmn := s.cmn.count (lineAttr p) }) ∧
  (∀ (p : Port) (s : State), (s.port p).inFrame = true → (s.port p).Heard (.syncLoss p) →
    exec (.syncLoss p) s = .next { s with
      ports := s.ports.modify p fun u =>
        { u with rx := .hunt, persistence := none, front := u.front.restart, discarded := bump u.discarded
                 latches := { u.latches with syncLoss := true } }
      bqm := s.bqm.letGo (s.port p).receiving
      cmn := s.cmn.count (lineAttr p) }) ∧
  (∀ (p : Port) (f : Frame) (s : State) (b : Nat), (s.port p).rx = .frame (some b) →
    (s.port p).Heard (.frameEnd p f) → f.payload.length ≤ 240 → f.check ≠ frameCheck f →
    exec (.frameEnd p f) s = .next { s with
      ports := s.ports.modify p fun u =>
        { u with rx := .hunt, persistence := none, front := u.front.restart, discarded := bump u.discarded
                 latches := { u.latches with check := true } }
      bqm := (s.bqm.write b f).release b
      cmn := s.cmn.count (lineAttr p) }) ∧
  (∀ (p : Port) (s : State) (h : Bool), s.pending = [] → (s.port p).inFrame = true →
    (s.port p).front.silent < 999 →
    ((s.port p).mode = .normal ∨ (s.port p).mode = .remoteLoopback) →
    (s.port p).line.head? = some (h, h) →
    ∃ t, step s = .next t ∧ .syncLoss p ∈ t.pending)

/-- A good frame that carries the own address as its source, received in NORMAL, is dropped: the
own-source counter, and outside a loop-report hold LOOP_DETECTED with the own address and the port and a
hold of 10 s; in a hold nothing more is logged (R6, R29, R30). In LOCAL_LOOPBACK it is discarded as the
part's own frame returning, counted as good alone (R10, R15). The other drops of R29: a source of 63 and,
once its side is learned, a payload above the class's limit are malformed, and a source of role NONE is
refused (R22, R29, R30). After the frame the search window is empty (log entry 45). -/
def Obligations.OwnSourceFramesAreDropped : Prop :=
  (∀ (p : Port) (f : Frame) (s : State) (b : Nat), (s.port p).rx = .frame (some b) →
    (s.port p).mode = .normal → f.payload.length ≤ 240 → f.check = frameCheck f →
    addrOf f.src = s.own → s.own ≠ broadcast →
    ((s.fsw.stats.get p).hold = none →
      exec (.frameEnd p f) s = .next { s with
        ports := s.ports.modify p fun u =>
          { u with rx := .hunt, persistence := none, front := u.front.restart, good := bump u.good }
        fsw := { s.fsw with
          stats := s.fsw.stats.modify p fun x =>
            { x with ownSource := bump x.ownSource, hold := some 10000 } }
        bqm := (s.bqm.write b f).release b
        cmn := s.cmn.note
          { kind := .loopDetected, block := .fsw, node := some s.own, port := some p } }) ∧
    (∀ n, (s.fsw.stats.get p).hold = some n →
      exec (.frameEnd p f) s = .next { s with
        ports := s.ports.modify p fun u =>
          { u with rx := .hunt, persistence := none, front := u.front.restart, good := bump u.good }
        fsw := { s.fsw with
          stats := s.fsw.stats.modify p fun x => { x with ownSource := bump x.ownSource } }
        bqm := (s.bqm.write b f).release b })) ∧
  (∀ (p : Port) (f : Frame) (s : State) (b : Nat), (s.port p).rx = .frame (some b) →
    (s.port p).mode = .localLoopback → (s.port p).front.found = some (.frameEnd p f) →
    f.payload.length ≤ 240 → f.check = frameCheck f → addrOf f.src = s.own →
    exec (.frameEnd p f) s = .next { s with
      ports := s.ports.modify p fun u =>
        { u with rx := .hunt, persistence := none, front := u.front.restart, good := bump u.good }
      bqm := (s.bqm.write b f).release b }) ∧
  (∀ (p : Port) (f : Frame) (s t : State) (b : Nat), (s.port p).rx = .frame (some b) →
    (s.port p).mode = .normal → f.payload.length ≤ 240 → f.check = frameCheck f →
    t = { s with
      ports := s.ports.modify p fun u =>
        { u with rx := .hunt, persistence := none, front := u.front.restart, good := bump u.good }
      bqm := (s.bqm.write b f).release b } →
    (addrOf f.src = broadcast →
      exec (.frameEnd p f) s = .next { t with
        fsw := { s.fsw with
          stats := s.fsw.stats.modify p fun x => { x with malformed := bump x.malformed } } }) ∧
    (addrOf f.src ≠ broadcast → addrOf f.src ≠ s.own → (s.fsw.node (addrOf f.src)).role = .none →
      exec (.frameEnd p f) s = .next { t with
        fsw := { s.fsw with
          stats := s.fsw.stats.modify p fun x => { x with refused := bump x.refused } } }) ∧
    (addrOf f.src ≠ broadcast → addrOf f.src ≠ s.own → (s.fsw.node (addrOf f.src)).role ≠ .none →
      (s.own = broadcast ∨ addrOf f.dest ≠ s.own) →
      (s.fsw.class f.kind).maxPayload < f.payload.length →
      exec (.frameEnd p f) s = .next { t with
        fsw := { s.fsw.learn (addrOf f.src) p with
          stats := s.fsw.stats.modify p fun x => { x with malformed := bump x.malformed } } }))

/-- A good frame that is forwarded, received in NORMAL or looped back with another source in
LOCAL_LOOPBACK: its source is learned on its port, and the frame waits at the tail of the other port's
queue for its internal priority, in the same buffer, with its hop one lower, its tag and every other field
as received, and a fresh check; under SNOOP a local copy that a consumer accepts joins the Local Dispatch
Queue beside it, under FORWARD none (R6, R15, R22, R29, R31, R32, R33, R46, R51). Under ABSORB the accepted
copy alone is delivered, the frame as received; a frame with no destination is filtered (R29, R30). The last
clause says it of every frame that passes the screen and is not addressed to this part, with the local copy L
(ABSORB or SNOOP, accepted by a consumer) and the forwarded copy G (FORWARD or SNOOP, hop not 0, no known
destination on the receiving side, the other port open and its receiver up) each made or withheld: a copy for
which the Local Dispatch Queue has no room is dropped with the local-drop counter and a BUFFER event, one for
which the egress queue has none on that queue's drop counter with a BUFFER event, neither touching the other
copy, and the frame that gets neither is filtered (R29, R31, R32, R33, R46, R51). After the frame the search
window is empty (log entry 45). -/
def Obligations.ForwardedFramesLoseOneHop : Prop :=
  (∀ (p : Port) (f : Frame) (s : State) (b : Nat) (snoop : Bool), (s.port p).rx = .frame (some b) →
    b < 96 → ((s.port p).mode = .normal ∨
      ((s.port p).mode = .localLoopback ∧ (s.port p).front.found = some (.frameEnd p f))) →
    f.payload.length ≤ 240 →
    f.check = frameCheck f → addrOf f.src ≠ broadcast → addrOf f.src ≠ s.own →
    (s.fsw.node (addrOf f.src)).role ≠ .none → (s.own = broadcast ∨ addrOf f.dest ≠ s.own) →
    f.payload.length ≤ (s.fsw.class f.kind).maxPayload →
    (s.fsw.class f.kind).action s.cru.role = (if snoop then .snoop else .forward) →
    (snoop = true → s.own ≠ broadcast ∧ f.kind ≠ kindControl ∧ s.bqm.ldq.length < 16 ∧
      ∃ r, consumerRole f.kind = some r ∧
        ((s.fsw.node (addrOf f.src)).role = r ∨ (s.fsw.node (addrOf f.src)).role = .any)) →
    frameHop f ≠ 0 →
    (addrOf f.dest = broadcast ∨
      (addrOf f.dest ≠ addrOf f.src ∧ s.fsw.side (addrOf f.dest) ≠ some p)) →
    (s.port p.other).mode.closed = false → (s.port p.other).rx ≠ .down →
    s.offerOutcome p.other (s.internalPriority p f) = .queued →
    s.bqm.queueFor p.other (s.internalPriority p f) < 4 →
    ∃ t, exec (.frameEnd p f) s = .next t ∧
      t = { s with ports := t.ports, fsw := t.fsw, bqm := t.bqm } ∧
      (t.port p).rx = .hunt ∧ (t.port p).good = bump (s.port p).good ∧
      t.port p.other = s.port p.other ∧
      t.fsw = s.fsw.learn (addrOf f.src) p ∧ t.fsw.side (addrOf f.src) = some p ∧
      (t.bqm.buffer b).refs = (s.bqm.buffer b).refs + (if snoop then 1 else 0) ∧
      (t.bqm.buffer b).frame = { f with
        tagHop := f.tagHop - 1, check := frameCheck { f with tagHop := f.tagHop - 1 } } ∧
      frameHop (t.bqm.buffer b).frame = frameHop f - 1 ∧
      frameTag (t.bqm.buffer b).frame = frameTag f ∧
      (∀ c, c ≠ b → t.bqm.buffer c = s.bqm.buffer c) ∧
      t.bqm.egress.get p = s.bqm.egress.get p ∧
      ((t.bqm.egress.get p.other).queue (s.bqm.queueFor p.other (s.internalPriority p f))).entries =
        ((s.bqm.egress.get p.other).queue
          (s.bqm.queueFor p.other (s.internalPriority p f))).entries ++ [b] ∧
      t.bqm.ldq = s.bqm.ldq ++ (if snoop then [b] else [])) ∧
  (∀ (p : Port) (f : Frame) (s : State) (b : Nat), (s.port p).rx = .frame (some b) → b < 96 →
    0 < (s.bqm.buffer b).refs → (s.port p).mode = .normal → f.payload.length ≤ 240 →
    f.check = frameCheck f → addrOf f.src ≠ broadcast → addrOf f.src ≠ s.own →
    (s.fsw.node (addrOf f.src)).role ≠ .none → (s.own = broadcast ∨ addrOf f.dest ≠ s.own) →
    f.payload.length ≤ (s.fsw.class f.kind).maxPayload →
    (∀ r, (s.fsw.class f.kind).action s.cru.role = .absorb → consumerRole f.kind = some r →
      ((s.fsw.node (addrOf f.src)).role = r ∨ (s.fsw.node (addrOf f.src)).role = .any) →
      s.own ≠ broadcast → f.kind ≠ kindControl → s.bqm.ldq.length < 16 →
      exec (.frameEnd p f) s = .next { s with
        ports := s.ports.modify p fun u =>
          { u with rx := .hunt, persistence := none, front := u.front.restart, good := bump u.good }
        fsw := s.fsw.learn (addrOf f.src) p
        bqm := { s.bqm.write b f with ldq := s.bqm.ldq ++ [b] } }) ∧
    (((s.fsw.class f.kind).action s.cru.role = .drop ∨
        ((s.fsw.class f.kind).action s.cru.role = .forward ∧ frameHop f = 0)) →
      exec (.frameEnd p f) s = .next { s with
        ports := s.ports.modify p fun u =>
          { u with rx := .hunt, persistence := none, front := u.front.restart, good := bump u.good }
        fsw := { s.fsw.learn (addrOf f.src) p with
          stats := s.fsw.stats.modify p fun x => { x with filtered := bump x.filtered } }
        bqm := (s.bqm.write b f).release b })) ∧
  (∀ (p : Port) (f : Frame) (s : State) (b q : Nat) (L G : Bool), (s.port p).rx = .frame (some b) → b < 96 →
    0 < (s.bqm.buffer b).refs → ((s.port p).mode = .normal ∨
      ((s.port p).mode = .localLoopback ∧ (s.port p).front.found = some (.frameEnd p f))) →
    f.payload.length ≤ 240 → f.check = frameCheck f → addrOf f.src ≠ broadcast → addrOf f.src ≠ s.own →
    (s.fsw.node (addrOf f.src)).role ≠ .none → (s.own = broadcast ∨ addrOf f.dest ≠ s.own) →
    f.payload.length ≤ (s.fsw.class f.kind).maxPayload →
    (L = true ↔ ((s.fsw.class f.kind).action s.cru.role = .absorb ∨
        (s.fsw.class f.kind).action s.cru.role = .snoop) ∧
      s.own ≠ broadcast ∧ f.kind ≠ kindControl ∧ ∃ r, consumerRole f.kind = some r ∧
        ((s.fsw.node (addrOf f.src)).role = r ∨ (s.fsw.node (addrOf f.src)).role = .any)) →
    (G = true ↔ ((s.fsw.class f.kind).action s.cru.role = .forward ∨
        (s.fsw.class f.kind).action s.cru.role = .snoop) ∧
      frameHop f ≠ 0 ∧ (addrOf f.dest = broadcast ∨
        (addrOf f.dest ≠ addrOf f.src ∧ s.fsw.side (addrOf f.dest) ≠ some p)) ∧
      (s.port p.other).mode.closed = false ∧ (s.port p.other).rx ≠ .down) →
    q = s.bqm.queueFor p.other (s.internalPriority p f) →
    ∃ t full queued, exec (.frameEnd p f) s = .next t ∧ full = decide (16 ≤ s.bqm.ldq.length) ∧
      queued = decide (s.offerOutcome p.other (s.internalPriority p f) = .queued) ∧
      t = { s with
        ports := s.ports.modify p fun u =>
          { u with rx := .hunt, persistence := none, front := u.front.restart, good := bump u.good }
        fsw := { s.fsw.learn (addrOf f.src) p with
          stats := if L || G then s.fsw.stats
            else s.fsw.stats.modify p fun x => { x with filtered := bump x.filtered } }
        bqm := { s.bqm with
          pool := t.bqm.pool, egress := t.bqm.egress
          ldq := if L && !full then s.bqm.ldq ++ [b] else s.bqm.ldq
          localDrops := if L && full then bump s.bqm.localDrops else s.bqm.localDrops }
        cmn := if L && full && (G && !queued) then (s.cmn.count .buffer).count .buffer
          else if (L && full) || (G && !queued) then s.cmn.count .buffer else s.cmn } ∧
      (t.bqm.buffer b).frame = (if G then
        { f with tagHop := f.tagHop - 1, check := frameCheck { f with tagHop := f.tagHop - 1 } } else f) ∧
      (t.bqm.buffer b).refs + 1 = (s.bqm.buffer b).refs + (if L && !full then 1 else 0) +
        (if G && queued then 1 else 0) ∧
      (∀ c, c ≠ b → t.bqm.buffer c = s.bqm.buffer c) ∧
      t.bqm.egress.get p = s.bqm.egress.get p ∧
      t.bqm.egress.get p.other = { s.bqm.egress.get p.other with
        queues := (t.bqm.egress.get p.other).queues } ∧
      ∀ n, n < 4 → (t.bqm.egress.get p.other).queue n =
        (if G && decide (n = q) then
          (if queued then { (s.bqm.egress.get p.other).queue n with
              entries := ((s.bqm.egress.get p.other).queue n).entries ++ [b] }
            else { (s.bqm.egress.get p.other).queue n with
              drops := bump ((s.bqm.egress.get p.other).queue n).drops })
        else (s.bqm.egress.get p.other).queue n))

/-- A good frame addressed to this part, of a kind with a consumer and from a source of that consumer's
role or ANY, joins the tail of the Local Dispatch Queue in its buffer and is not forwarded; with 16
entries waiting it is dropped with the local-drop counter and a BUFFER event. A looped frame of another
source is taken as one received on the port. One of a kind with no consumer, or from a source of another
role, gets no copy and is filtered; the class's action and maximum payload are not asked (R15, R29, R31, R33,
R51). After the frame the search window is empty (log entry 45). -/
def Obligations.FramesForThisPartAreDelivered : Prop :=
  (∀ (p : Port) (f : Frame) (s : State) (b : Nat) (r : NodeRole), (s.port p).rx = .frame (some b) →
    b < 96 → 0 < (s.bqm.buffer b).refs →
    ((s.port p).mode = .normal ∨
      ((s.port p).mode = .localLoopback ∧ (s.port p).front.found = some (.frameEnd p f))) →
    f.payload.length ≤ 240 →
    f.check = frameCheck f → addrOf f.src ≠ broadcast → addrOf f.src ≠ s.own →
    s.own ≠ broadcast → addrOf f.dest = s.own → consumerRole f.kind = some r →
    ((s.fsw.node (addrOf f.src)).role = r ∨ (s.fsw.node (addrOf f.src)).role = .any) → r ≠ .none →
    exec (.frameEnd p f) s = .next { s with
      ports := s.ports.modify p fun u =>
        { u with rx := .hunt, persistence := none, front := u.front.restart, good := bump u.good }
      fsw := s.fsw.learn (addrOf f.src) p
      bqm := if s.bqm.ldq.length < 16 then { s.bqm.write b f with ldq := s.bqm.ldq ++ [b] }
        else { (s.bqm.write b f).release b with localDrops := bump s.bqm.localDrops }
      cmn := if s.bqm.ldq.length < 16 then s.cmn else s.cmn.count .buffer }) ∧
  (∀ (p : Port) (f : Frame) (s : State) (b : Nat), (s.port p).rx = .frame (some b) →
    ((s.port p).mode = .normal ∨
      ((s.port p).mode = .localLoopback ∧ (s.port p).front.found = some (.frameEnd p f))) →
    f.payload.length ≤ 240 →
    f.check = frameCheck f → addrOf f.src ≠ broadcast → addrOf f.src ≠ s.own →
    s.own ≠ broadcast → addrOf f.dest = s.own → (s.fsw.node (addrOf f.src)).role ≠ .none →
    (∀ r, consumerRole f.kind = some r →
      (s.fsw.node (addrOf f.src)).role ≠ r ∧ (s.fsw.node (addrOf f.src)).role ≠ .any) →
    exec (.frameEnd p f) s = .next { s with
      ports := s.ports.modify p fun u =>
        { u with rx := .hunt, persistence := none, front := u.front.restart, good := bump u.good }
      fsw := { s.fsw.learn (addrOf f.src) p with
        stats := s.fsw.stats.modify p fun x => { x with filtered := bump x.filtered } }
      bqm := (s.bqm.write b f).release b })

/-- RECEIVER_DOWN in HUNT: DOWN_SEEN, every learned side that names the port forgotten and no other, and
PORT_DOWN; in FRAME also the frame lost, with its reference released, one discarded frame and one line
event after the entry, where R4 names the event first and R163 has the entry that tells of it come first.
RECEIVER_UP: HUNT and PORT_UP. The sixteenth valid bit time in a row is found as RECEIVER_UP, and the
thousandth bit time in a row without one as RECEIVER_DOWN (R1, R4, R7, R15, R163; log entry 24). That
the counts of valid bit times and of silence are 0 as DOWN is entered is log entry 34, that HUNT begins with an
empty search window log entry 45. -/
def Obligations.ReceiverDownAndUp : Prop :=
  (∀ (p : Port) (s : State), (s.port p).rx = .hunt → (s.port p).mode ≠ .localLoopback →
    exec (.receiverDown p) s = .next { s with
      ports := s.ports.modify p fun u =>
        { u with rx := .down, persistence := none, front := Front.start, latches := { u.latches with downSeen := true } }
      fsw := s.fsw.forget p
      cmn := s.cmn.note { kind := .portDown, block := portBlock p, port := some p } }) ∧
  (∀ (p : Port) (s : State), (s.port p).inFrame = true → (s.port p).mode ≠ .localLoopback →
    exec (.receiverDown p) s = .next { s with
      ports := s.ports.modify p fun u =>
        { u with rx := .down, persistence := none, front := Front.start, discarded := bump u.discarded
                 latches := { u.latches with downSeen := true } }
      fsw := s.fsw.forget p
      bqm := s.bqm.letGo (s.port p).receiving
      cmn := (s.cmn.note { kind := .portDown, block := portBlock p, port := some p }).count
        (lineAttr p) }) ∧
  (∀ (w : Fsw) (p : Port) (a : Addr),
    (w.forget p).side a = if w.side a = some p then none else w.side a) ∧
  (∀ (p : Port) (s : State), (s.port p).rx = .down → (s.port p).mode ≠ .disabled →
    (s.port p).Heard (.receiverUp p) →
    exec (.receiverUp p) s = .next { s with
      ports := s.ports.modify p fun u =>
        { u with rx := .hunt, persistence := none, front := u.front.restart }
      cmn := s.cmn.note { kind := .portUp, block := portBlock p, port := some p } }) ∧
  (∀ (p : Port) (s : State), s.pending = [] →
    ((s.port p).mode = .normal ∨ (s.port p).mode = .remoteLoopback) →
    (∀ b, (s.port p).rx = .down → (s.port p).front.valid = 15 →
      (s.port p).line.head? = some (b, !b) →
      ∃ t, step s = .next t ∧ .receiverUp p ∈ t.pending) ∧
    ((s.port p).rx ≠ .down → (s.port p).front.silent = 999 → (s.port p).line = [] →
      ∃ t, step s = .next t ∧ .receiverDown p ∈ t.pending))

/-! ### Loop codes and the timers of the Frame Switch -/

/-- AUTOLOOP_ENTER in NORMAL with the permit on, the role INACTIVE, the receiver in HUNT and a LOOPUP run
measured to 500 ms: REMOTE_LOOPBACK with an empty return list, the port's queues flushed with every frame
counted on the drop counter of its queue, a copy of the marked reply that the flush removes done at the port
(R56; where that ends the last copy the control reset follows, O55), and AUTOLOOP_ENTER logged. AUTOLOOP_EXIT
with a LOOPDOWN run measured to 500 ms: NORMAL, the return list discarded with its references, and
AUTOLOOP_EXIT logged with value 1. The pair of 16 bit times that brings a LOOPUP run to 500 ms is found as
AUTOLOOP_ENTER, and a code violation stops the measure (R1, R2, R5, R16, R18, R19; log entries 23 and 24). -/
def Obligations.AutomaticLoopback : Prop :=
  (∀ (p : Port) (s : State), (s.port p).mode = .normal → (s.bqm.egress.get p).config.autoloop = true →
    s.cru.role = .inactive → (s.port p).rx = .hunt →
    (s.mgu.pendingReset = none ∨ (s.bqm.flush p).replyDone = false) →
    (∃ r, (s.port p).persistence = some r ∧ r.code = .loopup ∧ 500000 ≤ r.micros) →
    exec (.autoloopEnter p) s = .next { s with
      ports := s.ports.modify p fun u =>
        { u with mode := .remoteLoopback, returnList := [], persistence := none }
      bqm := s.bqm.flush p
      cmn := s.cmn.note { kind := .autoloopEnter, block := portBlock p, port := some p } }) ∧
  (∀ (q : Bqm) (p : Port) (n : Nat), n < 4 →
    (((q.flush p).egress.get p).queue n).entries = [] ∧
    (((q.flush p).egress.get p).queue n).drops =
      min (((q.egress.get p).queue n).drops + ((q.egress.get p).queue n).entries.length) 4294967295 ∧
    (q.flush p).egress.get p.other = q.egress.get p.other) ∧
  (∀ (q : Bqm) (p : Port) (r : ResetReply), q.resetReply = some r →
    ((∃ n, n < 4 ∧ r.buffer ∈ ((q.egress.get p).queue n).entries) →
      (q.flush p).resetReply = some { r with undone := r.undone.set p false } ∧
      (q.flush p).replyDone = !r.undone.get p.other) ∧
    ((∀ n, n < 4 → r.buffer ∉ ((q.egress.get p).queue n).entries) →
      (q.flush p).resetReply = some r)) ∧
  (∀ (p : Port) (s : State), (s.port p).mode = .remoteLoopback → (s.port p).rx = .hunt →
    (∃ r, (s.port p).persistence = some r ∧ r.code = .loopdown ∧ 500000 ≤ r.micros) →
    exec (.autoloopExit p) s = .next { s with
      ports := s.ports.modify p fun u =>
        { u with mode := .normal, returnList := [], persistence := none }
      bqm := s.bqm.releaseAll (s.port p).returnList
      cmn := s.cmn.note
        { kind := .autoloopExit, block := portBlock p, port := some p, value := some 1 } }) ∧
  (∀ (p : Port) (s : State), s.pending = [] → (s.port p).mode = .normal → (s.port p).rx = .hunt →
    (s.port p).front.silent < 999 →
    ((s.bqm.egress.get p).config.autoloop = true → s.cru.role = .inactive →
      (s.port p).front.bits = (lineBits [0xCC, 0xCC]).take 15 →
      (s.port p).persistence = some { code := .loopup, micros := 499984 } →
      (s.port p).line.head? = some (true, false) →
      ∃ t, step s = .next t ∧ .autoloopEnter p ∈ t.pending ∧
        (t.port p).persistence = some { code := .loopup, micros := 500000 }) ∧
    (∀ h, (s.port p).line.head? = some (h, h) →
      ∃ t, step s = .next t ∧ (t.port p).persistence = none ∧ (t.port p).front.run = none))

/-- LEARNING_TIMER_EXPIRY with no time left forgets the side of its node and nothing else of the Node
Table; LOOP_REPORT_HOLD_EXPIRY with no time left ends the hold of its port; with time left neither does
anything (R23, R30; log entry 2). -/
def Obligations.SwitchTimersForget : Prop :=
  (∀ (a : Addr) (x : Port) (s : State), a ≠ broadcast →
    (s.fsw.node a).learned = some { side := x, left := 0 } →
    ∃ t, exec (.learningTimerExpiry a) s = .next t ∧ t = { s with fsw := t.fsw } ∧
      t.fsw = { s.fsw with nodes := t.fsw.nodes } ∧
      t.fsw.node a = { s.fsw.node a with learned := none } ∧
      ∀ c, c ≠ a → t.fsw.node c = s.fsw.node c) ∧
  (∀ (p : Port) (s : State), (s.fsw.stats.get p).hold = some 0 →
    exec (.loopReportHoldExpiry p) s = .next { s with
      fsw := { s.fsw with stats := s.fsw.stats.modify p fun x => { x with hold := none } } }) ∧
  (∀ (a : Addr) (x : Port) (n : Nat) (s : State),
    (s.fsw.node a).learned = some { side := x, left := n + 1 } →
    exec (.learningTimerExpiry a) s = .next s) ∧
  (∀ (p : Port) (n : Nat) (s : State), (s.fsw.stats.get p).hold = some (n + 1) →
    exec (.loopReportHoldExpiry p) s = .next s)

/-! ### Sending -/

/-- FILL_PAIR_SENT on a port in NORMAL or LOCAL_LOOPBACK with nothing queued: the next fill pair follows
the loop-code setting (R11, R12). FRAME_SENT: one more sent frame, the transmitter's reference released, a
copy of a marked reply done at the port; then fill by the loop-code setting, silence in DISABLED, or the
next frame, which one fill pair precedes (R11, R12, R13, R56). In REMOTE_LOOPBACK a good frame joins the
return list unchanged, or is discarded with a BUFFER event where 4 wait, and both requests take the head of
that list (R6, R10, R11, R16). The last bit of a fill pair is found as FILL_PAIR_SENT, and a frame due after
a pair is sent behind it (R1, R2, R3, R11; log entry 24). After a
good frame the search window is empty (log entry 45). -/
def Obligations.FillAndSentFrames : Prop :=
  (∀ (p : Port) (s : State), (s.port p).tx = .fill →
    ((((s.port p).mode = .normal ∨ (s.port p).mode = .localLoopback) ∧
        ∀ n, n < 4 → ((s.bqm.egress.get p).queue n).entries = []) ∨
      ((s.port p).mode = .remoteLoopback ∧ (s.port p).returnList = [])) →
    exec (.fillPairSent p) s = .next { s with
      ports := s.ports.modify p fun u => { u with fill := u.loopCode, pos := 0, lead := false } }) ∧
  (∀ (p : Port) (s : State) (b : Nat), (s.port p).tx = .sending b → s.mgu.pendingReset = none →
    ((((s.port p).mode = .normal ∨ (s.port p).mode = .localLoopback) ∧
        ∀ n, n < 4 → ((s.bqm.egress.get p).queue n).entries = []) ∨
      ((s.port p).mode = .remoteLoopback ∧ (s.port p).returnList = [])) →
    exec (.frameSent p) s = .next { s with
      ports := s.ports.modify p fun u =>
        { u with sent := bump u.sent, tx := .fill, fill := u.loopCode, pos := 0, lead := false }
      bqm := { s.bqm.release b with
        resetReply := s.bqm.resetReply.map fun r => r.completed p b } }) ∧
  (∀ (p : Port) (s : State) (b : Nat), (s.port p).tx = .sending b → s.mgu.pendingReset = none →
    (s.port p).mode = .disabled →
    exec (.frameSent p) s = .next { s with
      ports := s.ports.modify p fun u =>
        { u with sent := bump u.sent, tx := .silent, pos := 0, lead := false }
      bqm := { s.bqm.release b with
        resetReply := s.bqm.resetReply.map fun r => r.completed p b } }) ∧
  (∀ (p : Port) (s : State) (n b c : Nat) (l : List Nat), (s.port p).tx = .sending b →
    s.mgu.pendingReset = none → (s.port p).mode = .normal → n < 4 →
    ((s.bqm.egress.get p).queueConfig n).type = .strict →
    ((s.bqm.egress.get p).queue n).entries = c :: l →
    (∀ m, n < m → m < 4 → ((s.bqm.egress.get p).queueConfig m).type = .strict →
      ((s.bqm.egress.get p).queue m).entries = []) →
    ∃ t, exec (.frameSent p) s = .next t ∧ t = { s with ports := t.ports, bqm := t.bqm } ∧
      t.ports = s.ports.modify p (fun u =>
        { u with sent := bump u.sent, tx := .sending c, fill := u.loopCode, pos := 0, lead := true }) ∧
      t.bqm = { s.bqm.release b with
        resetReply := s.bqm.resetReply.map (fun r => r.completed p b)
        egress := t.bqm.egress, slot := t.bqm.slot } ∧
      ((t.bqm.egress.get p).queue n).entries = l ∧
      (∀ m, m < 4 → m ≠ n → (t.bqm.egress.get p).queue m = (s.bqm.egress.get p).queue m)) ∧
  (∀ (p : Port) (s : State) (c : Nat) (l : List Nat), (s.port p).mode = .remoteLoopback →
    (s.port p).returnList = c :: l →
    ((s.port p).tx = .fill →
      exec (.fillPairSent p) s = .next { s with
        ports := s.ports.modify p fun u =>
          { u with tx := .sending c, returnList := l, pos := 0, lead := false } }) ∧
    (∀ b, (s.port p).tx = .sending b → s.mgu.pendingReset = none →
      exec (.frameSent p) s = .next { s with
        ports := s.ports.modify p fun u =>
          { u with sent := bump u.sent, tx := .sending c, returnList := l, fill := u.loopCode
                   pos := 0, lead := true }
        bqm := { s.bqm.release b with
          resetReply := s.bqm.resetReply.map fun r => r.completed p b } })) ∧
  (∀ (p : Port) (f : Frame) (s : State) (b : Nat), (s.port p).rx = .frame (some b) →
    (s.port p).mode = .remoteLoopback → f.payload.length ≤ 240 → f.check = frameCheck f →
    exec (.frameEnd p f) s = .next (if (s.port p).returnList.length < 4 then
      { s with
        ports := s.ports.modify p fun u =>
          { u with rx := .hunt, persistence := none, front := u.front.restart, good := bump u.good
                   returnList := u.returnList ++ [b] }
        bqm := s.bqm.write b f }
    else
      { s with
        ports := s.ports.modify p fun u =>
          { u with rx := .hunt, persistence := none, front := u.front.restart, good := bump u.good
                   discarded := bump u.discarded }
        bqm := (s.bqm.write b f).release b
        cmn := s.cmn.count .buffer })) ∧
  (∀ (p : Port) (s : State), s.pending = [] → (s.port p).tx = .fill → (s.port p).pos = 15 →
    ∃ t, step s = .next t ∧ .fillPairSent p ∈ t.pending) ∧
  (∀ (p : Port) (s : State) (b : Nat), (s.port p).tx = .sending b →
    lineOutput s p = some ((if (s.port p).lead then fillPair (s.port p).fill else []) ++
      ([0xC7, 0x1E] ++ frameBody (s.bqm.buffer b).frame ++
        oct2 (s.bqm.buffer b).frame.check.toNat)))

/-- A request of the transmitter takes the head of the highest-numbered STRICT queue that holds a frame, and
moves no deficit and no pointer (R11, R48). With no frame in a STRICT queue, the WEIGHTED queue that the
pointer names gives its head where the head's size is within its deficit, which loses that size, and is 0 where
the queue is then empty; the pointer stays. Where it does not, an empty queue that the pointer names loses its
deficit, the pointer moves to the next WEIGHTED queue in the order 3, 2, 1, 0, from none to the highest, whose
deficit is set to 0 where it is empty and rises by its weight times 32 where it holds a frame, and the request
goes on from there: the part does what it does from the state so moved, every weight at least 1 and every
waiting frame at most 250 octets long (R49). -/
def Obligations.StrictQueuesAreServedFirst : Prop :=
  (∀ (p : Port) (s : State) (e : Egress) (n b : Nat) (l : List Nat), (s.port p).tx = .fill →
    (s.port p).mode = .normal → e = s.bqm.egress.get p →
    (∀ m, m < 4 → (e.queueConfig m).type = .strict → (e.queue m).entries = []) →
    e.pointer = some n → n < 4 → (e.queueConfig n).type = .weighted → (e.queue n).entries = b :: l →
    s.bqm.sizeOf b ≤ (e.queue n).deficit →
    ∃ t, exec (.fillPairSent p) s = .next t ∧
      t = { s with ports := t.ports, bqm := t.bqm } ∧
      t.ports = s.ports.modify p (fun u => { u with tx := .sending b, pos := 0, lead := false }) ∧
      t.bqm = { s.bqm with egress := t.bqm.egress, slot := t.bqm.slot } ∧
      (t.bqm.egress.get p).queue n = { e.queue n with
        entries := l, deficit := if l = [] then 0 else (e.queue n).deficit - s.bqm.sizeOf b } ∧
      (∀ m, m < 4 → m ≠ n → (t.bqm.egress.get p).queue m = e.queue m) ∧
      (t.bqm.egress.get p).pointer = some n ∧ (t.bqm.egress.get p).config = e.config ∧
      t.bqm.egress.get p.other = s.bqm.egress.get p.other) ∧
  (∀ (p : Port) (s : State) (e u : Egress) (m : Nat), (s.port p).tx = .fill →
    (s.port p).mode = .normal → e = s.bqm.egress.get p →
    (∀ k, k < 4 → 1 ≤ (e.queueConfig k).weight) →
    (∀ k, k < 4 → ∀ b ∈ (e.queue k).entries, s.bqm.sizeOf b ≤ 250) →
    (∀ k, k < 4 → (e.queueConfig k).type = .strict → (e.queue k).entries = []) →
    (∃ k, k < 4 ∧ (e.queue k).entries ≠ []) →
    (∀ n, e.pointer = some n → n < 4 ∧ ((e.queueConfig n).type = .strict ∨
      ∀ b, (e.queue n).entries.head? = some b → (e.queue n).deficit < s.bqm.sizeOf b)) →
    m < 4 → (e.queueConfig m).type = .weighted →
    (e.pointer = none → ∀ k, m < k → k < 4 → (e.queueConfig k).type = .strict) →
    (∀ n k, e.pointer = some n → k < 4 → (e.queueConfig k).type = .weighted →
      (n + 3 - m) % 4 ≤ (n + 3 - k) % 4) →
    u = (match e.pointer with
      | none => e
      | some n =>
        if (e.queueConfig n).type = .weighted ∧ (e.queue n).entries = [] then
          e.onQueue n fun x => { x with deficit := 0 }
        else e) →
    exec (.fillPairSent p) s = exec (.fillPairSent p) (s.onBqm fun q => q.onEgress p fun _ =>
      { u.onQueue m fun x => { x with
          deficit := if x.entries = [] then 0 else x.deficit + (e.queueConfig m).weight * 32 } with
        pointer := some m })) ∧
  ∀ (p : Port) (s : State) (n b : Nat) (l : List Nat), (s.port p).tx = .fill →
    (s.port p).mode = .normal → n < 4 → ((s.bqm.egress.get p).queueConfig n).type = .strict →
    ((s.bqm.egress.get p).queue n).entries = b :: l →
    (∀ m, n < m → m < 4 → ((s.bqm.egress.get p).queueConfig m).type = .strict →
      ((s.bqm.egress.get p).queue m).entries = []) →
    ∃ t, exec (.fillPairSent p) s = .next t ∧
      t = { s with ports := t.ports, bqm := t.bqm } ∧
      t.ports = s.ports.modify p (fun u => { u with tx := .sending b, pos := 0, lead := false }) ∧
      t.bqm = { s.bqm with egress := t.bqm.egress, slot := t.bqm.slot } ∧
      ((t.bqm.egress.get p).queue n).entries = l ∧
      (∀ m, m < 4 → m ≠ n → (t.bqm.egress.get p).queue m = (s.bqm.egress.get p).queue m) ∧
      ((t.bqm.egress.get p).queue n).deficit = ((s.bqm.egress.get p).queue n).deficit ∧
      (t.bqm.egress.get p).pointer = (s.bqm.egress.get p).pointer ∧
      t.bqm.egress.get p.other = s.bqm.egress.get p.other

/-- The scheduler names a frame whenever some queue of the port holds one: with every weight at least 1
and every waiting frame at most 250 octets long, a port in NORMAL that ends a fill pair with a frame
queued starts to send one (R11, R48, R49). -/
def Obligations.SchedulerNeverIdlesOverAFrame : Prop :=
  ∀ (p : Port) (s : State), (s.port p).tx = .fill → (s.port p).mode = .normal →
    (∀ n, n < 4 → 1 ≤ ((s.bqm.egress.get p).queueConfig n).weight) →
    (∀ n, n < 4 → ∀ b ∈ ((s.bqm.egress.get p).queue n).entries, s.bqm.sizeOf b ≤ 250) →
    (∃ n, n < 4 ∧ ((s.bqm.egress.get p).queue n).entries ≠ []) →
    ∃ t b, exec (.fillPairSent p) s = .next t ∧ (t.port p).tx = .sending b ∧
      ∃ n, n < 4 ∧ ((s.bqm.egress.get p).queue n).entries.head? = some b

/-- The generation of an own frame to the broadcast address with room at both ports: one buffer, taken
free, holds the frame with one reference at the tail of each port's queue for its priority; with no
buffer free the failure is counted with a BUFFER event and nothing is queued (R43, R46, R50). That the
buffer is the free one of the lowest number (log entry 7), and that the failure counter is 32 bits wide and
saturates (log entry 44), are the model's choices. -/
def Obligations.OwnBroadcastsAreQueuedAtBothPorts : Prop :=
  (∀ (s : State) (priority b : Nat) (f : Frame), addrOf f.dest = broadcast →
    s.bqm.firstFree = some b → s.offerOutcome .A priority = .queued →
    s.offerOutcome .B priority = .queued →
    ∃ t, s.sendOwn priority f = t ∧ t = { s with bqm := t.bqm } ∧
      (s.bqm.buffer b).refs = 0 ∧ (t.bqm.buffer b).frame = f ∧ (t.bqm.buffer b).refs = 2 ∧
      (∀ c, c ≠ b → t.bqm.buffer c = s.bqm.buffer c) ∧
      ∀ p, ∀ n, n < 4 → ((t.bqm.egress.get p).queue n).entries =
        ((s.bqm.egress.get p).queue n).entries ++
          (if n = s.bqm.queueFor p priority then [b] else [])) ∧
  (∀ (s : State) (priority : Nat) (f : Frame), s.bqm.freeCount = 0 →
    s.sendOwn priority f = { s with
      bqm := { s.bqm with ownFailures := bump s.bqm.ownFailures }, cmn := s.cmn.count .buffer })

/-! ### Frames taken from the Local Dispatch Queue -/

/-- TAKE_CAB_ANNOUNCE of an announce of role r from address a that the table has an entry or a place for:
the entry is written with the part time and a fresh 500 ms timer, at its place in ascending order, and
the role follows R63 to R68 (R60). In ACTIVE an announce of ACTIVE or CONFLICT is logged as ROLE_CONFLICT with
its sender, and what ACTIVE held is closed: the contexts, the overflow flag and the preselection, the stop
record, with a STOP_INDICATE(OFF) where it was not IDLE, and listening, with a request in transmission cut off.
Not releasing, the role is CONFLICT: traction goes from RUN to HOLD with R at 0 and stays in EMERGENCY, the lamp
flashes, the role's claim of CAB_ALERT stands, and the announce of CONFLICT is sent at once, last of all.
Releasing, the role is taken by the table with traction OFF and no announce (R65, R66, R69, R90; the order is
log entry 11, the measure of LOOP_TXEN log entry 25, what the receiver has heard log entry 40). -/
def Obligations.CabAnnounceDecidesTheRole : Prop :=
  (∀ (s v : State) (b : Nat) (f : Frame) (x : Announced) (p : Profile),
    s.headOfKind kindCabAnnounce = some (b, f) → announceRole f.payload = some x → x ≠ .claiming →
    (s.cru.holdsCab (addrOf f.src) = true ∨ s.cru.cabs.length < 4) → s.cru.role = .active →
    s.tdu.live = some p →
    v = (let u := { s with
          bqm := { s.bqm with ldq := s.bqm.ldq.tail }
          cmn := s.cmn.note { kind := .roleConflict, block := .cru, node := some (addrOf f.src) } }
        if s.sru.record.state = .idle then u
        else u.sendOwn 4 (ownFrame s.own 63 0x31 4 s.sru.seq
          ([0] ++ oct2 s.sru.record.doors.toNat ++ octFlag s.sru.record.accessible))) →
    ∃ t, exec .takeCabAnnounce s = .next t ∧
      t = { s with
        bqm := t.bqm, cru := t.cru, tdu := t.tdu, llu := t.llu, jcu := t.jcu, sru := t.sru, snu := t.snu
        cmn := t.cmn } ∧
      t.jcu = { s.jcu with contexts := [], overflow := false, preselection := none, routeLamp := false } ∧
      t.sru = { s.sru with
        record := { state := .idle, doors := 0, accessible := false, firstPress := none, presses := 0 }
        inhibitTimer := none, refreshTimer := none, lamp := false
        seq := if s.sru.record.state ≠ .idle ∧ s.bqm.firstFree.isSome then s.sru.seq + 1
          else s.sru.seq } ∧
      (s.llu.carrier = false → t.llu = { s.llu with test := none }) ∧
      (s.llu.carrier = true → t.llu = { s.llu with
        rx := .idle, front := { heard := [], bits := [], octets := [] }, txen := false
        txHeld := if s.llu.txen then 0 else s.llu.txHeld
        sending := none, queue := [], test := none
        carrierDiscards :=
          if s.llu.rx = .telegram then bump s.llu.carrierDiscards else s.llu.carrierDiscards
        cutOff := if s.llu.sending.isSome then bump s.llu.cutOff else s.llu.cutOff }) ∧
      (s.cru.releasing = false →
        t.cru = { s.cru with
          role := .conflict, cabs := t.cru.cabs, releasing := false, releasingTimer := none
          announceTimer := some 100, claimWindow := none, clearTimer := none, pendingKeyOn := false
          lamp := true, flashTimer := some 500
          seq := if v.bqm.firstFree.isSome then s.cru.seq + 1 else s.cru.seq } ∧
        t.tdu = (if s.tdu.state = .run then { s.tdu with state := .hold, r := 0 } else s.tdu) ∧
        t.snu = ((s.snu.setWarning false).setAlertJunction false).setAlertRole true ∧
        ∃ u, u = v.sendOwn 6 (ownFrame s.own 63 0x10 6 s.cru.seq
            ([6] ++ octFlag (s.addressed && s.level .key) ++ octS2 p.vehicleNumber)) ∧
          t.bqm = u.bqm.release b ∧ t.cmn = u.cmn) ∧
      (s.cru.releasing = true → s.tdu.state ≠ .off →
        t.cru = { s.cru with
          role := t.cru.tableRole, cabs := t.cru.cabs, releasing := false, releasingTimer := none
          announceTimer := none, claimWindow := none, clearTimer := none, lamp := false
          flashTimer := none } ∧
        t.tdu = { s.tdu with
          state := .off, periodTimer := none, d := 0, r := 0, f := 1000, slip := false, periodD := 0
          facts := { v := none, s := none }, grace := none } ∧
        t.snu =
          (((s.snu.setWarning false).setAlertJunction false).setEmergency false).setAlertRole false ∧
        t.bqm = v.bqm.release b ∧ t.cmn = v.cmn)) ∧
  ∀ (s : State) (b : Nat) (f : Frame) (r : Announced), s.headOfKind kindCabAnnounce = some (b, f) →
    announceRole f.payload = some r → s.cru.TableLaw →
    (s.cru.holdsCab (addrOf f.src) = true ∨ s.cru.cabs.length < 4) →
    ∃ t, exec .takeCabAnnounce s = .next t ∧
      (∀ e, e ∈ t.cru.cabs ↔
        e = { cab := addrOf f.src, role := r, time := s.cmn.partTime, left := 500 } ∨
          (e ∈ s.cru.cabs ∧ e.cab ≠ addrOf f.src)) ∧
      t.cru.TableLaw ∧
      t.cru.role = (match s.cru.role with
        | .inactive => t.cru.tableRole
        | .passive => t.cru.tableRole
        | .claiming => if r ≠ .claiming ∨ addrOf f.src < s.own then .blocked else .claiming
        | .active =>
          if r = .claiming then .active
          else if s.cru.releasing then t.cru.tableRole else .conflict
        | .blocked => .blocked
        | .conflict => if t.cru.hearsCommand then .conflict else .active)

/-- TAKE_CAB_ANNOUNCE that leaves the role alone: a rejected announce raises its counter; an announce for
which the table has no place is ignored, with CAB_TABLE_FULL and the flag the first time; a claim heard in
INACTIVE with no ACTIVE entry writes the table alone. The frame's reference is released (R52, R60,
R63). -/
def Obligations.QuietCabAnnounces : Prop :=
  (∀ (s : State) (b : Nat) (f : Frame), s.headOfKind kindCabAnnounce = some (b, f) →
    announceRole f.payload = none →
    exec .takeCabAnnounce s = .next { s with
      bqm := { s.bqm with ldq := s.bqm.ldq.tail }.release b
      cru := { s.cru with rejected := bump s.cru.rejected } }) ∧
  (∀ (s : State) (b : Nat) (f : Frame) (r : Announced), s.headOfKind kindCabAnnounce = some (b, f) →
    announceRole f.payload = some r → s.cru.holdsCab (addrOf f.src) = false →
    4 ≤ s.cru.cabs.length → s.cru.tableFull = false →
    exec .takeCabAnnounce s = .next { s with
      bqm := { s.bqm with ldq := s.bqm.ldq.tail }.release b
      cru := { s.cru with tableFull := true }
      cmn := s.cmn.note { kind := .cabTableFull, block := .cru, node := some (addrOf f.src) } }) ∧
  (∀ (s : State) (b : Nat) (f : Frame) (r : Announced), s.headOfKind kindCabAnnounce = some (b, f) →
    announceRole f.payload = some r → s.cru.holdsCab (addrOf f.src) = false →
    4 ≤ s.cru.cabs.length → s.cru.tableFull = true →
    exec .takeCabAnnounce s = .next { s with
      bqm := { s.bqm with ldq := s.bqm.ldq.tail }.release b }) ∧
  (∀ (s : State) (b : Nat) (f : Frame), s.headOfKind kindCabAnnounce = some (b, f) →
    announceRole f.payload = some .claiming → s.cru.holdsCab (addrOf f.src) = false →
    s.cru.cabs.length < 4 → s.cru.role = .inactive → s.cru.hearsActive = false →
    exec .takeCabAnnounce s = .next { s with
      bqm := { s.bqm with ldq := s.bqm.ldq.tail }.release b
      cru := { s.cru with
        cabs := insertCab
          { cab := addrOf f.src, role := .claiming, time := s.cmn.partTime, left := 500 }
          s.cru.cabs } })

/-- TAKE_INVERTER_STATUS: an accepted report is written to the node's slot, or to the lowest free slot,
with the part time, and a slot that enters FAULT counts a SPEED_SOURCE event; a rejected report raises
its counter. A report from a node with no slot while none is free is ignored, with INVERTER_OVERFLOW and
the flag the first time. The frame's reference is released (R52, R79, R80, R81). -/
def Obligations.InverterReportsFillTheTable : Prop :=
  (∀ (s : State) (b : Nat) (f : Frame) (speed effort : Int) (st : InverterState) (i : Nat),
    s.headOfKind kindInverterStatus = some (b, f) →
    inverterReport f.payload = some (speed, effort, st) →
    (s.tdu.slotOf (addrOf f.src) = some i ∨
      (s.tdu.slotOf (addrOf f.src) = none ∧ s.tdu.freeSlot = some i)) →
    exec .takeInverterStatus s = .next { s with
      bqm := { s.bqm with ldq := s.bqm.ldq.tail }.release b
      tdu := { s.tdu with
        slots := s.tdu.slots.set i (some
          { node := addrOf f.src, speed := speed, effort := effort, state := st
            time := s.cmn.partTime }) }
      cmn := if st = .fault ∧ ((s.tdu.slots.get i none).map fun x => x.state) ≠ some .fault then
        s.cmn.count .speedSource else s.cmn }) ∧
  (∀ (s : State) (b : Nat) (f : Frame), s.headOfKind kindInverterStatus = some (b, f) →
    inverterReport f.payload = none →
    exec .takeInverterStatus s = .next { s with
      bqm := { s.bqm with ldq := s.bqm.ldq.tail }.release b
      tdu := { s.tdu with rejected := bump s.tdu.rejected } }) ∧
  (∀ (s : State) (b : Nat) (f : Frame) (speed effort : Int) (st : InverterState),
    s.headOfKind kindInverterStatus = some (b, f) →
    inverterReport f.payload = some (speed, effort, st) →
    s.tdu.slotOf (addrOf f.src) = none → s.tdu.freeSlot = none →
    exec .takeInverterStatus s = .next (if s.tdu.inverterOverflow then
      { s with bqm := { s.bqm with ldq := s.bqm.ldq.tail }.release b }
    else
      { s with
        bqm := { s.bqm with ldq := s.bqm.ldq.tail }.release b
        tdu := { s.tdu with inverterOverflow := true }
        cmn := s.cmn.note
          { kind := .inverterOverflow, block := .tdu, node := some (addrOf f.src) } }))

/-- TAKE_STOP_PRESS of a valid press while the role is ACTIVE. In IDLE the record becomes REQUESTED with
that door, its STOP_INDICATE is sent and its chime requested; in REQUESTED it adds its door and is counted,
and where it raises the accessible flag ACCESS_CHIME is requested and a STOP_INDICATE sent; in SERVING and
INHIBIT it is counted alone. Outside ACTIVE the frame is released without effect, a press that R142 rejects
raises the rejected-press counter, and a door of 0 or above the count is a STOP_PANEL event (R52, R142,
R143, R145, R146). -/
def Obligations.StopPressesAreTaken : Prop :=
  (∀ (s : State) (b : Nat) (f : Frame) (door : Nat) (accessible : Bool) (p : Profile),
    s.headOfKind kindStopPress = some (b, f) → s.cru.role = .active →
    stopPress f.payload = some (door, accessible) → s.tdu.live = some p → 1 ≤ door →
    (door : Int) ≤ p.doorCount → s.sru.record.state = .idle →
    ∃ t, exec .takeStopPress s = .next t ∧
      t = { s with bqm := t.bqm, sru := t.sru, snu := t.snu, cmn := t.cmn } ∧
      t.sru = { s.sru with
        record :=
          { state := .requested, doors := 1#16 <<< (door - 1), accessible := accessible
            firstPress := some s.cmn.partTime, presses := 1 }
        lamp := true, refreshTimer := some 1000
        seq := if s.bqm.firstFree.isSome then s.sru.seq + 1 else s.sru.seq } ∧
      t.snu = s.snu.requestEvent (if accessible then .accessChime else .chime) ∧
      ∃ u, u = { s with bqm := { s.bqm with ldq := s.bqm.ldq.tail } }.sendOwn 4
          (ownFrame s.own 63 0x31 4 s.sru.seq
            ([1] ++ oct2 (1#16 <<< (door - 1)).toNat ++ octFlag accessible)) ∧
        t.bqm = u.bqm.release b ∧ t.cmn = u.cmn) ∧
  (∀ (s : State) (b : Nat) (f : Frame) (door : Nat) (accessible : Bool) (p : Profile),
    s.headOfKind kindStopPress = some (b, f) → s.cru.role = .active →
    stopPress f.payload = some (door, accessible) → s.tdu.live = some p → 1 ≤ door →
    (door : Int) ≤ p.doorCount → (s.sru.record.state = .serving ∨ s.sru.record.state = .inhibit) →
    exec .takeStopPress s = .next { s with
      bqm := { s.bqm with ldq := s.bqm.ldq.tail }.release b
      sru := { s.sru with
        record := { s.sru.record with presses := min 255 (s.sru.record.presses + 1) } } }) ∧
  (∀ (s : State) (b : Nat) (f : Frame) (door : Nat) (accessible : Bool) (p : Profile),
    s.headOfKind kindStopPress = some (b, f) → s.cru.role = .active →
    stopPress f.payload = some (door, accessible) → s.tdu.live = some p → 1 ≤ door →
    (door : Int) ≤ p.doorCount → s.sru.record.state = .requested →
    (accessible = false ∨ s.sru.record.accessible = true) →
    exec .takeStopPress s = .next { s with
      bqm := { s.bqm with ldq := s.bqm.ldq.tail }.release b
      sru := { s.sru with
        record := { s.sru.record with
          doors := s.sru.record.doors ||| 1#16 <<< (door - 1)
          presses := min 255 (s.sru.record.presses + 1) } } }) ∧
  (∀ (s : State) (b : Nat) (f : Frame) (door : Nat) (accessible : Bool) (p : Profile),
    s.headOfKind kindStopPress = some (b, f) → s.cru.role = .active →
    stopPress f.payload = some (door, accessible) → s.tdu.live = some p →
    (door = 0 ∨ p.doorCount < (door : Int)) →
    exec .takeStopPress s = .next { s with
      bqm := { s.bqm with ldq := s.bqm.ldq.tail }.release b, cmn := s.cmn.count .stopPanel }) ∧
  (∀ (s : State) (b : Nat) (f : Frame), s.headOfKind kindStopPress = some (b, f) →
    s.cru.role = .active → stopPress f.payload = none →
    exec .takeStopPress s = .next { s with
      bqm := { s.bqm with ldq := s.bqm.ldq.tail }.release b
      sru := { s.sru with rejected := bump s.sru.rejected } }) ∧
  (∀ (s : State) (b : Nat) (f : Frame) (door : Nat) (p : Profile),
    s.headOfKind kindStopPress = some (b, f) → s.cru.role = .active →
    stopPress f.payload = some (door, true) → s.tdu.live = some p → 1 ≤ door →
    (door : Int) ≤ p.doorCount → s.sru.record.state = .requested →
    s.sru.record.accessible = false →
    ∃ t, exec .takeStopPress s = .next t ∧
      t = { s with bqm := t.bqm, sru := t.sru, snu := t.snu, cmn := t.cmn } ∧
      t.sru = { s.sru with
        record := { s.sru.record with
          doors := s.sru.record.doors ||| 1#16 <<< (door - 1), accessible := true
          presses := min 255 (s.sru.record.presses + 1) }
        refreshTimer := some 1000
        seq := if s.bqm.firstFree.isSome then s.sru.seq + 1 else s.sru.seq } ∧
      t.snu = s.snu.requestEvent .accessChime ∧
      ∃ u, u = { s with bqm := { s.bqm with ldq := s.bqm.ldq.tail } }.sendOwn 4
          (ownFrame s.own 63 0x31 4 s.sru.seq
            ([1] ++ oct2 (s.sru.record.doors ||| 1#16 <<< (door - 1)).toNat ++ octFlag true)) ∧
        t.bqm = u.bqm.release b ∧ t.cmn = u.cmn) ∧
  (∀ (s : State) (b : Nat) (f : Frame), s.headOfKind kindStopPress = some (b, f) →
    s.cru.role ≠ .active →
    exec .takeStopPress s = .next { s with
      bqm := { s.bqm with ldq := s.bqm.ldq.tail }.release b })

/-! ### The timers of the role -/

/-- ANNOUNCE_TIMER_EXPIRY in CLAIMING, ACTIVE or CONFLICT with a Traction Profile live: the timer runs
again for 100 ms, and a CAB_ANNOUNCE of priority 6 with the role, the key state and the vehicle number is
sent to every node; the seq advances when a buffer was free (R59, R182). -/
def Obligations.AnnouncesAreSent : Prop :=
  ∀ (s : State) (r : Announced) (p : Profile), s.cru.announceTimer = some 0 →
    announcedRole s.cru.role = some r → s.tdu.live = some p →
    ∃ t, exec .announceTimerExpiry s = .next t ∧
      t = { s with bqm := t.bqm, cru := t.cru, cmn := t.cmn } ∧
      t.cru = { s.cru with
        announceTimer := some 100
        seq := if s.bqm.firstFree.isSome then s.cru.seq + 1 else s.cru.seq } ∧
      ∃ u, u = s.sendOwn 6 (ownFrame s.own 63 0x10 6 s.cru.seq
          (oct1 (match r with | .claiming => 3 | .active => 4 | .conflict => 6) ++
            octFlag (s.addressed && s.level .key) ++ octS2 p.vehicleNumber)) ∧
        t.bqm = u.bqm ∧ t.cmn = u.cmn

/-- CLAIM_WINDOW_EXPIRY gives command: the role ACTIVE with the announce timer at 100 ms and the lamp
steady, an empty list of contexts, and traction in RUN with D 0, R 0, f 1000 and a first period after
20 ms, or in EMERGENCY where the emergency stop is operated; the stop record SERVING where the door release
is on, as R147 has it, and IDLE otherwise (R59, R64, R69, R70, R90, R91, R138, R147). -/
def Obligations.ClaimWindowGivesCommand : Prop :=
  ∀ s : State, s.cru.role = .claiming → s.cru.claimWindow = some 0 → s.tdu.state = .off →
    ∃ t, exec .claimWindowExpiry s = .next t ∧ t.cru.role = .active ∧ t.cru.releasing = false ∧
      t.cru.claimWindow = none ∧ t.cru.announceTimer = some 100 ∧ t.cru.lamp = true ∧
      t.cru.flashTimer = none ∧ t.cru.cabs = s.cru.cabs ∧
      t.jcu.contexts = [] ∧ t.jcu.overflow = false ∧ t.jcu.preselection = none ∧
      t.tdu.r = 0 ∧ t.tdu.f = 1000 ∧ t.tdu.slip = false ∧ t.tdu.periodTimer = some 20 ∧
      (s.level .estop = false → t.tdu.state = .run ∧ t.tdu.d = 0) ∧
      (s.level .estop = true → t.tdu.state = .emergency ∧ t.tdu.d = -1000) ∧
      t.sru.record.state = (if s.level .doorRelease then .serving else .idle) ∧
      t.ports = s.ports ∧ t.fsw = s.fsw ∧ t.ciu = s.ciu ∧ t.mgu = s.mgu ∧ t.own = s.own

/-- CLEAR_TIMER_EXPIRY in BLOCKED claims: CLAIMING with a claim window of 300 ms, the lamp dark, and an
announce at once. RELEASING_TIMER_EXPIRY ends releasing: KEY_OFF_MOVING with value 2, the role by the
table and traction OFF (R59, R66, R67, R69, R70, R90). -/
def Obligations.BlockedClaimsAndReleasingEnds : Prop :=
  (∀ (s : State) (p : Profile), s.cru.role = .blocked → s.cru.clearTimer = some 0 →
    s.tdu.live = some p →
    ∃ t, exec .clearTimerExpiry s = .next t ∧
      t = { s with bqm := t.bqm, cru := t.cru, snu := t.snu, cmn := t.cmn } ∧
      t.cru = { s.cru with
        role := .claiming, releasing := false, releasingTimer := none, announceTimer := some 100
        claimWindow := some 300, clearTimer := none, pendingKeyOn := false, lamp := false
        flashTimer := none
        seq := if s.bqm.firstFree.isSome then s.cru.seq + 1 else s.cru.seq } ∧
      t.snu = s.snu.setAlertRole false ∧
      ∃ u, u = s.sendOwn 6 (ownFrame s.own 63 0x10 6 s.cru.seq
          ([3] ++ octFlag (s.addressed && s.level .key) ++ octS2 p.vehicleNumber)) ∧
        t.bqm = u.bqm ∧ t.cmn = u.cmn) ∧
  (∀ s : State, s.cru.role = .active → s.cru.releasing = true → s.cru.releasingTimer = some 0 →
    ∃ t, exec .releasingTimerExpiry s = .next t ∧
      t.cru.role = s.cru.tableRole ∧ t.cru.releasing = false ∧ t.cru.releasingTimer = none ∧
      t.cru.announceTimer = none ∧ t.cru.lamp = false ∧ t.cru.cabs = s.cru.cabs ∧
      t.tdu.state = .off ∧ t.jcu.contexts = [] ∧ t.sru.record = StopRecord.empty ∧
      t.sru.lamp = false ∧ t.llu.test = none ∧
      (s.sru.record.state = .idle →
        t.cmn = s.cmn.note { kind := .keyOffMoving, block := .cru, value := some 2 }) ∧
      t.ports = s.ports ∧ t.fsw = s.fsw ∧ t.ciu = s.ciu ∧ t.mgu = s.mgu ∧ t.own = s.own)

/-- CAB_ENTRY_TIMEOUT removes the entry and keeps the order of the rest; then INACTIVE, CLAIMING and ACTIVE
are left alone, PASSIVE follows the table, and CONFLICT becomes ACTIVE when no entry is announced ACTIVE or
CONFLICT (R61, R63 to R68). CAB_LAMP_FLASH turns the CAB lamp over and runs again for 500 ms (R70). -/
def Obligations.CabEntriesTimeOut : Prop :=
  (∀ (a : Addr) (s : State), (∃ e ∈ s.cru.cabs, e.cab = a ∧ e.left = 0) →
    (s.cru.role = .inactive ∨ s.cru.role = .claiming ∨ s.cru.role = .active) →
    exec (.cabEntryTimeout a) s = .next { s with
      cru := { s.cru with cabs := s.cru.cabs.filter fun e => e.cab != a } }) ∧
  (∀ (a : Addr) (s : State), (∃ e ∈ s.cru.cabs, e.cab = a ∧ e.left = 0) →
    ∃ t, exec (.cabEntryTimeout a) s = .next t ∧
      t.cru.cabs = (s.cru.cabs.filter fun e => e.cab != a) ∧
      (s.cru.role = .passive → t.cru.role = t.cru.tableRole) ∧
      (s.cru.role = .blocked → t.cru.role = .blocked ∧
        (t.cru.clearTimer.isSome = true ↔ t.cru.hearsCommand = false)) ∧
      (s.cru.role = .conflict →
        t.cru.role = if t.cru.hearsCommand then .conflict else .active)) ∧
  (∀ s : State, s.cru.flashTimer = some 0 →
    exec .cabLampFlash s = .next { s with
      cru := { s.cru with lamp := !s.cru.lamp, flashTimer := some 500 } })

/-! ### The inputs of the cab -/

/-- A debounced key-on in INACTIVE or PASSIVE: with no Traction Profile live the key-on is left pending and
PROFILE_MISSING logged, a looped port having returned to NORMAL first; otherwise the role becomes BLOCKED
where the table holds an ACTIVE or CONFLICT entry, and CLAIMING where it does not; the table-full flag is
cleared (R15, R16, R19, R62; the receiver after LOCAL_LOOPBACK is log entry 19, a frame in reception that
goes on as REMOTE_LOOPBACK is left log entry 42). A key-off in ACTIVE with the speed known standing takes the
role by the table, and otherwise releasing begins, RUN going to HOLD with R at 0; a key-on while releasing
ends it and returns HOLD to RUN; a key-off in CLAIMING, BLOCKED and CONFLICT takes the role by the table,
CONFLICT with traction OFF (R64, R65, R66, R67, R68, R90). A key-off in INACTIVE or PASSIVE ends a pending
key-on; in an unaddressed part, and for a key-off while releasing or a key-on in the other roles, only the
level and the horn follow (R58, R62, R63, R66, R153). -/
def Obligations.KeySwitchDecidesTheRole : Prop :=
  (∀ s : State, s.addressed = true → (s.ciu.input .key).due true = true →
    (s.cru.role = .inactive ∨ s.cru.role = .passive) →
    (∀ p, (s.port p).mode = .normal ∨ (s.port p).mode = .disabled) → s.tdu.live = none →
    exec (.debouncedChange .key true) s = .next { s with
      ciu := { s.ciu with
        inputs := s.ciu.inputs.set 0 { pin := true, level := true, stability := none } }
      cru := { s.cru with tableFull := false, pendingKeyOn := true }
      cmn := s.cmn.note { kind := .profileMissing, block := .cru }
      snu := s.snu.setHorn (s.level .horn) }) ∧
  (∀ (s : State) (p : Profile), s.addressed = true → (s.ciu.input .key).due true = true →
    (s.cru.role = .inactive ∨ s.cru.role = .passive) → s.tdu.live = some p →
    ∃ t, exec (.debouncedChange .key true) s = .next t ∧
      t.cru.role = (if s.cru.hearsCommand then .blocked else .claiming) ∧
      t.cru.tableFull = false ∧ t.cru.pendingKeyOn = false ∧ t.cru.cabs = s.cru.cabs ∧
      (s.cru.hearsCommand = true →
        t.cru.clearTimer = none ∧ t.cru.lamp = true ∧ t.cru.flashTimer = some 500) ∧
      (s.cru.hearsCommand = false →
        t.cru.claimWindow = some 300 ∧ t.cru.announceTimer = some 100 ∧ t.cru.lamp = false) ∧
      t.level .key = true ∧ t.tdu = s.tdu ∧ t.mgu = s.mgu ∧ t.own = s.own) ∧
  (∀ s : State, s.addressed = true → (s.ciu.input .key).due false = true → s.cru.role = .active →
    s.cru.releasing = false → s.standing = true →
    ∃ t, exec (.debouncedChange .key false) s = .next t ∧ t.cru.role = s.cru.tableRole ∧
      t.tdu.state = .off ∧ t.jcu.contexts = [] ∧ t.sru.record = StopRecord.empty ∧
      t.level .key = false ∧ t.cru.cabs = s.cru.cabs) ∧
  (∀ s : State, s.addressed = true → (s.ciu.input .key).due false = true → s.cru.role = .active →
    s.cru.releasing = false → s.standing = false →
    exec (.debouncedChange .key false) s = .next { s with
      ciu := { s.ciu with
        inputs := s.ciu.inputs.set 0 { pin := false, level := false, stability := none } }
      cru := { s.cru with
        releasing := true, releasingTimer := if s.speedKnown then none else some 10000 }
      tdu := if s.tdu.state = .run then { s.tdu with state := .hold, r := 0 } else s.tdu
      snu := s.snu.setHorn false }) ∧
  (∀ (s : State) (p : Port), s.addressed = true → (s.ciu.input .key).due true = true →
    (s.cru.role = .inactive ∨ s.cru.role = .passive) → s.tdu.live = none →
    ((s.port p.other).mode = .normal ∨ (s.port p.other).mode = .disabled) →
    ((s.port p).mode = .remoteLoopback →
      exec (.debouncedChange .key true) s = .next { s with
        ports := s.ports.modify p fun u =>
          { u with mode := .normal, returnList := [], persistence := none }
        bqm := s.bqm.releaseAll (s.port p).returnList
        ciu := { s.ciu with
          inputs := s.ciu.inputs.set 0 { pin := true, level := true, stability := none } }
        cru := { s.cru with tableFull := false, pendingKeyOn := true }
        cmn := (s.cmn.note
            { kind := .autoloopExit, block := portBlock p, port := some p, value := some 3 }).note
          { kind := .profileMissing, block := .cru }
        snu := s.snu.setHorn (s.level .horn) }) ∧
    ((s.port p).mode = .localLoopback →
      exec (.debouncedChange .key true) s = .next { s with
        ports := s.ports.modify p fun u =>
          { u with mode := .normal, rx := .hunt, persistence := none, front := Front.start
                   joined := false }
        bqm := s.bqm.letGo (s.port p).receiving
        ciu := { s.ciu with
          inputs := s.ciu.inputs.set 0 { pin := true, level := true, stability := none } }
        cru := { s.cru with tableFull := false, pendingKeyOn := true }
        cmn := s.cmn.note { kind := .profileMissing, block := .cru }
        snu := s.snu.setHorn (s.level .horn) })) ∧
  (∀ s : State, s.addressed = true → (s.ciu.input .key).due true = true → s.cru.role = .active →
    s.cru.releasing = true →
    exec (.debouncedChange .key true) s = .next { s with
      ciu := { s.ciu with
        inputs := s.ciu.inputs.set 0 { pin := true, level := true, stability := none } }
      cru := { s.cru with releasing := false, releasingTimer := none, tableFull := false }
      tdu := if s.tdu.state = .hold then { s.tdu with state := .run } else s.tdu
      snu := s.snu.setHorn (s.level .horn) }) ∧
  (∀ s : State, s.addressed = true → (s.ciu.input .key).due false = true →
    (s.cru.role = .claiming ∨ s.cru.role = .blocked ∨ s.cru.role = .conflict) →
    ∃ t, exec (.debouncedChange .key false) s = .next t ∧ t.cru.role = s.cru.tableRole ∧
      t.cru.claimWindow = none ∧ t.cru.clearTimer = none ∧ t.cru.announceTimer = none ∧
      t.cru.lamp = false ∧ t.cru.flashTimer = none ∧ t.cru.cabs = s.cru.cabs ∧
      t.cru.seq = s.cru.seq ∧ t.level .key = false ∧ t.bqm = s.bqm ∧ t.cmn = s.cmn ∧
      t.jcu = s.jcu ∧ t.ports = s.ports ∧ t.mgu = s.mgu ∧
      (s.cru.role ≠ .conflict → t.tdu = s.tdu) ∧
      (s.cru.role = .conflict → t.tdu.state = .off ∧ t.tdu.d = (if s.tdu.state = .off then s.tdu.d else 0))) ∧
  (∀ s : State, (s.ciu.input .key).due false = true →
    (s.addressed = false ∨ s.cru.role = .inactive ∨ s.cru.role = .passive ∨
      (s.cru.role = .active ∧ s.cru.releasing = true)) →
    exec (.debouncedChange .key false) s = .next { s with
      ciu := { s.ciu with
        inputs := s.ciu.inputs.set 0 { pin := false, level := false, stability := none } }
      cru := if s.addressed = true ∧ s.cru.role ≠ .active then { s.cru with pendingKeyOn := false } else s.cru
      snu := s.snu.setHorn false }) ∧
  (∀ s : State, (s.ciu.input .key).due true = true →
    (s.addressed = false ∨ s.cru.role = .claiming ∨ s.cru.role = .blocked ∨ s.cru.role = .conflict ∨
      (s.cru.role = .active ∧ s.cru.releasing = false)) →
    exec (.debouncedChange .key true) s = .next { s with
      ciu := { s.ciu with
        inputs := s.ciu.inputs.set 0 { pin := true, level := true, stability := none } }
      snu := s.snu.setHorn (s.addressed && s.level .horn) })

/-- A debounced change of the emergency stop to operated in RUN or HOLD, and an expiry of the grace timer
there, brake: EMERGENCY with D −1000 and R 0, the grace timer stopped, EMERGENCY_BRAKE logged with value 1
or 2, after DEADMAN with the D of the most recent period for the grace timer, the EMERGENCY sound active,
and the emergency frame offered at once (R78, R91). -/
def Obligations.EmergencyStopBrakes : Prop :=
  (∀ s : State, (s.tdu.state = .run ∨ s.tdu.state = .hold) → (s.ciu.input .estop).due true = true →
    ∃ u, u = { s with
        ciu := { s.ciu with
          inputs := s.ciu.inputs.set 2 { pin := true, level := true, stability := none } }
        tdu := { s.tdu with state := .emergency, d := -1000, r := 0, grace := none }
        cmn := s.cmn.note { kind := .emergencyBrake, block := .tdu, value := some 1 }
        snu := s.snu.setEmergency true } ∧
      exec (.debouncedChange .estop true) s = .next u.emergencyFrame) ∧
  (∀ s : State, (s.tdu.state = .run ∨ s.tdu.state = .hold) → s.tdu.grace = some 0 →
    ∃ u, u = { s with
        tdu := { s.tdu with state := .emergency, d := -1000, r := 0, grace := none }
        cmn := (s.cmn.note { kind := .deadman, block := .tdu, value := some s.tdu.periodD }).note
          { kind := .emergencyBrake, block := .tdu, value := some 2 }
        snu := s.snu.setEmergency true } ∧
      exec .graceTimerExpiry s = .next u.emergencyFrame) ∧
  (∀ u : State, u.emergencyFrame =
    u.emitDemand (-1000) { emergency := true, hold := false, blind := u.tdu.facts.v.isNone, sand := false }
      (u.capC (u.tdu.live.getD u.tdu.shadow).maxSpeed)) ∧
  (∀ s : State, (s.tdu.state = .off ∨ s.tdu.state = .emergency) → (s.ciu.input .estop).due true = true →
    exec (.debouncedChange .estop true) s = .next { s with
      ciu := { s.ciu with
        inputs := s.ciu.inputs.set 2 { pin := true, level := true, stability := none } } })

/-- The offer of a demand: with a buffer free or rewritten in place the demand sequence advances, and with
neither it stands, the failure is counted and DEMAND_NOT_SENT logged with the demand. R43 lists the BUFFER
event before the entry, and R163 has the entry that tells of the failure come before the event's own
effects (R43, R54, R103, R163). A demand that waits, and has been taken at no port, is rewritten in its
buffer: each waiting entry keeps its reference and its place, no other buffer changes, and a port where the
demand no longer waits has it at its tail with one more reference. One that waits at one port and has been
taken at the other gives its place, entry for entry, to the new demand in a free buffer, and loses the
reference that moves to it; the other port has the new demand at its tail (R46, R53, R54; that the buffer is
the free one of the lowest number is log entry 7, that the own-frame-failure counter is 32 bits wide and
saturates log entry 44). -/
def Obligations.DemandSequenceCountsFrames : Prop :=
  (∀ (s : State) (d c : Int) (g : DemandFlags),
    (s.bqm.rewritable.isSome = true ∨ s.bqm.firstFree.isSome = true) →
    ∃ t, s.emitDemand d g c = t ∧ t = { s with bqm := t.bqm, tdu := t.tdu, cmn := t.cmn } ∧
      t.tdu = { s.tdu with seq := s.tdu.seq + 1 } ∧ t.bqm.ownFailures = s.bqm.ownFailures) ∧
  (∀ (s : State) (d c : Int) (g : DemandFlags), s.bqm.rewritable = none → s.bqm.firstFree = none →
    s.emitDemand d g c = { s with
      bqm := { s.bqm with ownFailures := bump s.bqm.ownFailures }
      cmn := (s.cmn.note { kind := .demandNotSent, block := .tdu, value := some d }).count .buffer }) ∧
  (∀ (s : State) (d c : Int) (g : DemandFlags) (b : Nat) (f : Frame), b < 96 →
    (∃ p, s.bqm.slot.get p = .waiting b) →
    (∀ p, s.bqm.slot.get p = .waiting b ∨ s.bqm.slot.get p = .flushed ∨
      s.bqm.slot.get p = .notQueued) →
    f = s.demandFrame d g c (s.tdu.facts.v.getD 0) →
    ∃ t, s.emitDemand d g c = t ∧ (t.bqm.buffer b).frame = f ∧
      (∀ x, x ≠ b → t.bqm.buffer x = s.bqm.buffer x) ∧
      (∀ p, s.bqm.slot.get p = .waiting b →
        t.bqm.egress.get p = s.bqm.egress.get p ∧ t.bqm.slot.get p = .waiting b) ∧
      (∀ p, s.bqm.slot.get p ≠ .waiting b → s.offerOutcome p 7 = .queued →
        t.bqm.slot.get p = .waiting b ∧ (t.bqm.buffer b).refs = (s.bqm.buffer b).refs + 1 ∧
        ∀ n, n < 4 → ((t.bqm.egress.get p).queue n).entries = ((s.bqm.egress.get p).queue n).entries ++
          (if n = s.bqm.queueFor p 7 then [b] else [])) ∧
      ((∀ p, s.bqm.slot.get p = .waiting b ∨ s.offerOutcome p 7 ≠ .queued) →
        (t.bqm.buffer b).refs = (s.bqm.buffer b).refs)) ∧
  (∀ (s : State) (d c : Int) (g : DemandFlags) (p : Port) (old b : Nat) (f : Frame),
    s.bqm.slot.get p = .waiting old → s.bqm.slot.get p.other = .taken →
    (s.bqm.buffer old).refs ≠ 0 → s.bqm.firstFree = some b →
    f = s.demandFrame d g c (s.tdu.facts.v.getD 0) →
    ∃ t, s.emitDemand d g c = t ∧ (t.bqm.buffer b).frame = f ∧ t.bqm.slot.get p = .waiting b ∧
      (∀ n, n < 4 → ((t.bqm.egress.get p).queue n).entries =
        ((s.bqm.egress.get p).queue n).entries.map fun x => if x = old then b else x) ∧
      t.bqm.buffer old = { s.bqm.buffer old with refs := (s.bqm.buffer old).refs - 1 } ∧
      (s.offerOutcome p.other 7 = .queued →
        t.bqm.slot.get p.other = .waiting b ∧ (t.bqm.buffer b).refs = 2 ∧
        ∀ n, n < 4 → ((t.bqm.egress.get p.other).queue n).entries =
          ((s.bqm.egress.get p.other).queue n).entries ++
            (if n = s.bqm.queueFor p.other 7 then [b] else [])) ∧
      (s.offerOutcome p.other 7 ≠ .queued →
        t.bqm.slot.get p.other = .notQueued ∧ (t.bqm.buffer b).refs = 1)) ∧
  (∀ (s : State) (d c v : Int) (g : DemandFlags),
    s.demandFrame d g c v = ownFrame s.own 63 0x20 7 s.tdu.seq (demandPayload d g c v s.tdu.f s.tdu.seq))

/-- A debounced release of the dead-man in RUN or HOLD, with the D of the most recent period above 0 or the
speed not known standing and no grace timer running, starts the grace timer at the live profile's dead-man
grace (in units of 100 ms); with neither it starts nothing; a press stops the timer (R77, R78). -/
def Obligations.DeadmanStartsTheGraceTimer : Prop :=
  (∀ (s : State) (p : Profile), (s.ciu.input .deadman).due false = true →
    (s.tdu.state = .run ∨ s.tdu.state = .hold) → s.tdu.grace = none →
    (0 < s.tdu.periodD ∨ s.standing = false) → s.tdu.live = some p →
    exec (.debouncedChange .deadman false) s = .next { s with
      ciu := { s.ciu with
        inputs := s.ciu.inputs.set 1 { pin := false, level := false, stability := none } }
      tdu := { s.tdu with grace := some (p.deadmanGrace * 100).toNat } }) ∧
  (∀ s : State, (s.ciu.input .deadman).due false = true → s.tdu.periodD ≤ 0 → s.standing = true →
    exec (.debouncedChange .deadman false) s = .next { s with
      ciu := { s.ciu with
        inputs := s.ciu.inputs.set 1 { pin := false, level := false, stability := none } } }) ∧
  (∀ s : State, (s.ciu.input .deadman).due true = true →
    exec (.debouncedChange .deadman true) s = .next { s with
      ciu := { s.ciu with
        inputs := s.ciu.inputs.set 1 { pin := true, level := true, stability := none } }
      tdu := { s.tdu with grace := none } })

/-- A debounced change of the door release in ACTIVE: on, the record goes to SERVING from every other
state, with the lamp dark and both timers stopped; off, SERVING goes to INHIBIT with 2 s; the door set, the
flag, the first press and the count are kept, and the indicate of the new state is sent. In other roles
only the level changes (R76, R144, R145). -/
def Obligations.DoorReleaseServesTheStop : Prop :=
  (∀ s : State, (s.ciu.input .doorRelease).due true = true → s.cru.role = .active → s.sru.record.state ≠ .serving →
    ∃ u, u = { s with
        ciu := { s.ciu with
          inputs := s.ciu.inputs.set 3 { pin := true, level := true, stability := none } }
        sru := { s.sru with
          record := { s.sru.record with state := .serving }, lamp := false, refreshTimer := none
          inhibitTimer := none } } ∧
      exec (.debouncedChange .doorRelease true) s = .next u.indicate) ∧
  (∀ s : State, (s.ciu.input .doorRelease).due false = true → s.cru.role = .active → s.sru.record.state = .serving →
    ∃ u, u = { s with
        ciu := { s.ciu with
          inputs := s.ciu.inputs.set 3 { pin := false, level := false, stability := none } }
        sru := { s.sru with
          record := { s.sru.record with state := .inhibit }, inhibitTimer := some 2000 } } ∧
      exec (.debouncedChange .doorRelease false) s = .next u.indicate) ∧
  (∀ u : State, u.indicate.sru =
      { u.sru with seq := if u.bqm.firstFree.isSome then u.sru.seq + 1 else u.sru.seq } ∧
    ∃ v, v = u.sendOwn 4 (ownFrame u.own 63 0x31 4 u.sru.seq
        (oct1 (match u.sru.record.state with
            | .requested => 1
            | .serving => 2
            | _ => 0) ++ oct2 u.sru.record.doors.toNat ++ octFlag u.sru.record.accessible)) ∧
      u.indicate = { u with bqm := v.bqm, cmn := v.cmn, sru := u.indicate.sru }) ∧
  (∀ (s : State) (on : Bool), (s.ciu.input .doorRelease).due on = true → s.cru.role ≠ .active →
    exec (.debouncedChange .doorRelease on) s = .next { s with
      ciu := { s.ciu with
        inputs := s.ciu.inputs.set 3 { pin := on, level := on, stability := none } } })

/-- The horn is active while its button and the key are on. A press of the bell with the key on and its
pattern not empty makes the bell request. A press of a route button in ACTIVE with no context under the
antenna sets the preselection, or takes it back when it stood at that direction; with one created under a live
Route Table, it is a route change: refused with ROUTE_CHANGE_REFUSED and the direction in SET and PASSED, and
otherwise the context has the new direction by MANUAL, was-set cleared, and requests it anew with attempt 1;
outside ACTIVE it changes the level alone; the ROUTE lamp, the WARNING source and the claim of CAB_ALERT follow
the contexts (R122, R127, R130, R136, R137, R153, R154, R155). It cannot act on a context created without a
live table, also after a COMMIT (R126), and goes to the preselection then (log entry 51). PRESELECT does in
ACTIVE what a press does, and is refused with ROLE in every other role and then with INVALID for no direction
(R122, R130, R175; the order of these two is log entry 29, the count before the REPLY log entry 13). -/
def Obligations.HornBellAndRouteButtons : Prop :=
  (∀ (s : State) (on : Bool), (s.ciu.input .horn).due on = true →
    exec (.debouncedChange .horn on) s = .next { s with
      ciu := { s.ciu with
        inputs := s.ciu.inputs.set 4 { pin := on, level := on, stability := none } }
      snu := s.snu.setHorn (s.addressed && s.level .key && on) }) ∧
  (∀ s : State, (s.ciu.input .bell).due true = true → s.addressed = true → s.level .key = true → s.snu.bell = false →
    s.snu.patternOf .bell ≠ [] →
    exec (.debouncedChange .bell true) s = .next { s with
      ciu := { s.ciu with
        inputs := s.ciu.inputs.set 5 { pin := true, level := true, stability := none } }
      snu := Snu.arbitrate { s.snu with bell := true } .exterior }) ∧
  (∀ (s : State) (i : Input) (d : Direction),
    (i = .routeLeft ∧ d = .left ∨ i = .routeStraight ∧ d = .straight ∨ i = .routeRight ∧ d = .right) →
    (s.ciu.input i).due true = true → s.cru.role = .active → s.pressTarget = none →
    exec (.debouncedChange i true) s = .next { s with
      ciu := { s.ciu with
        inputs := s.ciu.inputs.set (inputIndex i) { pin := true, level := true, stability := none } }
      jcu := { s.jcu with
        preselection := if s.jcu.preselection = some d then none else some d } }) ∧
  (∀ (s : State) (i : Input) (d : Direction) (x : Ctx) (seen : Word),
    (i = .routeLeft ∧ d = .left ∨ i = .routeStraight ∧ d = .straight ∨ i = .routeRight ∧ d = .right) →
    (s.ciu.input i).due true = true → s.cru.role = .active → s.llu.carrier = true → s.jcu.live.isSome = true →
    s.jcu.lastIdent = some (x.junction, seen) → (s.cmn.partTime - seen).toNat < 500 →
    s.jcu.find x.junction = some x → x.tabled = true →
    ∃ t, exec (.debouncedChange i true) s = .next t ∧
      State.RouteChanged { s with
        ciu := { s.ciu with
          inputs := s.ciu.inputs.set (inputIndex i) { pin := true, level := true, stability := none } } }
        x d t) ∧
  (∀ (s : State) (i : Input) (d : Direction) (x : Ctx) (seen : Word),
    (i = .routeLeft ∧ d = .left ∨ i = .routeStraight ∧ d = .straight ∨ i = .routeRight ∧ d = .right) →
    (s.ciu.input i).due true = true → s.cru.role = .active → s.jcu.lastIdent = some (x.junction, seen) →
    s.jcu.find x.junction = some x → x.tabled = false →
    exec (.debouncedChange i true) s = .next { s with
      ciu := { s.ciu with
        inputs := s.ciu.inputs.set (inputIndex i) { pin := true, level := true, stability := none } }
      jcu := { s.jcu with
        preselection := if s.jcu.preselection = some d then none else some d } }) ∧
  (∀ (s : State) (i : Input), (i = .routeLeft ∨ i = .routeStraight ∨ i = .routeRight) →
    (s.ciu.input i).due true = true → s.cru.role ≠ .active →
    exec (.debouncedChange i true) s = .next { s with
      ciu := { s.ciu with
        inputs := s.ciu.inputs.set (inputIndex i) { pin := true, level := true, stability := none } } }) ∧
  (∀ (s : State) (b : Nat) (f : Frame) (v : Byte) (d : Direction) (x : Ctx) (seen : Word),
    s.Commanded b f → f.payload = [10, v] → directionOf v.toNat = some d → s.cru.role = .active →
    s.llu.carrier = true → s.jcu.live.isSome = true → s.jcu.lastIdent = some (x.junction, seen) →
    (s.cmn.partTime - seen).toNat < 500 → s.jcu.find x.junction = some x → x.tabled = true →
    ∃ t, exec .preselect s = .next (t.answered b f (Answer.ok [])) ∧
      s.takeHead.RouteChanged x d t) ∧
  (∀ (s : State) (b : Nat) (f : Frame) (v : Byte) (d : Direction) (x : Ctx) (seen : Word),
    s.Commanded b f → f.payload = [10, v] → directionOf v.toNat = some d → s.cru.role = .active →
    s.jcu.lastIdent = some (x.junction, seen) → s.jcu.find x.junction = some x → x.tabled = false →
    exec .preselect s = .next ({ s.takeHead with
      jcu := { s.jcu with
        preselection := if s.jcu.preselection = some d then none else some d } }.answered b f
      (Answer.ok []))) ∧
  (∀ (s : State) (b : Nat) (f : Frame) (x : Byte) (d : Direction), s.Commanded b f →
    f.payload = [10, x] → directionOf x.toNat = some d → s.cru.role = .active → s.pressTarget = none →
    exec .preselect s = .next ({ s.takeHead with
      jcu := { s.jcu with
        preselection := if s.jcu.preselection = some d then none else some d } }.answered b f
      (Answer.ok []))) ∧
  (∀ (s : State) (b : Nat) (f : Frame) (x : Byte), s.Commanded b f → f.payload = [10, x] →
    (s.cru.role ≠ .active →
      exec .preselect s = .next (s.takeHead.answered b f
        { status := 3, reason := 6, figure := 0, data := [] })) ∧
    (s.cru.role = .active → directionOf x.toNat = none →
      exec .preselect s = .next (s.takeHead.answered b f
        { status := 3, reason := 4, figure := 0, data := [] })))

/-- The handle is sampled once every millisecond: the level at its input waits to be taken as HANDLE_SAMPLE,
before all else that is due (R73; what the input will be at is log entry 47). HANDLE_SAMPLE joins the window,
the first one filling its 8 places, and forms H as a floor of the mean (R73); HANDLE_FAULT is the sample whose
H lies below 8 or above 1015 with no fault standing: it declares the fault and logs HANDLE_FAULT with H (that
this row carries the sample and forms H is log entry 20); HANDLE_FAULT_CLEARED, once H has been in range for
100 ms, ends it with no entry (R74). A discrete input is read once every millisecond: while its pin reads away
from the debounced level the stability timer runs, up to 10 ms, a reading back discards its measure, and at 10
ms the change waits to be taken; before that DEBOUNCED_CHANGE does nothing, and then it changes the level of
its input alone (R75). An input active at a reset is due as a change after the tenth reading and not before
(R75, R88; that the first reading away counts 1, and what the pins will read, is log entry 38). -/
def Obligations.CabInputsAreSampledAndDebounced : Prop :=
  (∀ s : State, s.pending = [] → s.cmn.micros = 999 →
    ∃ t l, step s = .next t ∧ t.ciu.wiper = s.ciu.wiperAhead.headD s.ciu.wiper ∧
      t.ciu.wiperAhead = s.ciu.wiperAhead.tail ∧
      t.pending = s.portEvents .A ++ s.portEvents .B ++ s.loopEvents ++
        .handleSample (s.ciu.wiperAhead.headD s.ciu.wiper) :: l) ∧
  (∀ (s : State) (x : BitVec 10) (w : List Nat),
    w = (if s.ciu.window = [] then List.replicate 8 x.toNat else s.ciu.window.tail ++ [x.toNat]) →
    s.ciu.fault = false → 8 ≤ w.sum / 8 → w.sum / 8 ≤ 1015 →
    exec (.handleSample x) s = .next { s with
      ciu := { s.ciu with window := w, handle := some (w.sum / 8), inRange := none } }) ∧
  (∀ (s : State) (x : BitVec 10) (w : List Nat),
    w = (if s.ciu.window = [] then List.replicate 8 x.toNat else s.ciu.window.tail ++ [x.toNat]) →
    s.ciu.fault = false → (w.sum / 8 < 8 ∨ 1015 < w.sum / 8) →
    exec (.handleFault x) s = .next { s with
      ciu := { s.ciu with window := w, handle := some (w.sum / 8), inRange := none, fault := true }
      cmn := s.cmn.note
        { kind := .handleFault, block := .ciu, value := some ((w.sum / 8 : Nat) : Int) } }) ∧
  (∀ (s : State) (x : BitVec 10) (w : List Nat),
    w = (if s.ciu.window = [] then List.replicate 8 x.toNat else s.ciu.window.tail ++ [x.toNat]) →
    s.ciu.fault = true →
    exec (.handleSample x) s = .next { s with
      ciu := { s.ciu with
        window := w, handle := some (w.sum / 8)
        inRange := if 8 ≤ w.sum / 8 ∧ w.sum / 8 ≤ 1015 then some (s.ciu.inRange.getD 0) else none } }) ∧
  (∀ s : State, s.ciu.fault = true → 100 ≤ s.ciu.inRange.getD 0 →
    exec .handleFaultCleared s = .next { s with
      ciu := { s.ciu with fault := false, inRange := none } }) ∧
  (∀ (x : InputState) (on : Bool), x.due on = true ↔
    x.pin = on ∧ x.level ≠ on ∧ ∃ n, x.stability = some n ∧ 10 ≤ n) ∧
  (∀ (s : State) (i : Input) (pin : Bool), s.pending = [] → s.cmn.micros = 999 →
    pin = (match s.ciu.ahead with
      | [] => (s.ciu.input i).pin
      | l :: _ => l.get (inputIndex i) (s.ciu.input i).pin) →
    ∃ t, step s = .next t ∧ t.ciu.ahead = s.ciu.ahead.tail ∧
      t.ciu.input i =
        { pin := pin, level := s.level i
          stability := if pin = s.level i then none
            else some (min 10 ((s.ciu.input i).stability.getD 0 + 1)) } ∧
      (pin ≠ s.level i → 9 ≤ (s.ciu.input i).stability.getD 0 →
        .debouncedChange i pin ∈ t.pending)) ∧
  (∀ (u : Ciu) (i : Input) (n : Nat), u.ahead = [] →
    ((Ciu.tick^[n] u.cleared).input i).due true =
      ((u.input i).pin && decide (10 ≤ n))) ∧
  (∀ (s : State) (i : Input) (on : Bool), (s.ciu.input i).due on = false →
    exec (.debouncedChange i on) s = .next s) ∧
  (∀ (s : State) (i : Input) (on : Bool), (s.ciu.input i).due on = true →
    ∃ t, exec (.debouncedChange i on) s = .next t ∧ t.level i = on ∧
      t.ciu = { s.ciu with
        inputs := s.ciu.inputs.set (inputIndex i) { pin := on, level := on, stability := none } })

/-! ### The demand -/

/-- Stage 1, the handle target, by the table of R96. -/
def Obligations.HandleTargetFollowsTheCalibration : Prop :=
  ∀ (p : Profile) (h : Int), p.hb < p.hn1 → p.hn1 ≤ p.hn2 → p.hn2 < p.hp →
    handleTarget p true h = -1000 ∧
    (h ≤ p.hb → handleTarget p false h = -1000) ∧
    (p.hb < h → h < p.hn1 →
      handleTarget p false h = -((1000 * (p.hn1 - h)).tdiv (p.hn1 - p.hb)) ∧
        -1000 ≤ handleTarget p false h ∧ handleTarget p false h ≤ 0) ∧
    (p.hn1 ≤ h → h ≤ p.hn2 → handleTarget p false h = 0) ∧
    (p.hn2 < h → h < p.hp →
      handleTarget p false h = (1000 * (h - p.hn2)).tdiv (p.hp - p.hn2) ∧
        0 ≤ handleTarget p false h ∧ handleTarget p false h ≤ 1000) ∧
    (p.hp ≤ h → handleTarget p false h = 1000)

/-- Stage 3, the door interlock, as R98 states it. -/
def Obligations.DoorInterlockCutsPower : Prop :=
  ∀ w : Work,
    (stageDoor true w).dt = min w.dt 0 ∧
    (0 < w.d → stageDoor true w = { dt := min w.dt 0, d := 0, r := 0, cut := true }) ∧
    (w.d ≤ 0 → stageDoor true w = { w with dt := min w.dt 0 }) ∧
    stageDoor false w = w

/-- Stage 6, the ramp. In a cut period D and R become 0. Otherwise R is first clamped to rmax, and e is Dt − D:
at e = 0 R becomes 0; from R = 0 or against e it moves by j towards e, clamped; and along e its magnitude a
falls by j, to at least the lesser of j and |e| where it would come to 0, while |e| is within s(a), rises by j
to at most rmax where |e| reaches s(a + j) + a + j, and else stays. Then D moves by R, set to Dt with R at 0
where it has passed Dt, clamped to −1000..1000, and set to 0 with R at 0 where it is above 0 under the power
bar. The law of the ramp: with rmax in 1..200 and j in 1..rmax, and with Dt and D in range, the new D lies in
−1000..1000 and the new R in −rmax..rmax, and D moves by at most rmax unless a positive D is cut to 0; a D that
starts at rest moves by at most j (R102). -/
def Obligations.RampKeepsItsLaw : Prop :=
  (∀ (p : Profile) (bar : Bool) (w : Work), w.cut = true →
    stageRamp p bar w = { w with d := 0, r := 0 }) ∧
  (∀ (p : Profile) (bar : Bool) (w : Work) (e r m a a' r' d₁ r₁ d₂ : Int) (cover : Int → Int),
    1 ≤ p.rateLimit → 1 ≤ p.jerk → w.cut = false →
    (∀ x n, n = x / p.jerk → cover x = n * x - p.jerk * (n * (n + 1)) / 2) →
    e = w.dt - w.d → r = max (-p.rateLimit) (min p.rateLimit w.r) → m = max e (-e) → a = max r (-r) →
    a' = (if m ≤ cover a then (if a ≤ p.jerk then min p.jerk m else a - p.jerk)
      else if cover (a + p.jerk) + (a + p.jerk) ≤ m then min (a + p.jerk) p.rateLimit
      else a) →
    r' = (if e = 0 then 0
      else if 0 < e then (if r ≤ 0 then min p.rateLimit (r + p.jerk) else a')
      else (if 0 ≤ r then max (-p.rateLimit) (r - p.jerk) else -a')) →
    d₁ = (if (0 < e ∧ w.dt < w.d + r') ∨ (e < 0 ∧ w.d + r' < w.dt) then w.dt else w.d + r') →
    r₁ = (if (0 < e ∧ w.dt < w.d + r') ∨ (e < 0 ∧ w.d + r' < w.dt) then 0 else r') →
    d₂ = max (-1000) (min 1000 d₁) →
    stageRamp p bar w = { w with
      d := if bar = true ∧ 0 < d₂ then 0 else d₂
      r := if bar = true ∧ 0 < d₂ then 0 else r₁ }) ∧
  ∀ (p : Profile) (bar : Bool) (w : Work), 1 ≤ p.rateLimit → p.rateLimit ≤ 200 → 1 ≤ p.jerk →
    p.jerk ≤ p.rateLimit → -1000 ≤ w.dt → w.dt ≤ 1000 → -1000 ≤ w.d → w.d ≤ 1000 →
    ∃ x, stageRamp p bar w = x ∧ -1000 ≤ x.d ∧ x.d ≤ 1000 ∧
      -p.rateLimit ≤ x.r ∧ x.r ≤ p.rateLimit ∧
      ((-p.rateLimit ≤ x.d - w.d ∧ x.d - w.d ≤ p.rateLimit) ∨ (0 < w.d ∧ x.d = 0) ∨
        (w.cut = true ∧ x.d = 0)) ∧
      (w.r = 0 → w.cut = false → (bar = false ∨ w.d ≤ 0) →
        -p.jerk ≤ x.d - w.d ∧ x.d - w.d ≤ p.jerk)

/-- The law of the emitted demand: a DEMAND_PERIOD leaves D at or below 0 while the door release is on, in
HOLD, in EMERGENCY, and at a known speed at or above the C of its record (R95, R103). -/
def Obligations.NoPowerUnderTheBar : Prop :=
  ∀ s t : State, s.tdu.state ≠ .off → s.tdu.periodTimer = some 0 →
    exec .demandPeriod s = .next t →
    (s.level .doorRelease = true ∨ s.tdu.state = .hold ∨ t.tdu.state = .hold ∨
      t.tdu.state = .emergency ∨ ∃ v, t.tdu.facts.v = some v ∧ t.tdu.record.c ≤ v) →
    t.tdu.d ≤ 0

/-- A DEMAND_PERIOD in RUN or HOLD: the timer runs again for 20 ms, the speed facts are found and the
contexts closed that the readings close; the stages give the new D, R and f, the record keeps Dh, Dt, C and
the flags, and the frame with the D, the flags and the C of the record is offered last (R95 to R103). Then the
grace timer starts where it is stopped, the dead-man released, and the emitted D above 0 or the speed not
known standing (R77), and releasing ends with KEY_OFF_MOVING, value 1, where the speed is known standing, and
otherwise its timer runs while the speed is unknown (R66). Closures, only at known speed: a PASSED context by
distance or time, any other by CLEAR_MISSED beyond its distance or else by JUNCTION_TIMEOUT; a closed
context's request is withdrawn and the overflow flag cleared (R133, R134). C is the least of the max speed,
the caps of the contexts, and the unconfirmed speed under the overflow flag (R99). Stage 2 takes Dt to Dh in
RUN and to the hold brake in HOLD, with a power cut (R97); stage 4 cuts power at the cap, brakes beyond the
margin, tapers below it, and holds Dt to the blind limit while the speed is unknown or SPEED_SOURCE tripped
(R99, R100); stage 5 scales Dt by f (R101). -/
def Obligations.DemandPeriodDrives : Prop :=
  (∀ (s u : State) (p : Profile) (h : Nat), (s.tdu.state = .run ∨ s.tdu.state = .hold) →
    s.tdu.periodTimer = some 0 → s.tdu.live = some p → s.ciu.handle = some h →
    u = ((s.onTdu fun x => { x with periodTimer := some 20 }).findSpeed).judgeClosures →
    ∃ v w, u.Drives p h v ∧ v.tdu.state = s.tdu.state ∧ v.tdu.periodTimer = some 20 ∧
      w = (if s.level .deadman = false ∧ s.tdu.grace = none ∧ (0 < v.tdu.d ∨ u.standing = false) then
          { v with tdu := { v.tdu with grace := some (p.deadmanGrace * 100).toNat } }
        else v) ∧
      ((s.cru.role ≠ .active ∨ s.cru.releasing = false) → exec .demandPeriod s = .next w) ∧
      (s.cru.role = .active → s.cru.releasing = true → u.standing = false →
        exec .demandPeriod s = .next { w with
          cru := { s.cru with
            releasingTimer := if u.tdu.facts.v.isSome then none
              else some (s.cru.releasingTimer.getD 10000) } }) ∧
      (s.cru.role = .active → s.cru.releasing = true → u.standing = true →
        ∃ t, exec .demandPeriod s = .next t ∧ t.cru.role = s.cru.tableRole ∧
          t.cru.releasing = false ∧ t.cru.releasingTimer = none ∧ t.tdu.state = .off ∧
          t.jcu.contexts = [] ∧ t.sru.record = StopRecord.empty ∧
          (s.sru.record.state = .idle →
            t.bqm = v.bqm ∧
            t.cmn = v.cmn.note { kind := .keyOffMoving, block := .cru, value := some 1 }))) ∧
  (∀ s : State, s.tdu.facts.v = none → s.judgeClosures = s) ∧
  (∀ (s : State) (closed : Ctx → Option (Option LogInfo)), s.tdu.facts.v.isSome = true →
    (s.jcu.contexts.map fun x => x.junction).Nodup →
    closed = (fun x => x.closure s.tdu.odometer s.tdu.movingTime) →
    ∃ t, s.judgeClosures = t ∧ t = { s with jcu := t.jcu, llu := t.llu, snu := t.snu, cmn := t.cmn } ∧
      t.jcu.contexts = (s.jcu.contexts.filter fun x => (closed x).isNone) ∧
      t.jcu.overflow = (s.jcu.overflow && s.jcu.contexts.all fun x => (closed x).isNone) ∧
      t.jcu.preselection = s.jcu.preselection ∧ t.jcu.lastIdent = s.jcu.lastIdent ∧
      t.llu = { s.llu with
        queue := s.llu.queue.filter fun q =>
          s.jcu.contexts.all fun x => (closed x).isNone || x.junction != q.junction } ∧
      t.cmn = s.jcu.contexts.foldl (fun c x =>
        match closed x with
        | some (some e) => c.note e
        | _ => c) s.cmn) ∧
  (∀ (x : Ctx) (odo moving : Word),
    (x.state = .passed →
      (x.closure odo moving = some none ∨ x.closure odo moving = none) ∧
      (x.closure odo moving = some none ↔
        (∃ o l, x.odoCleared = some o ∧ x.trainLength = some l ∧ l * 1000 ≤ (odo - o).toNat) ∨
        ∃ m, x.movingCleared = some m ∧ 120000 ≤ (moving - m).toNat)) ∧
    (x.state ≠ .passed →
      x.closure odo moving =
        if (x.junctionLength + 100) * 1000 < (odo - x.odoCreated).toNat then
          some (some { kind := .clearMissed, block := .jcu, junction := some x.junction
                       value := some (((odo - x.odoCreated).toNat / 1000 : Nat) : Int) })
        else if 120000 ≤ (moving - x.movingCreated).toNat then
          some (some { kind := .junctionTimeout, block := .jcu, junction := some x.junction
                       value := some ((match x.state with
                         | .noRoute => 1
                         | .requesting => 2
                         | .accepted => 3
                         | .refused => 4
                         | .unanswered => 5
                         | .set => 6
                         | .mismatch => 7
                         | .passed => 8 : Nat) : Int) })
        else none)) ∧
  (∀ (u : State) (m : Int) (unconfirmed : Nat),
    unconfirmed = (match u.jcu.live with
      | some r => r.header.unconfirmed
      | none => 100) →
    u.capC m ≤ m ∧ (∀ x ∈ u.jcu.contexts, u.capC m ≤ (x.cap (u.cmn.tripped .loopLink) : Int)) ∧
    (u.jcu.overflow = true → u.capC m ≤ (unconfirmed : Int)) ∧
    (u.capC m = m ∨ (∃ x ∈ u.jcu.contexts, u.capC m = (x.cap (u.cmn.tripped .loopLink) : Int)) ∨
      (u.jcu.overflow = true ∧ u.capC m = (unconfirmed : Int)))) ∧
  (∀ (p : Profile) (dh : Int) (w : Work),
    stageState p false dh w = { w with dt := dh } ∧
    (0 < w.d → stageState p true dh w = { dt := p.holdBrake, d := 0, r := 0, cut := true }) ∧
    (w.d ≤ 0 → stageState p true dh w = { w with dt := p.holdBrake })) ∧
  (∀ (p : Profile) (c v : Int) (w x : Work), x = stageCap p c (some v) false w →
    (c ≤ v → w.d ≤ 0 → x = { w with
      dt := if c + p.overspeedMargin ≤ v then min (min w.dt 0) p.overspeedBrake else min w.dt 0 }) ∧
    (c ≤ v → 0 < w.d → x =
      { dt := if c + p.overspeedMargin ≤ v then min (min w.dt 0) p.overspeedBrake else min w.dt 0
        d := 0, r := 0, cut := true }) ∧
    (v < c → 0 < w.dt → c - p.taperBand < v →
      x = { w with dt := (w.dt * (c - v)).tdiv p.taperBand }) ∧
    (v < c → (w.dt ≤ 0 ∨ v ≤ c - p.taperBand) → x = w) ∧
    stageCap p c (some v) true w = { x with dt := min x.dt p.blindLimit }) ∧
  (∀ (p : Profile) (c : Int) (tripped : Bool) (w : Work),
    stageCap p c none tripped w =
      { w with dt := if c = 0 then min (min w.dt p.blindLimit) 0 else min w.dt p.blindLimit }) ∧
  (∀ (p : Profile) (f x : Int) (w : Work),
    stageAdhesion f w = { w with dt := (w.dt * f).tdiv 1000 } ∧
    findsSlip p none = false ∧ findsSlip p (some x) = decide (p.slipThreshold < x)) ∧
  (∀ (hold door : Bool) (c v : Int),
    powerBar hold door c none = (hold || door || decide (c = 0)) ∧
    powerBar hold door c (some v) = (hold || door || decide (c ≤ v))) ∧
  (∀ (p : Profile) (hold door tripped : Bool) (dh c f : Int) (v : Option Int) (w : Work),
    stages p hold door tripped dh c v f w =
      stageAdhesion f (stageCap p c v tripped (stageDoor door (stageState p hold dh w))))

/-- A DEMAND_PERIOD in EMERGENCY, not releasing, with the emergency stop operated, the dead-man released, a
handle above neutral or the speed not known standing stays there: D is −1000, f and the slip memory stand,
and the frame offered carries −1000, the EMERGENCY flag and C; the Dt of its record is a free value (log
entry 15). Where none of these holds, EMERGENCY is left for RUN in ACTIVE and for HOLD otherwise, the
EMERGENCY sound ends, and the period drives as R97 to R103 give (R91, R92, R97, R103). -/
def Obligations.EmergencyHoldsUntilReleased : Prop :=
  ∀ (s u : State) (p : Profile) (h : Nat) (g : DemandFlags) (c : Int), s.tdu.state = .emergency →
    s.tdu.periodTimer = some 0 → s.tdu.live = some p → s.ciu.handle = some h →
    s.cru.releasing = false →
    u = ((s.onTdu fun x => { x with periodTimer := some 20 }).findSpeed).judgeClosures →
    g = { emergency := true, hold := false, blind := u.tdu.facts.v.isNone, sand := false } →
    c = u.capC p.maxSpeed →
    ((s.level .estop = true ∨ s.level .deadman = false ∨ 0 < handleTarget p s.ciu.fault h ∨
        u.standing = false) →
      ∃ dt, exec .demandPeriod s = .next (State.emitDemand { u with
        free := s.free + 1
        tdu := { u.tdu with
          d := -1000, periodD := -1000
          record := { dh := handleTarget p s.ciu.fault h, dt := dt, c := c, flags := g } } }
        (-1000) g c)) ∧
    (s.level .estop = false → s.level .deadman = true → handleTarget p s.ciu.fault h ≤ 0 →
      u.standing = true →
      ∃ v, State.Drives { u with
          tdu := { u.tdu with state := if s.cru.role = .active then .run else .hold }
          snu := u.snu.setEmergency false } p h v ∧
        exec .demandPeriod s = .next v)

/-- The speed facts of a demand period: over the slots that are allocated, fresh and READY, V is the lowest
axle speed where the D of the most recent period is 0 or above and the highest where it is below, and S is the
highest less the lowest of two or more; with no such slot the speed is unknown, and a loss of speed in ACTIVE
counts one SPEED_SOURCE event (R81, R82, R83). The readings at known speed V: with k = carry + 5V, the odometer
advances by k / 9 and k mod 9 is carried; moving time gains 20 ms where V exceeds 5; at unknown speed nothing
advances (R85, R86). -/
def Obligations.SpeedFactsAndReadingsAreFound : Prop :=
  ∀ u : Tdu,
    (u.facts.v = none → u.advance = u) ∧
    (∀ v : Nat, u.facts.v = some (v : Int) →
      u.advance = { u with
        odometer := u.odometer + BitVec.ofNat 32 ((u.carry + 5 * v) / 9)
        carry := (u.carry + 5 * v) % 9
        movingTime := if 5 < v then u.movingTime + 20 else u.movingTime }) ∧
  (∀ (s : State) (l : List Int),
    l = s.tdu.slots.data.filterMap (fun x => x.bind fun y =>
      if (s.cmn.partTime - y.time).toNat < 100 ∧ y.state = .ready then some y.speed else none) →
    ∃ g : SpeedFacts,
      s.findSpeed = { s with
        tdu := Tdu.advance { s.tdu with facts := g }
        cmn := if s.tdu.facts.v.isSome = true ∧ l = [] ∧ s.cru.role = .active then
            s.cmn.count .speedSource
          else s.cmn } ∧
      (l = [] → g = { v := none, s := none }) ∧
      (l ≠ [] → ∃ v, g.v = some v ∧ v ∈ l ∧ (0 ≤ s.tdu.periodD → ∀ x ∈ l, v ≤ x) ∧
        (s.tdu.periodD < 0 → ∀ x ∈ l, x ≤ v)) ∧
      (l.length = 1 → g.s = none) ∧
      (2 ≤ l.length → ∃ a b, a ∈ l ∧ b ∈ l ∧ (∀ x ∈ l, a ≤ x ∧ x ≤ b) ∧ g.s = some (b - a)))

/-! ### The track loop -/

/-- LOOP_CD is measured in each bit time: while it holds a level other than the carrier presence the filter
counts, up to 5 ms, and a return discards the measure; at 5 ms the change waits to be taken, and before it the
two commands do nothing; a LOOP_CD high at either reset gives a gain 5 ms later (R106; what the modem presents
is log entry 39). CARRIER_GAIN: the carrier present, and in ACTIVE the receiver in HUNT. CARRIER_LOSS while
listening: the receiver idle, a telegram in reception discarded and counted, a request in transmission cut off
and counted, the waiting requests discarded; then each context in REQUESTING becomes UNANSWERED, in list
order, with its entry and one LOOP_LINK event (the entry before the event: log entry 12), and the ROUTE lamp,
the WARNING source and the claim of CAB_ALERT follow the contexts; then an open test gives its result. In
other roles the presence alone changes (R106, R107, R110, R114, R116, R129, R136, R137).
What the receiver has heard of HUNT at its start is log entry 40, the measure of LOOP_TXEN log entry 25. -/
def Obligations.CarrierChangesAreTaken : Prop :=
  (∀ (u : Llu) (on : Bool), u.carrierDue on = true ↔
    u.cdPin = on ∧ u.carrier ≠ on ∧ ∃ n, u.filter = some n ∧ 5000 ≤ n) ∧
  (∀ s : State, s.llu.carrierDue true = false → exec .carrierGain s = .next s) ∧
  (∀ s : State, s.llu.carrierDue false = false → exec .carrierLoss s = .next s) ∧
  (∀ (s : State) (pin : Bool), s.pending = [] → pin = s.llu.line.cd.headD s.llu.cdPin →
    ∃ t, step s = .next t ∧ t.llu.cdPin = pin ∧ t.llu.line.cd = s.llu.line.cd.tail ∧
      t.llu.filter =
        (if pin = s.llu.carrier then none else some (min 5000 (s.llu.filter.getD 0 + 1))) ∧
      (4999 ≤ s.llu.filter.getD 0 → pin = true → s.llu.carrier = false → .carrierGain ∈ t.pending) ∧
      (4999 ≤ s.llu.filter.getD 0 → pin = false → s.llu.carrier = true → .carrierLoss ∈ t.pending)) ∧
  (∀ (u : Llu) (n : Nat), u.line.cd = [] →
    ((Llu.clock^[n] (Llu.powerOn u.cdPin u.line u.lowFor)).carrierDue true = true ↔ u.cdPin = true ∧ 5000 ≤ n) ∧
    ((Llu.clock^[n] u.controlReset).carrierDue true = true ↔ u.cdPin = true ∧ 5000 ≤ n)) ∧
  (∀ s : State, s.llu.carrierDue true = true → s.cru.role = .active → s.llu.rx = .idle →
    exec .carrierGain s = .next { s with
      llu := { s.llu with
        carrier := true, filter := none, rx := .hunt
        front := { heard := [], bits := [], octets := [] } } }) ∧
  (∀ s : State, s.llu.carrierDue true = true → s.cru.role ≠ .active →
    exec .carrierGain s = .next { s with llu := { s.llu with carrier := true, filter := none } }) ∧
  (∀ s : State, s.llu.carrierDue false = true → s.cru.role ≠ .active →
    exec .carrierLoss s = .next { s with llu := { s.llu with carrier := false, filter := none } }) ∧
  (∀ (s : State) (c : Cmn), s.llu.carrierDue false = true → s.cru.role = .active →
    (s.jcu.contexts.map fun x => x.junction).Nodup →
    c = s.jcu.contexts.foldl (fun c x =>
      if x.state = .requesting then
        (c.note { kind := .junctionUnanswered, block := .jcu, junction := some x.junction
                  value := some (x.attempt : Int) }).count .loopLink
      else c) s.cmn →
    ∃ t, exec .carrierLoss s = .next t ∧
      t = { s with llu := t.llu, jcu := t.jcu, snu := t.snu, cmn := t.cmn } ∧
      t.jcu = { s.jcu with
        contexts := s.jcu.contexts.map fun x =>
          if x.state = .requesting then { x with state := .unanswered, retry := none } else x
        routeLamp := t.jcu.routeLamp } ∧
      ((∃ x ∈ s.jcu.contexts, x.state = .requesting) → t.Signals s.snu) ∧
      ((∀ x ∈ s.jcu.contexts, x.state ≠ .requesting) →
        t.jcu.routeLamp = s.jcu.routeLamp ∧ t.snu = s.snu) ∧
      t.llu = { s.llu with
        carrier := false, filter := none, rx := .idle, front := { heard := [], bits := [], octets := [] }
        txen := false, sending := none
        txHeld := if s.llu.txen then 0 else s.llu.txHeld
        carrierDiscards :=
          if s.llu.rx = .telegram then bump s.llu.carrierDiscards else s.llu.carrierDiscards
        cutOff := if s.llu.sending.isSome then bump s.llu.cutOff else s.llu.cutOff
        queue := [], test := none, lastTest := t.llu.lastTest } ∧
      (s.llu.test = none → t.cmn = c ∧ t.llu.lastTest = s.llu.lastTest) ∧
      (∀ x, s.llu.test = some x →
        (4096 ≤ x.checked → x.errors ≤ (s.cmn.attrConfig .loopLink).testLimit →
          t.llu.lastTest = some
            { pass := true, loop := x.loop, checked := x.checked, errors := x.errors
              time := s.cmn.partTime } ∧
          t.cmn = (c.note { kind := .testPass, block := .llu, junction := some x.loop
                            value := some (x.errors : Int) }).restore .loopLink) ∧
        ((x.checked < 4096 ∨ (s.cmn.attrConfig .loopLink).testLimit < x.errors) →
          t.llu.lastTest = some
            { pass := false, loop := x.loop, checked := x.checked, errors := x.errors
              time := s.cmn.partTime } ∧
          t.cmn = (c.note { kind := .testFail, block := .llu, junction := some x.loop
                            value := some (x.errors : Int) }).count .loopLink)))

/-- A telegram start is 12 alternating bits followed at once by the loop start pair. A loop bit is taken each
1/4800 s: in HUNT it completes a telegram start with the bits taken there before it, or joins them; in
TELEGRAM it joins the octets, which give the telegram at its last check bit or a length error at a length
above 16; in IDLE none is taken (R107, R109, R110; what the modem presents is log entry 39, that the search
begins anew in HUNT log entry 40). TELEGRAM_START takes the receiver to TELEGRAM and empties the checker of an
open test, where the bit completes a start, and changes nothing elsewhere; a length error and a failed check
count on their counters and on LOOP_CHECK; a good telegram that R111 rejects counts as good and as rejected;
an accepted TEST ident opens a depot test where none is open, and leaves an open one alone. A bit judged in
HUNT enters the delay of an open test, and where 32 bits are held the oldest leaves and is judged: with fewer
than 9 bits of history it joins them and no more; with 9 its prediction joins the window of 64, a mismatch
also where all 9 are zero. In SEARCH a full window with at most 2 mismatches brings IN_SYNC, uncounted; in
IN_SYNC each prediction counts, and the sixteenth mismatch in the window brings SEARCH and empties it. A
telegram start has the bit that leaves a full delay judged first, then all is empty (R109, R110, R111, R115;
log entry 18). -/
def Obligations.TelegramsAreReceived : Prop :=
  (∀ l : List Bool, telegramStartAt l = true ↔
    ∃ a b : List Bool, l = a ++ b ++ lineBits [0x3C, 0xA5] ∧ b.length = 12 ∧
      ∀ k, k < 11 → b.getD k false ≠ b.getD (k + 1) false) ∧
  (∀ s : State, (s.llu.rx ≠ .hunt ∨ telegramStartAt (s.llu.front.heard ++ [true]) = false) →
    exec .telegramStart s = .next s) ∧
  (∀ (s : State) (c : Instr), s.llu.rx = .hunt →
    telegramStartAt (s.llu.front.heard ++ [true]) = true → (c = .telegramStart ∨ c = .bitJudged true) →
    (s.llu.test = none →
      exec c s = .next { s with
        llu := { s.llu with rx := .telegram, front := { heard := [], bits := [], octets := [] } } }) ∧
    (∀ x, s.llu.test = some x → x.delay.length < 32 →
      exec c s = .next { s with
        llu := { s.llu with
          rx := .telegram, front := { heard := [], bits := [], octets := [] }
          test := some { x with delay := [], history := [], window := [], inSync := false } } }) ∧
    (∀ (x : DepotTest) (d m : Bool) (l : List Bool), s.llu.test = some x → x.delay = d :: l →
      l.length = 31 → x.history.length ≤ 9 →
      (m = true ↔ (∀ k ∈ x.history, k = false) ∨
        d ≠ (x.history.getD 4 false != x.history.getD 0 false)) →
      exec c s = .next { s with
        llu := { s.llu with
          rx := .telegram, front := { heard := [], bits := [], octets := [] }
          test := some { x with
            delay := [], history := [], window := [], inSync := false
            checked := if x.inSync && decide (x.history.length = 9) then bump x.checked else x.checked
            errors := if x.inSync && decide (x.history.length = 9) && m then bump x.errors
              else x.errors } } })) ∧
  (∀ (s : State) (b : Bool) (l : List Bool), s.pending = [] → s.llu.line.bits = b :: l →
    622 ≤ s.llu.line.phase → s.llu.line.phase < 625 →
    ∃ t, step s = .next t ∧ t.llu.line.bits = l ∧ t.llu.line.phase = s.llu.line.phase - 622 ∧
      (s.llu.rx = .hunt →
        t.llu.front = s.llu.front ∧
        (telegramStartAt (s.llu.front.heard ++ [b]) = true → .telegramStart ∈ t.pending) ∧
        (telegramStartAt (s.llu.front.heard ++ [b]) = false → .bitJudged b ∈ t.pending)) ∧
      (s.llu.rx = .telegram →
        (s.llu.front.bits.length < 7 →
          t.llu.front = { s.llu.front with bits := s.llu.front.bits ++ [b] }) ∧
        (∀ (m : Telegram) (x : Byte), s.llu.front.bits ++ [b] = octetBits x →
          m.fields.length ≤ 16 →
          s.llu.front.octets ++ [x] =
            [m.kind, BitVec.ofNat 8 m.fields.length] ++ m.fields ++ oct2 m.check.toNat →
          .telegramReceived m ∈ t.pending) ∧
        (∀ k x : Byte, s.llu.front.bits ++ [b] = octetBits x → s.llu.front.octets = [k] → 16 < x.toNat →
          .loopLengthError ∈ t.pending)) ∧
      (s.llu.rx = .idle → t.llu.front = s.llu.front ∧ s.llu.bitEvent = none)) ∧
  (∀ s : State, s.pending = [] → s.llu.line.phase < 622 →
    ∃ t, step s = .next t ∧ t.llu.line.bits = s.llu.line.bits ∧
      t.llu.line.phase = s.llu.line.phase + 3 ∧ t.llu.front = s.llu.front ∧
      s.llu.bitEvent = none) ∧
  (∀ s : State, s.llu.rx = .telegram →
    exec .loopLengthError s = .next { s with
      llu := { s.llu with
        rx := .hunt, front := { heard := [], bits := [], octets := [] }
        lengthErrors := bump s.llu.lengthErrors }
      cmn := s.cmn.count .loopCheck }) ∧
  (∀ (s : State) (t : Telegram), s.llu.rx = .telegram → t.fields.length ≤ 16 →
    t.check ≠ telegramCheck t →
    exec (.telegramReceived t) s = .next { s with
      llu := { s.llu with
        rx := .hunt, front := { heard := [], bits := [], octets := [] }
        checkErrors := bump s.llu.checkErrors }
      cmn := s.cmn.count .loopCheck }) ∧
  (∀ (s : State) (t : Telegram), s.llu.rx = .telegram → t.fields.length ≤ 16 →
    t.check = telegramCheck t → loopMessage t = none →
    exec (.telegramReceived t) s = .next { s with
      llu := { s.llu with
        rx := .hunt, front := { heard := [], bits := [], octets := [] }
        good := bump s.llu.good, rejected := bump s.llu.rejected } }) ∧
  (∀ (s : State) (t : Telegram) (j locked : Nat) (st : PointStatus), s.llu.rx = .telegram →
    t.fields.length ≤ 16 → t.check = telegramCheck t →
    loopMessage t = some (.ident .test j st locked) →
    exec (.telegramReceived t) s = .next { s with
      llu := { s.llu with
        rx := .hunt, front := { heard := [], bits := [], octets := [] }
        good := bump s.llu.good
        test := if s.llu.test.isSome then s.llu.test
          else some { loop := j, inSync := false, checked := 0, errors := 0, delay := []
                      history := [], window := [] } } }) ∧
  (∀ (s : State) (x : DepotTest) (bit : Bool), s.llu.rx = .hunt → s.llu.test = some x →
    x.delay.length < 32 → telegramStartAt (s.llu.front.heard ++ [bit]) = false →
    exec (.bitJudged bit) s = .next { s with
      llu := { s.llu with
        front := { s.llu.front with
          heard := (s.llu.front.heard ++ [bit]).drop (s.llu.front.heard.length - 26) }
        test := some { x with delay := x.delay ++ [bit] } } }) ∧
  (∀ (s : State) (x : DepotTest) (bit b : Bool) (l : List Bool), s.llu.rx = .hunt →
    s.llu.test = some x → x.delay = b :: l → l.length = 31 →
    telegramStartAt (s.llu.front.heard ++ [bit]) = false →
    ∃ y, exec (.bitJudged bit) s = .next { s with
        llu := { s.llu with
          front := { s.llu.front with
            heard := (s.llu.front.heard ++ [bit]).drop (s.llu.front.heard.length - 26) }
          test := some y } } ∧
      (x.history.length < 9 → y = { x with delay := l ++ [bit], history := x.history ++ [b] }) ∧
      (∀ (m : Bool) (w : List Bool), x.history.length = 9 →
        (m = true ↔ (∀ k ∈ x.history, k = false) ∨
          b ≠ (x.history.getD 4 false != x.history.getD 0 false)) →
        w = (x.window ++ [m]).drop (x.window.length - 63) →
        (x.inSync = true → y = { x with
          delay := l ++ [bit], history := x.history.tail ++ [b], checked := bump x.checked
          errors := if m then bump x.errors else x.errors
          inSync := decide ((w.filter id).length < 16)
          window := if (w.filter id).length < 16 then w else [] }) ∧
        (x.inSync = false → y = { x with
          delay := l ++ [bit], history := x.history.tail ++ [b], window := w
          inSync := decide (w.length = 64 ∧ (w.filter id).length ≤ 2) }))) ∧
  (∀ (s : State) (bit : Bool), s.llu.rx = .hunt → s.llu.test = none →
    telegramStartAt (s.llu.front.heard ++ [bit]) = false →
    exec (.bitJudged bit) s = .next { s with
      llu := { s.llu with
        front := { s.llu.front with
          heard := (s.llu.front.heard ++ [bit]).drop (s.llu.front.heard.length - 26) } } }) ∧
  (∀ (s : State) (bit : Bool), s.llu.rx ≠ .hunt → exec (.bitJudged bit) s = .next s)

/-- A POINT_REQUEST is taken for transmission while the part listens, the transmitter is free and LOOP_TXEN
has been low for one loop bit, 625 thirds of a microsecond: it carries the head of the queue with the run and
the vehicle number of the live tables, and LOOP_TXEN rises; without that the command changes nothing. Its 128
bits sent, POINT_REQUEST_SENT counts it as sent, lowers LOOP_TXEN and gives the context its part time; before
that the command changes nothing. Each bit time measures LOOP_TXEN, and each of the two commands waits to be
taken as its moment comes (R108, R114, R129; the unit of the measure, and that the moment is found at the end
of a bit time, are log entry 25). RETRY_TIMER_EXPIRY in REQUESTING: below
attempt 5 the next attempt is offered and the timer runs again for 200 ms; at 5 the context is UNANSWERED,
with JUNCTION_UNANSWERED and one LOOP_LINK event, the entry before the event (R163 and log entry 12), and
its waiting request withdrawn. An offer taken while
listening replaces the waiting request of its junction in its place, and otherwise joins the tail where
fewer than 8 wait (R114, R127). The ROUTE lamp, the WARNING source and the claim of CAB_ALERT follow the
contexts (R136, R137). -/
def Obligations.PointRequestsAreSentAndRetried : Prop :=
  (∀ (s : State) (q : PointRequest) (l : List PointRequest) (t : LiveRoute) (p : Profile),
    s.cru.role = .active → s.llu.carrier = true → s.llu.queue = q :: l → s.llu.sending = none →
    s.llu.txen = false → 625 ≤ s.llu.txHeld → s.jcu.live = some t → s.tdu.live = some p →
    exec .pointRequestTransmit s = .next { s with
      llu := { s.llu with
        queue := l, txen := true, txHeld := 0
        sending := some { request := q, run := t.header.run, vehicle := p.vehicleNumber } } }) ∧
  (∀ s : State, (s.listening = false ∨ s.llu.queue = [] ∨ s.llu.sending.isSome ∨ s.llu.txen = true ∨
      s.llu.txHeld < 625) →
    exec .pointRequestTransmit s = .next s) ∧
  (∀ s : State, (s.llu.sending = none ∨ s.llu.txHeld < 80000) → exec .pointRequestSent s = .next s) ∧
  (∀ s : State, s.pending = [] → s.llu.txen = s.llu.sending.isSome →
    ∃ t, step s = .next t ∧ t.llu.txen = s.llu.txen ∧
      t.llu.txHeld = min (if s.llu.txen then 80000 else 625) (s.llu.txHeld + 3) ∧
      (s.llu.txen = true → 79997 ≤ s.llu.txHeld → .pointRequestSent ∈ t.pending) ∧
      (s.llu.txen = false → 622 ≤ s.llu.txHeld → s.listening = true → s.llu.queue ≠ [] →
        .pointRequestTransmit ∈ t.pending)) ∧
  (∀ (s : State) (q : SendingRequest), s.llu.sending = some q → 80000 ≤ s.llu.txHeld →
    exec .pointRequestSent s = .next { s with
      llu := { s.llu with sending := none, txen := false, txHeld := 0, sent := bump s.llu.sent }
      jcu := { s.jcu with
        contexts := s.jcu.contexts.map fun x =>
          if x.junction = q.request.junction then { x with requestSent := some s.cmn.partTime }
          else x } }) ∧
  (∀ (s : State) (j : Nat) (x : Ctx) (d : Direction) (q : PointRequest), s.jcu.find j = some x →
    x.state = .requesting → x.retry = some 0 → x.direction = some d → x.attempt < 5 →
    q = { junction := j, direction := d, attempt := x.attempt + 1 } →
    ∃ t, exec (.retryTimerExpiry j) s = .next t ∧
      t = { s with llu := t.llu, jcu := t.jcu, snu := t.snu } ∧
      t.Signals s.snu ∧
      t.jcu = { s.jcu with
        routeLamp := t.jcu.routeLamp
        contexts := s.jcu.contexts.map fun y =>
          if y.junction = j then
            { y with state := .requesting, attempt := x.attempt + 1, retry := some 200 }
          else y } ∧
      t.llu = { s.llu with queue := t.llu.queue } ∧
      (s.listening = false → t.llu.queue = s.llu.queue) ∧
      (s.listening = true →
        ((∃ y ∈ s.llu.queue, y.junction = j) →
          t.llu.queue = s.llu.queue.map fun y => if y.junction = j then q else y) ∧
        ((∀ y ∈ s.llu.queue, y.junction ≠ j) →
          t.llu.queue = if s.llu.queue.length < 8 then s.llu.queue ++ [q] else s.llu.queue))) ∧
  (∀ (s : State) (j : Nat) (x : Ctx) (d : Direction), s.jcu.find j = some x →
    x.state = .requesting → x.retry = some 0 → x.direction = some d → x.attempt = 5 →
    ∃ t, exec (.retryTimerExpiry j) s = .next t ∧
      t = { s with llu := t.llu, jcu := t.jcu, snu := t.snu, cmn := t.cmn } ∧
      t.Signals s.snu ∧
      t.jcu = { s.jcu with
        routeLamp := t.jcu.routeLamp
        contexts := s.jcu.contexts.map fun y =>
          if y.junction = j then { y with state := .unanswered, retry := none } else y } ∧
      t.llu = { s.llu with queue := s.llu.queue.filter fun q => q.junction != j } ∧
      t.cmn = (s.cmn.note { kind := .junctionUnanswered, block := .jcu, junction := some j
                            value := some 5 }).count .loopLink)

/-! ### The junctions -/

/-- An accepted LOOP_IDENT of kind REQUEST for a junction with no context. With fewer than 8 open a context is
created at the tail, by the rows of R126, and the ident is its first status update; a context with a direction
is REQUESTING with attempt 1 offered and a retry timer of 200 ms. Points NONE, MOVING or SET for another run
leave it so; SET of its direction for our run makes it SET at once, SET of another direction, or with none,
and FAULT make it MISMATCH with its entry, and either ends the retry timer and withdraws the request. With 8
open CONTEXT_FULL is logged and the overflow flag set; while the flag is set a further ident is recorded as
the last one and no more (R122, R123, R125, R126, R127, R131). The ROUTE lamp, the WARNING source and the
claim of CAB_ALERT follow the contexts and the flag, at the creation and then at the update (R136, R137). What
the receiver has heard of HUNT at its start is log entry 40. -/
def Obligations.IdentsOpenContexts : Prop :=
  (∀ (s : State) (m : Telegram) (j locked : Nat) (st : PointStatus) (r : LiveRoute)
    (e : Option RouteEntry) (d : Option Direction),
    s.llu.rx = .telegram → m.fields.length ≤ 16 → m.check = telegramCheck m →
    loopMessage m = some (.ident .request j st locked) →
    (st = .none ∨ st = .moving ∨ ∃ x, st = .set x ∧ r.header.run ≠ locked) →
    (∀ x ∈ s.jcu.contexts, x.junction ≠ j) → s.jcu.contexts.length < 8 → s.jcu.live = some r →
    e = (r.entries.find? fun x => x.junction == j) →
    d = (if s.jcu.preselection.isSome then s.jcu.preselection else e.map fun x => x.direction) →
    ∃ t, exec (.telegramReceived m) s = .next t ∧
      t = { s with llu := t.llu, jcu := t.jcu, snu := t.snu } ∧
      t.llu = { s.llu with rx := .hunt, front := LoopFront.start, good := bump s.llu.good, queue := t.llu.queue } ∧
      t.Signals s.snu ∧
      t.jcu = { s.jcu with
        preselection := none, lastIdent := some (j, s.cmn.partTime), routeLamp := true
        contexts := s.jcu.contexts ++
          [{ junction := j, tabled := true, direction := d
             source := if s.jcu.preselection.isSome then some .manual else e.map fun _ => .table
             state := if d.isSome then .requesting else .noRoute
             attempt := if d.isSome then 1 else 0
             status := some st, requestSent := none, wasSet := false
             straightCap := (e.bind fun x => x.straightCap).getD r.header.straightCap
             divergingCap := (e.bind fun x => x.divergingCap).getD r.header.divergingCap
             unconfirmedCap := r.header.unconfirmed
             junctionLength := (e.bind fun x => x.junctionLength).getD r.header.junctionLength
             odoCreated := s.tdu.odometer, movingCreated := s.tdu.movingTime
             odoCleared := none, movingCleared := none, trainLength := none
             retry := if d.isSome then some 200 else none }] } ∧
      (d = none → t.llu.queue = s.llu.queue) ∧
      (s.listening = false → t.llu.queue = s.llu.queue) ∧
      (∀ x (q : PointRequest), d = some x → s.listening = true →
        q = { junction := j, direction := x, attempt := 1 } →
        ((∃ y ∈ s.llu.queue, y.junction = j) →
          t.llu.queue = s.llu.queue.map fun y => if y.junction = j then q else y) ∧
        ((∀ y ∈ s.llu.queue, y.junction ≠ j) →
          t.llu.queue = if s.llu.queue.length < 8 then s.llu.queue ++ [q] else s.llu.queue))) ∧
  (∀ (s : State) (m : Telegram) (j locked : Nat) (st : PointStatus) (r : LiveRoute)
    (e : Option RouteEntry) (d : Option Direction) (c : Ctx),
    s.llu.rx = .telegram → m.fields.length ≤ 16 → m.check = telegramCheck m →
    loopMessage m = some (.ident .request j st locked) →
    (∀ x ∈ s.jcu.contexts, x.junction ≠ j) → s.jcu.contexts.length < 8 → s.jcu.live = some r →
    e = (r.entries.find? fun x => x.junction == j) →
    d = (if s.jcu.preselection.isSome then s.jcu.preselection else e.map fun x => x.direction) →
    c = { junction := j, tabled := true, direction := d
          source := if s.jcu.preselection.isSome then some .manual else e.map fun _ => .table
          state := if d.isSome then .requesting else .noRoute, attempt := if d.isSome then 1 else 0
          status := some st, requestSent := none, wasSet := false
          straightCap := (e.bind fun x => x.straightCap).getD r.header.straightCap
          divergingCap := (e.bind fun x => x.divergingCap).getD r.header.divergingCap
          unconfirmedCap := r.header.unconfirmed
          junctionLength := (e.bind fun x => x.junctionLength).getD r.header.junctionLength
          odoCreated := s.tdu.odometer, movingCreated := s.tdu.movingTime
          odoCleared := none, movingCleared := none, trainLength := none, retry := none } →
    (st = .fault ∨ ∃ x, st = .set x ∧ r.header.run = locked) →
    ∃ t x, ∃ a : Bool, exec (.telegramReceived m) s = .next t ∧ (a = true ↔ s.jcu.Alerts) ∧
      t = { s with llu := t.llu, jcu := t.jcu, snu := t.snu, cmn := t.cmn } ∧
      t.Signals ((s.snu.setWarning true).setAlertJunction a) ∧
      t.llu = { s.llu with
        rx := .hunt, front := LoopFront.start, good := bump s.llu.good
        queue := if d.isSome then s.llu.queue.filter fun q => q.junction != j else s.llu.queue } ∧
      t.jcu = { s.jcu with
        preselection := none, lastIdent := some (j, s.cmn.partTime), routeLamp := t.jcu.routeLamp
        contexts := s.jcu.contexts ++ [x] } ∧
      (∀ y, st = .set y → d = some y →
        x = { c with state := .set, wasSet := true } ∧ t.cmn = s.cmn) ∧
      (∀ k : Int, ((st = .fault ∧ k = 2) ∨ (∃ y, st = .set y ∧ d ≠ some y ∧ k = 1)) →
        x = { c with state := .mismatch } ∧ t.cmn = s.cmn.note
          { kind := .junctionMismatch, block := .jcu, junction := some j, value := some k })) ∧
  (∀ (s : State) (m : Telegram) (j locked : Nat) (st : PointStatus),
    s.llu.rx = .telegram → m.fields.length ≤ 16 → m.check = telegramCheck m →
    loopMessage m = some (.ident .request j st locked) →
    (∀ x ∈ s.jcu.contexts, x.junction ≠ j) → s.jcu.contexts.length < 8 → s.jcu.live = none →
    ∃ t, exec (.telegramReceived m) s = .next t ∧
      t = { s with llu := t.llu, jcu := t.jcu, snu := t.snu, cmn := t.cmn } ∧
      t.llu = { s.llu with rx := .hunt, front := LoopFront.start, good := bump s.llu.good } ∧
      t.cmn = (if st = .fault then
          (s.cmn.note { kind := .routeTableMissing, block := .jcu, junction := some j }).note
            { kind := .junctionMismatch, block := .jcu, junction := some j, value := some 2 }
        else s.cmn.note { kind := .routeTableMissing, block := .jcu, junction := some j }) ∧
      (st ≠ .fault → t.Signals s.snu) ∧
      (st = .fault → ∃ a : Bool, (a = true ↔ s.jcu.Alerts) ∧
        t.Signals ((s.snu.setWarning true).setAlertJunction a)) ∧
      t.jcu = { s.jcu with
        lastIdent := some (j, s.cmn.partTime), routeLamp := t.jcu.routeLamp
        contexts := s.jcu.contexts ++
          [{ junction := j, tabled := false, direction := none, source := none
             state := if st = .fault then .mismatch else .noRoute, attempt := 0
             status := some st, requestSent := none, wasSet := false, straightCap := 0
             divergingCap := 0, unconfirmedCap := 100, junctionLength := 30
             odoCreated := s.tdu.odometer, movingCreated := s.tdu.movingTime
             odoCleared := none, movingCleared := none, trainLength := none, retry := none }] }) ∧
  (∀ (s : State) (m : Telegram) (j locked : Nat) (st : PointStatus),
    s.llu.rx = .telegram → m.fields.length ≤ 16 → m.check = telegramCheck m →
    loopMessage m = some (.ident .request j st locked) →
    (∀ x ∈ s.jcu.contexts, x.junction ≠ j) → 8 ≤ s.jcu.contexts.length → s.jcu.overflow = false →
    ∃ t, exec (.telegramReceived m) s = .next t ∧
      t = { s with llu := t.llu, jcu := t.jcu, snu := t.snu, cmn := t.cmn } ∧
      t.llu = { s.llu with rx := .hunt, front := LoopFront.start, good := bump s.llu.good } ∧
      t.cmn = s.cmn.note { kind := .contextFull, block := .jcu, junction := some j } ∧
      t.Signals s.snu ∧
      t.jcu = { s.jcu with
        lastIdent := some (j, s.cmn.partTime), overflow := true, routeLamp := true }) ∧
  (∀ (s : State) (m : Telegram) (j locked : Nat) (st : PointStatus),
    s.llu.rx = .telegram → m.fields.length ≤ 16 → m.check = telegramCheck m →
    loopMessage m = some (.ident .request j st locked) →
    (∀ x ∈ s.jcu.contexts, x.junction ≠ j) → 8 ≤ s.jcu.contexts.length → s.jcu.overflow = true →
    exec (.telegramReceived m) s = .next { s with
      llu := { s.llu with rx := .hunt, front := LoopFront.start, good := bump s.llu.good }
      jcu := { s.jcu with lastIdent := some (j, s.cmn.partTime) } })

/-- A status update of an open context in a state other than PASSED. A SET status of its direction for our
run makes it SET with was-set raised; one of another direction for our run, or with no direction, and
FAULT, make it MISMATCH with its entry, unless it is there already; a SET status for another run, NONE and
MOVING change the last point status alone. In PASSED nothing but the last ident record changes (R122,
R125, R131). A context that leaves REQUESTING so withdraws its waiting request, and the queue else stays
(R127). Where the state of the context changes, the ROUTE lamp, the WARNING source and the claim of CAB_ALERT
follow the contexts, and else they stay (R136, R137). What the receiver has heard of HUNT at its start is log
entry 40. -/
def Obligations.IdentsUpdateContexts : Prop :=
  ∀ (s : State) (m : Telegram) (j locked : Nat) (st : PointStatus) (x : Ctx),
    s.llu.rx = .telegram → m.fields.length ≤ 16 → m.check = telegramCheck m →
    loopMessage m = some (.ident .request j st locked) → s.jcu.find j = some x →
    ∃ t, exec (.telegramReceived m) s = .next t ∧
      t = { s with llu := t.llu, jcu := t.jcu, snu := t.snu, cmn := t.cmn } ∧
      t.jcu = { s.jcu with
        contexts := t.jcu.contexts, lastIdent := some (j, s.cmn.partTime)
        routeLamp := t.jcu.routeLamp } ∧
      t.llu = { s.llu with
        rx := .hunt, front := LoopFront.start, good := bump s.llu.good, queue := t.llu.queue } ∧
      (x.state = .passed → t.jcu.contexts = s.jcu.contexts ∧ t.cmn = s.cmn ∧
        t.jcu.routeLamp = s.jcu.routeLamp ∧ t.snu = s.snu ∧ t.llu.queue = s.llu.queue) ∧
      (x.state ≠ .passed →
        (∀ d, st = .set d → s.jcu.live.map (fun r => r.header.run) = some locked →
          x.direction = some d →
          t.cmn = s.cmn ∧ t.Signals s.snu ∧
          t.llu.queue = (if x.state = .requesting then s.llu.queue.filter fun q => q.junction != j
            else s.llu.queue) ∧
          t.jcu.contexts = s.jcu.contexts.map fun y =>
            if y.junction = j then
              { y with status := some st, state := .set, wasSet := true, retry := none }
            else y) ∧
        (∀ v : Int, ((st = .fault ∧ v = 2) ∨
            (∃ d, st = .set d ∧ s.jcu.live.map (fun r => r.header.run) = some locked ∧
              x.direction ≠ some d ∧ v = 1)) →
          x.state ≠ .mismatch →
          t.cmn = s.cmn.note
            { kind := .junctionMismatch, block := .jcu, junction := some j, value := some v } ∧
          t.Signals s.snu ∧
          t.llu.queue = (if x.state = .requesting then s.llu.queue.filter fun q => q.junction != j
            else s.llu.queue) ∧
          t.jcu.contexts = s.jcu.contexts.map fun y =>
            if y.junction = j then { y with status := some st, state := .mismatch, retry := none }
            else y) ∧
        ((st = .none ∨ st = .moving ∨
            (∃ d, st = .set d ∧ s.jcu.live.map (fun r => r.header.run) ≠ some locked) ∨
            (x.state = .mismatch ∧ (st = .fault ∨ ∃ d, st = .set d ∧ x.direction ≠ some d))) →
          t.cmn = s.cmn ∧ t.jcu.routeLamp = s.jcu.routeLamp ∧ t.snu = s.snu ∧
          t.llu.queue = s.llu.queue ∧
          t.jcu.contexts = s.jcu.contexts.map fun y =>
            if y.junction = j then { y with status := some st } else y))

/-- An accepted CLEAR ident makes the context of its junction PASSED from every other state, with the readings
as they stand and the train length of the live Traction Profile, and stops its retry timer and withdraws its
waiting request; in PASSED, and for a junction with no context, it has no effect. No telegram changes a context
in PASSED (R132); the closure of R133 and the sent report of R129 are no telegrams. The ROUTE lamp, the WARNING
source and the claim of CAB_ALERT follow the contexts (R136, R137). Its cap is the unconfirmed speed, or the
cap of its route where it was SET (R124), which degraded mode lowers to the unconfirmed speed (R135). What the
receiver has heard of HUNT at its start is log entry 40. -/
def Obligations.ClearIdentPassesItsContext : Prop :=
  (∀ (s : State) (m : Telegram) (j locked : Nat) (st : PointStatus) (x : Ctx),
    s.llu.rx = .telegram → m.fields.length ≤ 16 → m.check = telegramCheck m →
    loopMessage m = some (.ident .clear j st locked) → s.jcu.find j = some x → x.state ≠ .passed →
    ∃ t, exec (.telegramReceived m) s = .next t ∧
      t = { s with llu := t.llu, jcu := t.jcu, snu := t.snu } ∧
      t.Signals s.snu ∧
      t.jcu = { s.jcu with
        routeLamp := t.jcu.routeLamp
        contexts := s.jcu.contexts.map fun y =>
          if y.junction = j then
            { y with
              state := .passed, odoCleared := some s.tdu.odometer
              movingCleared := some s.tdu.movingTime
              trainLength := s.tdu.live.map fun p => p.trainLength.toNat, retry := none }
          else y } ∧
      t.llu = { s.llu with
        rx := .hunt, front := LoopFront.start, good := bump s.llu.good
        queue := if x.state = .requesting then s.llu.queue.filter fun q => q.junction != j
          else s.llu.queue }) ∧
  (∀ (s : State) (m : Telegram) (j locked : Nat) (st : PointStatus),
    s.llu.rx = .telegram → m.fields.length ≤ 16 → m.check = telegramCheck m →
    loopMessage m = some (.ident .clear j st locked) →
    (s.jcu.find j = none ∨ ∃ x, s.jcu.find j = some x ∧ x.state = .passed) →
    exec (.telegramReceived m) s = .next { s with
      llu := { s.llu with rx := .hunt, front := LoopFront.start, good := bump s.llu.good } }) ∧
  (∀ (s t : State) (m : Telegram) (x : Ctx), x.state = .passed → s.jcu.find x.junction = some x →
    (s.jcu.contexts.map fun y => y.junction).Nodup → exec (.telegramReceived m) s = .next t →
    t.jcu.find x.junction = some x) ∧
  (∀ (x : Ctx), x.state = .passed →
    (x.wasSet = false → ∀ degraded, x.cap degraded = x.unconfirmedCap) ∧
    (x.wasSet = true → x.cap false =
        (if x.direction = some .straight then x.straightCap else x.divergingCap) ∧
      x.cap true =
        min (if x.direction = some .straight then x.straightCap else x.divergingCap) x.unconfirmedCap))

/-- A POINT_REPLY for our run and an open context: ACCEPTED in REQUESTING and UNANSWERED makes it ACCEPTED;
REFUSED there and in ACCEPTED makes it REFUSED with JUNCTION_REFUSED and its reason; in the other states it
changes nothing. A context that leaves REQUESTING so withdraws its waiting request, and the queue else stays
(R127). A reply for another run, or with no context, is counted as unmatched (R128). The ROUTE lamp, the
WARNING source and the claim of CAB_ALERT follow the contexts (R136, R137). The telegram counts as good and
the receiver is in HUNT (R110), with nothing heard there yet (log entry 40). -/
def Obligations.RepliesMoveTheirContext : Prop :=
  (∀ (s : State) (m : Telegram) (j run : Nat) (r : ReplyResult) (x : Ctx),
    s.llu.rx = .telegram → m.fields.length ≤ 16 → m.check = telegramCheck m →
    loopMessage m = some (.reply j run r) → s.jcu.live.map (fun l => l.header.run) = some run →
    s.jcu.find j = some x →
    ∃ t, exec (.telegramReceived m) s = .next t ∧
      t = { s with llu := t.llu, jcu := t.jcu, snu := t.snu, cmn := t.cmn } ∧
      t.llu = { s.llu with
        rx := .hunt, front := LoopFront.start, good := bump s.llu.good, queue := t.llu.queue } ∧
      t.jcu = { s.jcu with contexts := t.jcu.contexts, routeLamp := t.jcu.routeLamp } ∧
      (r = .accepted → (x.state = .requesting ∨ x.state = .unanswered) →
        t.cmn = s.cmn ∧ t.Signals s.snu ∧
        t.llu.queue = (if x.state = .requesting then s.llu.queue.filter fun q => q.junction != j
          else s.llu.queue) ∧
        t.jcu.contexts = s.jcu.contexts.map fun y =>
          if y.junction = j then { y with state := .accepted, retry := none } else y) ∧
      (∀ n, r = .refused n →
        (x.state = .requesting ∨ x.state = .unanswered ∨ x.state = .accepted) →
        t.cmn = s.cmn.note
          { kind := .junctionRefused, block := .jcu, junction := some j, value := some (n : Int) } ∧
        t.Signals s.snu ∧
        t.llu.queue = (if x.state = .requesting then s.llu.queue.filter fun q => q.junction != j
          else s.llu.queue) ∧
        t.jcu.contexts = s.jcu.contexts.map fun y =>
          if y.junction = j then { y with state := .refused, retry := none } else y) ∧
      ((x.state = .noRoute ∨ x.state = .refused ∨ x.state = .set ∨ x.state = .mismatch ∨
          x.state = .passed ∨ (r = .accepted ∧ x.state = .accepted)) →
        t.jcu = s.jcu ∧ t.cmn = s.cmn ∧ t.snu = s.snu ∧ t.llu.queue = s.llu.queue)) ∧
  (∀ (s : State) (m : Telegram) (j run : Nat) (r : ReplyResult),
    s.llu.rx = .telegram → m.fields.length ≤ 16 → m.check = telegramCheck m →
    loopMessage m = some (.reply j run r) →
    (s.jcu.live.map (fun l => l.header.run) ≠ some run ∨ s.jcu.find j = none) →
    exec (.telegramReceived m) s = .next { s with
      llu := { s.llu with rx := .hunt, front := LoopFront.start, good := bump s.llu.good }
      jcu := { s.jcu with unmatched := bump s.jcu.unmatched } })

/-! ### Stops, sound, attributes and reports -/

/-- REFRESH_TIMER_EXPIRY in REQUESTED sends a STOP_INDICATE and runs again for 1 s; INHIBIT_TIMER_EXPIRY
leaves the empty record in IDLE and sends nothing (R144, R145). STEP_END, once the step's duration has
passed, moves a player to its next step; after the last step a condition source starts again, the bell
starts again while its button is held and the key on, and else its request ends as a chime's does, and the
channel decides anew: silent where no other source takes part, WARNING at step 0 behind a bell where that
stands; before its time it does nothing (R154, R155; log entry 2). A tone output is low
while it sounds no tone; a tone begins with its high half, and each half-period of 1 / (2 f) ends with the
level turned over and takes the frequency that the table holds then (R150, R154; that it begins high is
log entry 33). The winner of a channel is the first source, by precedence, whose request stands and whose
pattern is not empty; while it plays already nothing changes, and else the source that played is preempted,
the winner starts at step 0, and the request of an event source so cut off is discarded and counted; an event
asked for while a source above it takes part is discarded as it is made; the five condition requests are
arbitrated as they change (R153, R154, R156; an empty pattern is log entry 35). What a player holds with no
winner is log entry 48. -/
def Obligations.StopTimersAndSoundSteps : Prop :=
  (∀ s : State, s.sru.record.state = .requested → s.sru.refreshTimer = some 0 →
    ∃ t, exec .refreshTimerExpiry s = .next t ∧
      t = { s with bqm := t.bqm, sru := t.sru, cmn := t.cmn } ∧
      t.sru = { s.sru with
        refreshTimer := some 1000
        seq := if s.bqm.firstFree.isSome then s.sru.seq + 1 else s.sru.seq } ∧
      ∃ u, u = s.sendOwn 4 (ownFrame s.own 63 0x31 4 s.sru.seq
          ([1] ++ oct2 s.sru.record.doors.toNat ++ octFlag s.sru.record.accessible)) ∧
        t.bqm = u.bqm ∧ t.cmn = u.cmn) ∧
  (∀ s : State, s.sru.record.state = .inhibit → s.sru.inhibitTimer = some 0 →
    exec .inhibitTimerExpiry s = .next { s with
      sru := { s.sru with
        inhibitTimer := none
        record := { state := .idle, doors := 0, accessible := false, firstPress := none
                    presses := 0 } } }) ∧
  (∀ (s : State) (c : Channel) (x : Source) (y : Step), (s.snu.player c).playing = some x →
    (s.snu.patternOf x)[(s.snu.player c).step]? = some y →
    (y.duration * 10 ≤ (s.snu.player c).elapsed →
      (s.snu.player c).step + 1 < (s.snu.patternOf x).length →
      exec (.stepEnd c) s = .next { s with
        snu := s.snu.setPlayer c { s.snu.player c with
          step := (s.snu.player c).step + 1, elapsed := 0 } }) ∧
    (y.duration * 10 ≤ (s.snu.player c).elapsed →
      (s.snu.player c).step + 1 = (s.snu.patternOf x).length →
      (x = .horn ∨ x = .emergency ∨ x = .warning ∨ x = .cabAlert ∨
        (x = .bell ∧ s.level .bell = true ∧ s.addressed = true ∧ s.level .key = true)) →
      exec (.stepEnd c) s = .next { s with
        snu := s.snu.setPlayer c { s.snu.player c with step := 0, elapsed := 0 } }) ∧
    ((s.snu.player c).elapsed < y.duration * 10 → exec (.stepEnd c) s = .next s)) ∧
  (∀ (s : State) (y : Step), s.snu.interior.playing = some .chime →
    (s.snu.patternOf .chime)[s.snu.interior.step]? = some y →
    y.duration * 10 ≤ s.snu.interior.elapsed →
    s.snu.interior.step + 1 = (s.snu.patternOf .chime).length →
    s.snu.alertRole = false → s.snu.alertJunction = false → s.snu.accessChime = false →
    s.snu.chime = true →
    exec (.stepEnd .interior) s = .next { s with
      snu := { s.snu with
        chime := false
        interior := { s.snu.interior with playing := none, step := 0, elapsed := 0 } } }) ∧
  (∀ (s : State) (c : Channel) (x : Source) (y : Step), (s.snu.player c).playing = some x →
    (s.snu.patternOf x)[(s.snu.player c).step]? = some y →
    y.duration * 10 ≤ (s.snu.player c).elapsed →
    (s.snu.player c).step + 1 = (s.snu.patternOf x).length →
    (x = .accessChime → exec (.stepEnd c) s = .next { s with
      snu := Snu.arbitrate { s.snu with accessChime := false } c }) ∧
    (x = .chime → exec (.stepEnd c) s = .next { s with
      snu := Snu.arbitrate { s.snu with chime := false } c }) ∧
    (x = .bell → (s.level .bell = false ∨ s.addressed = false ∨ s.level .key = false) →
      exec (.stepEnd c) s = .next { s with
        snu := Snu.arbitrate { s.snu with bell := false } c })) ∧
  (∀ (s : State) (y : Step), s.snu.exterior.playing = some .bell →
    (s.snu.patternOf .bell)[s.snu.exterior.step]? = some y →
    y.duration * 10 ≤ s.snu.exterior.elapsed →
    s.snu.exterior.step + 1 = (s.snu.patternOf .bell).length →
    (s.level .bell = false ∨ s.addressed = false ∨ s.level .key = false) →
    s.snu.horn = false → s.snu.emergency = false →
    exec (.stepEnd .exterior) s = .next { s with
      snu := { s.snu with
        bell := false
        exterior := { s.snu.exterior with
          playing := if s.snu.warning = true ∧ s.snu.patternOf .warning ≠ [] then some .warning else none
          step := 0, elapsed := 0 } } }) ∧
  (∀ (u : Snu) (c : Channel),
    (u.soundingTone c = none → u.toneLevel c = false ∧ u.toneOutput c = none ∧
      u.clock.toneLevel c = false) ∧
    (∀ t, u.soundingTone c = some t →
      ((∀ w, (u.player c).wave = some w → w.tone ≠ t) →
        u.toneLevel c = true ∧ u.toneOutput c = some (u.tones.get t 0)) ∧
      (∀ w, (u.player c).wave = some w → w.tone = t →
        u.toneLevel c = w.high ∧ u.toneOutput c = some w.hz ∧
        (w.phase + 2 * w.hz < 1000000 →
          u.clock.toneLevel c = w.high ∧ u.clock.toneOutput c = some w.hz) ∧
        (1000000 ≤ w.phase + 2 * w.hz →
          u.clock.toneLevel c = !w.high ∧ u.clock.toneOutput c = some (u.tones.get t 0))))) ∧
  (∀ (u : Snu) (c : Channel) (w k : Option Source),
    w = ((match c with
        | .exterior => [Source.horn, .emergency, .bell, .warning]
        | .interior => [Source.cabAlert, .accessChime, .chime]).find? fun x =>
      u.requested x && !(u.patternOf x).isEmpty) →
    k = (u.player c).playing →
    (w = k → u.arbitrate c = u) ∧
    (w ≠ k → u.arbitrate c = Snu.setPlayer { u with
        accessChime := u.accessChime && !decide (k = some .accessChime)
        chime := u.chime && !decide (k = some .chime)
        discarded := if (k = some .accessChime ∧ u.accessChime = true) ∨
            (k = some .chime ∧ u.chime = true) then bump u.discarded
          else u.discarded } c
      { u.player c with playing := w, step := 0, elapsed := 0 })) ∧
  (∀ (u : Snu) (x : Source) (cover : Bool), (x = .accessChime ∨ x = .chime) →
    cover = ((u.alertRole || u.alertJunction) && !(u.patternOf .cabAlert).isEmpty ||
      (decide (x = .chime) && u.accessChime && !(u.patternOf .accessChime).isEmpty)) →
    ((u.requested x = true ∨ u.patternOf x = []) → u.requestEvent x = u) ∧
    (u.requested x = false → u.patternOf x ≠ [] →
      (cover = true → u.requestEvent x = { u with discarded := bump u.discarded }) ∧
      (cover = false → u.requestEvent x = Snu.arbitrate
        (if x = .chime then { u with chime := true } else { u with accessChime := true })
        .interior))) ∧
  (∀ (u : Snu) (on : Bool),
    u.setHorn on = Snu.arbitrate { u with horn := on } .exterior ∧
    u.setEmergency on = Snu.arbitrate { u with emergency := on } .exterior ∧
    u.setWarning on = Snu.arbitrate { u with warning := on } .exterior ∧
    u.setAlertRole on = Snu.arbitrate { u with alertRole := on } .interior ∧
    u.setAlertJunction on = Snu.arbitrate { u with alertJunction := on } .interior)

/-- An event counted on an attribute raises its raw count, takes n down by the penalty to at least 1 and the
worst value with it, starts the recovery timer afresh, and trips a lowered flag where the threshold is not 0
and n has come to it or below: ATTRIBUTE_TRIPPED is logged, and the FAULT lamp is lit while LOOP_LINK or
SPEED_SOURCE is tripped (R162, R163, R164). RECOVERY_TIMER_EXPIRY raises n by one to at most 100, with the
timer running again below 100 and stopped at 100; a tripped attribute whose n reaches its threshold and 5 more
recovers with ATTRIBUTE_RECOVERED, its id the value, the lamp following, and otherwise nothing is logged (R162,
R163, R164, R168). REPORT_TIMER_EXPIRY runs again for the interval and sends a STATUS_REPORT of priority 2 to
the manager, with the fields of R182 as they stand (R177, R182). Neither expiry does anything while its timer
has time left, as where an event or a SET_REPORT taken just before has restarted it (R168, R177; log entry 2).
SET_MANAGER writes the manager address, and SET_REPORT the interval, clamped to 100 to 5000 unless it is 0, and
starts the timer anew (R176, R177; the count before the REPLY is log entry 13). -/
def Obligations.AttributesRecoverAndReportsAreSent : Prop :=
  (∀ (s : State) (o : Nat → Byte) (w : Nat → List Byte) (g : Bool → Byte), (∀ n, o n = BitVec.ofNat 8 n) →
    (∀ n, w n = [o n, o (n / 256)]) → (∀ x, g x = if x then 1 else 0) →
    ∃ (traction stop mask : Nat) (role : Byte) (ports : List Byte), s.reportPayload =
        [role, g s.cru.releasing, o traction] ++
        w (BitVec.ofInt 16 s.tdu.d).toNat ++ w (BitVec.ofInt 16 s.tdu.record.c).toNat ++
        w (s.tdu.facts.v.elim 65535 Int.toNat) ++ w (BitVec.ofInt 16 s.tdu.f).toNat ++
        [g s.jcu.overflow,
          o (match s.jcu.preselection with
            | none => 255 | some .left => 1 | some .straight => 2 | some .right => 3), o stop] ++
        ports ++ [o mask] ++ w s.cmn.log.total ++ [o s.jcu.contexts.length] ++
        (s.jcu.contexts.flatMap fun x => w x.junction ++
          [o (match x.state with
            | .noRoute => 1 | .requesting => 2 | .accepted => 3 | .refused => 4 | .unanswered => 5
            | .set => 6 | .mismatch => 7 | .passed => 8)]) ∧
      role = (match s.cru.role with
        | .inactive => 1 | .passive => 2 | .claiming => 3 | .active => 4 | .blocked => 5
        | .conflict => 6) ∧
      traction = (match s.tdu.state with | .off => 1 | .run => 2 | .hold => 3 | .emergency => 4) ∧
      stop = (match s.sru.record.state with
        | .idle => 0 | .requested => 1 | .serving => 2 | .inhibit => 0) ∧
      (∀ a, mask.testBit (attrIndex a) = s.cmn.tripped a) ∧ mask < 256 ∧
      ports = [Port.A, .B].flatMap fun p =>
        [o (match (s.port p).rx with | .down => 1 | .hunt => 2 | .frame _ => 3),
          o (match (s.port p).mode with
            | .normal => 1 | .localLoopback => 2 | .remoteLoopback => 3 | .disabled => 4),
          o ((if (s.port p).latches.check then 1 else 0) + (if (s.port p).latches.length then 2 else 0) +
            (if (s.port p).latches.syncLoss then 4 else 0) +
            (if (s.port p).latches.downSeen then 8 else 0) +
            (if (s.port p).latches.overrun then 16 else 0))]) ∧
  (∀ (s : State) (a : Attr) (x : AttrState) (g : AttrConfig), x = s.cmn.attr a →
    g = s.cmn.attrConfig a → x.recovery = some 0 →
    ∃ t, exec (.recoveryTimerExpiry a) s = .next t ∧ t = { s with cmn := t.cmn } ∧
      t.cmn.config = s.cmn.config ∧ t.cmn.partTime = s.cmn.partTime ∧
      (∀ b, b ≠ a → t.cmn.attr b = s.cmn.attr b) ∧
      t.cmn.attr a =
        { n := min 100 (x.n + 1), worst := x.worst, raw := x.raw
          tripped := x.tripped && !decide (g.threshold + 5 ≤ min 100 (x.n + 1))
          recovery := if min 100 (x.n + 1) < 100 then some (g.interval * 1000) else none } ∧
      t.cmn.log = (if x.tripped = true ∧ g.threshold + 5 ≤ min 100 (x.n + 1) then
          s.cmn.log.append s.cmn.partTime
            { kind := .attributeRecovered, block := .cmn, value := some (attrIndex a + 1 : Nat) }
        else s.cmn.log) ∧
      t.cmn.faultLamp = (if x.tripped = true ∧ g.threshold + 5 ≤ min 100 (x.n + 1) then
          t.cmn.tripped .loopLink || t.cmn.tripped .speedSource
        else s.cmn.faultLamp)) ∧
  (∀ (c : Cmn) (a : Attr) (x : AttrState) (g : AttrConfig) (n : Nat) (trips : Bool), x = c.attr a →
    g = c.attrConfig a → n = max 1 (x.n - g.penalty) →
    trips = (!x.tripped && decide (g.threshold ≠ 0 ∧ n ≤ g.threshold)) →
    ∃ d, c.count a = d ∧ d.config = c.config ∧ d.partTime = c.partTime ∧ d.micros = c.micros ∧
      (∀ b, b ≠ a → d.attr b = c.attr b) ∧
      d.attr a =
        { n := n, worst := min x.worst n, raw := if x.raw < 4294967295 then x.raw + 1 else x.raw
          tripped := x.tripped || trips, recovery := some (g.interval * 1000) } ∧
      d.log = (if trips then
          c.log.append c.partTime
            { kind := .attributeTripped, block := .cmn, value := some (attrIndex a + 1 : Nat) }
        else c.log) ∧
      d.faultLamp = (if trips then d.tripped .loopLink || d.tripped .speedSource else c.faultLamp)) ∧
  (∀ s : State, s.mgu.reportTimer = some 0 →
    ∃ t, exec .reportTimerExpiry s = .next t ∧
      t = { s with bqm := t.bqm, mgu := t.mgu, cmn := t.cmn } ∧
      t.mgu = { s.mgu with
        reportTimer := some s.mgu.interval
        reportSeq := if s.bqm.firstFree.isSome then s.mgu.reportSeq + 1 else s.mgu.reportSeq } ∧
      ∃ u, u = s.sendOwn 2 (ownFrame s.own (s.mgu.manager.setWidth 8) 0x72 2 s.mgu.reportSeq
          s.reportPayload) ∧
        t.bqm = u.bqm ∧ t.cmn = u.cmn) ∧
  (∀ (s : State) (a : Attr) (n : Nat), (s.cmn.attr a).recovery = some (n + 1) →
    exec (.recoveryTimerExpiry a) s = .next s) ∧
  (∀ (s : State) (n : Nat), s.mgu.reportTimer = some (n + 1) →
    exec .reportTimerExpiry s = .next s) ∧
  (∀ (s : State) (b : Nat) (f : Frame) (a : Byte), s.Commanded b f → f.payload = [8, a] →
    exec .setManager s = .next (if a.toNat < 63 then
        { s.takeHead with mgu := { s.mgu with manager := a.setWidth 6 } }.answered b f (Answer.ok [])
      else s.takeHead.answered b f { status := 3, reason := 4, figure := 0, data := [] })) ∧
  (∀ (s : State) (b : Nat) (f : Frame) (x y : Byte) (n i : Nat), s.Commanded b f →
    f.payload = [9, x, y] → n = x.toNat + 256 * y.toNat →
    i = (if n = 0 then 0 else max 100 (min 5000 n)) →
    exec .setReport s = .next ({ s.takeHead with
      mgu := { s.mgu with
        interval := i
        reportTimer := if i ≠ 0 ∧ s.own ≠ broadcast then some i else none } }.answered b f
      (Answer.clamped (if i = n then 0 else 1) [])))

/-! ### The commands of the vehicle control unit -/

/-- The judgements of a CONTROL frame, on every row that takes one: a sender other than the manager is
refused with NOT_MANAGER, a code outside the eleven with UNKNOWN_COMMAND, a payload of the wrong length
with LENGTH, in that order and with no other effect than the count of refused commands and the REPLY; no
frame is taken while a reset is pending (R170, R178, R183). A WRITE_TABLE of a table that is not one of the
twelve it writes, and a COMMIT of another than ROUTE and PROFILE, is refused with BAD_TABLE; a CLEAR of another
group than the four, and a SET_PORT_MODE of another action than the seven, with BAD_INDEX (R171, R172, R174,
R175; the figure there is a free value, log entry 10). That a row takes only a frame that calls for it,
and changes nothing otherwise, is the model's choice (log entries 1 and 8); that the count precedes the REPLY
and the release follows it is log entry 13; an empty payload, whose REPLY repeats a free code octet (log
entry 9), is left out. -/
def Obligations.ControlFramesAreJudged : Prop :=
  (∀ (row : Instr) (s : State) (b : Nat) (f : Frame), row ∈ controlRows →
      s.headOfKind kindControl = some (b, f) →
      (s.mgu.pendingReset.isSome = true → exec row s = .next s) ∧
      (rowOf f.payload ≠ row → exec row s = .next s) ∧
      (s.mgu.pendingReset = none → rowOf f.payload = row → f.payload ≠ [] →
        (addrOf f.src ≠ s.mgu.manager →
          exec row s = .next (s.takeHead.answered b f
            { status := 3, reason := 1, figure := 0, data := [] })) ∧
        (addrOf f.src = s.mgu.manager →
          ((num1 f.payload 0 = 0 ∨ 11 < num1 f.payload 0) →
            row = .unknownCommand ∧
            exec row s = .next (s.takeHead.answered b f
              { status := 3, reason := 7, figure := 0, data := [] })) ∧
          (1 ≤ num1 f.payload 0 → num1 f.payload 0 ≤ 11 → lengthFits f.payload = false →
            exec row s = .next (s.takeHead.answered b f
              { status := 3, reason := 8, figure := 0, data := [] }))))) ∧
  (∀ (s : State) (b : Nat) (f : Frame) (x : Byte) (l : List Byte), s.Commanded b f →
    ((f.payload = [2, x] ++ l ∧ 3 ≤ l.length ∧ (x = 0 ∨ 12 < x.toNat)) ∨
      (f.payload = [3, x] ∧ x ≠ 7 ∧ x ≠ 8)) →
    rowOf f.payload = .unknownCommand ∧
    exec .unknownCommand s = .next (s.takeHead.answered b f
      { status := 3, reason := 2, figure := 0, data := [] })) ∧
  (∀ (s : State) (b : Nat) (f : Frame) (x n : Byte), s.Commanded b f →
    ((f.payload = [6, x] ∧ (x = 0 ∨ 4 < x.toNat)) ∨
      (f.payload = [7, n, x] ∧ (x = 0 ∨ 7 < x.toNat))) →
    rowOf f.payload = .unknownCommand ∧
    ∃ g : Half, exec .unknownCommand s = .next ({ s.takeHead with free := s.free + 1 }.answered b f
      { status := 3, reason := 3, figure := g.toNat, data := [] }))

/-- READ_TABLE answers with the index, the count and the octets of the entries, READ_STATE with the fields
of its item, READ_LOG with the newest entries, at most 8, newest first; nothing else changes. A table that
is not there is BAD_TABLE, an item that is not there BAD_INDEX; a range that goes beyond the table is
BAD_INDEX with the first index outside, and one whose REPLY would exceed 240 octets LENGTH (R170, R171, R173,
R183; the figure and the order of these two are log entry 28, BAD_TABLE for a code outside 1..14 log entry 49,
the release after the REPLY log entry 13). The
octets of every entry of every table, and of a log entry, are those of R183, an absent log value all ones (log
entry 27), and every enumeration goes by its code of R181. The octets of every item of READ_STATE, with its
indices, are R173's general words as log entry 17 reads them, the code of the loop-code setting NONE and the
flags of the period record log entry 36, the own-frame-failure counter log entry 44. -/
def Obligations.ReadsAnswerAndChangeNothing : Prop :=
  (∀ (s : State) (b : Nat) (f : Frame) (t i j n : Byte) (l : List (List Byte)), s.Commanded b f →
    f.payload = [1, t, i, j, n] → s.tableReadable t.toNat = true →
    (List.range n.toNat).map (fun k => s.tableEntry t.toNat (i.toNat + 256 * j.toNat + k)) =
      l.map some → l.flatten.length ≤ 232 →
    exec .readTable s = .next (s.takeHead.answered b f
      { status := 1, reason := 0, figure := 0, data := [i, j, n] ++ l.flatten })) ∧
  (∀ (s : State) (b : Nat) (f : Frame) (t i j n : Byte) (l : List (List Byte)), s.Commanded b f →
    f.payload = [1, t, i, j, n] → s.tableReadable t.toNat = true →
    (List.range n.toNat).map (fun k => s.tableEntry t.toNat (i.toNat + 256 * j.toNat + k)) =
      l.map some → 232 < l.flatten.length →
    exec .readTable s = .next (s.takeHead.answered b f
      { status := 3, reason := 8, figure := 0, data := [] })) ∧
  (∀ (s : State) (b : Nat) (f : Frame) (t i j n : Byte) (k : Nat), s.Commanded b f →
    f.payload = [1, t, i, j, n] → s.tableReadable t.toNat = true → k < n.toNat →
    s.tableEntry t.toNat (i.toNat + 256 * j.toNat + k) = none →
    (∀ m, m < k → (s.tableEntry t.toNat (i.toNat + 256 * j.toNat + m)).isSome = true) →
    exec .readTable s = .next (s.takeHead.answered b f
      { status := 3, reason := 3, figure := i.toNat + 256 * j.toNat + k, data := [] })) ∧
  (∀ (s : State) (b : Nat) (f : Frame) (t i j n : Byte), s.Commanded b f →
    f.payload = [1, t, i, j, n] →
    (t = 0 ∨ 14 < t.toNat ∨ (t = 13 ∧ s.jcu.live = none) ∨ (t = 14 ∧ s.tdu.live = none)) →
    exec .readTable s = .next (s.takeHead.answered b f
      { status := 3, reason := 2, figure := 0, data := [] })) ∧
  (∀ (s : State) (i : Nat), i < 63 →
    s.tableEntry 1 i = some
      [BitVec.ofNat 8 (codeNodeRole (s.fsw.node (BitVec.ofNat 6 i)).role),
       BitVec.ofNat 8 ((s.fsw.node (BitVec.ofNat 6 i)).priority.getD 255),
       BitVec.ofNat 8 (((s.fsw.side (BitVec.ofNat 6 i)).map codePort).getD 255),
       BitVec.ofNat 8 (s.fsw.node (BitVec.ofNat 6 i)).age]) ∧
  (∀ (s : State) (n : Nat), s.tableReadable n = true ↔
    (1 ≤ n ∧ n ≤ 12) ∨ (n = 13 ∧ s.jcu.live.isSome = true) ∨ (n = 14 ∧ s.tdu.live.isSome = true)) ∧
  (∀ (s : State) (o : Nat → Byte) (w : Nat → List Byte), (∀ n, o n = BitVec.ofNat 8 n) →
    (∀ n, w n = [o n, o (n / 256)]) →
    (∀ i, i < 256 → ∀ e, e = s.fsw.classes.get i (ClassEntry.plain .drop .drop) →
      s.tableEntry 2 i = some [o (codeAction e.active), o (codeAction e.passive), o (e.priority.getD 255),
        o e.maxPayload]) ∧
    (∀ i, i < 8 → s.tableEntry 3 i = some [o (s.fsw.tagMap.get i 0)]) ∧
    (∀ i, i < 4 → s.tableEntry 4 i = some [o (s.fsw.weights.get i 0)]) ∧
    (∀ p c, c = (s.bqm.egress.get p).config →
      s.tableEntry 5 (codePort p) = some ([o c.queueCount, o c.defaultPriority, if c.autoloop then 1 else 0] ++
        ([0, 1, 2, 3].map fun n => o (codeQueueType ((s.bqm.egress.get p).queueConfig n).type)) ++
        ([0, 1, 2, 3].map fun n => o ((s.bqm.egress.get p).queueConfig n).weight) ++
        ([0, 1, 2, 3].map fun n => o ((s.bqm.egress.get p).queueConfig n).depth))) ∧
    (∀ i, i < 4 → s.tableEntry 6 (i + 1) = some
      ([0, 1, 2, 3, 4, 5, 6, 7].map fun n => o ((s.bqm.maps.get i (Tab.fill 8 0)).get n 0))) ∧
    (∀ h : RouteHeader, ∀ l, l = w h.run ++ w h.line ++ w h.unconfirmed ++ w h.straightCap ++
        w h.divergingCap ++ [o h.junctionLength] ++ w h.count →
      (h = s.jcu.shadowHeader → s.tableEntry 7 0 = some l) ∧
      (∀ r, s.jcu.live = some r → h = r.header → s.tableEntry 13 0 = some l)) ∧
    (∀ e : RouteEntry, ∀ i l, l = w e.junction ++ [o (codeDirection e.direction)] ++
        w (e.straightCap.getD 65535) ++ w (e.divergingCap.getD 65535) ++ [o (e.junctionLength.getD 255)] →
      (i < 256 → e = s.jcu.shadow.get i e → s.tableEntry 7 (i + 1) = some l) ∧
      (∀ r, s.jcu.live = some r → r.entries[i]? = some e → s.tableEntry 13 (i + 1) = some l)) ∧
    (∀ p : Profile, ∀ i v, [p.hb, p.hn1, p.hn2, p.hp, p.maxSpeed, p.taperBand, p.overspeedMargin,
        p.overspeedBrake, p.holdBrake, p.blindLimit, p.rateLimit, p.jerk, p.slipThreshold, p.adhesionCut,
        p.adhesionRestore, p.deadmanGrace, p.trainLength, p.doorCount, p.vehicleNumber][i]? = some v →
      (p = s.tdu.shadow → s.tableEntry 8 (i + 1) = some (w (BitVec.ofInt 16 v).toNat)) ∧
      (s.tdu.live = some p → s.tableEntry 14 (i + 1) = some (w (BitVec.ofInt 16 v).toNat))) ∧
    (∀ i l, i < 16 → l = s.snu.patterns.get i [] → s.tableEntry 9 i = some
      ([o l.length] ++ l.flatMap fun x => [o (x.tone.getD 255), o x.duration])) ∧
    (∀ i, i < 8 → s.tableEntry 10 i = some (w (s.snu.tones.get i 0))) ∧
    s.tableEntry 11 0 = some ([0, 1, 2, 3, 4, 5, 6].map fun n => o (s.snu.map.get n 0)) ∧
    (∀ a g, g = s.cmn.attrConfig a → s.tableEntry 12 (attrIndex a + 1) = some
      ([o g.threshold, o g.penalty, o g.interval] ++ w g.testLimit)) ∧
    (∀ i, (63 ≤ i → s.tableEntry 1 i = none) ∧ (256 ≤ i → s.tableEntry 2 i = none) ∧
      (8 ≤ i → s.tableEntry 3 i = none) ∧ (4 ≤ i → s.tableEntry 4 i = none) ∧
      ((i = 0 ∨ 2 < i) → s.tableEntry 5 i = none) ∧ ((i = 0 ∨ 4 < i) → s.tableEntry 6 i = none) ∧
      (256 < i → s.tableEntry 7 i = none) ∧ ((i = 0 ∨ 19 < i) → s.tableEntry 8 i = none) ∧
      (16 ≤ i → s.tableEntry 9 i = none) ∧ (8 ≤ i → s.tableEntry 10 i = none) ∧
      (i ≠ 0 → s.tableEntry 11 i = none) ∧ ((i = 0 ∨ 8 < i) → s.tableEntry 12 i = none) ∧
      (∀ r, s.jcu.live = some r → r.entries.length < i → s.tableEntry 13 i = none) ∧
      ((i = 0 ∨ 19 < i) → s.tableEntry 14 i = none))) ∧
  (∀ (s : State) (o : Nat → Byte) (w d : Nat → List Byte) (g : Bool → Byte),
    (∀ n, o n = BitVec.ofNat 8 n) → (∀ n, w n = [o n, o (n / 256)]) →
    (∀ n, d n = [o n, o (n / 256), o (n / 65536), o (n / 16777216)]) →
    (∀ x, g x = if x then 1 else 0) →
    (∀ p, s.readItem 1 (codePort p) = some
      ([o (codeRx (s.port p).rx), o (codeTx (s.port p).tx), o (codeMode (s.port p).mode),
          o (codeLoopCode (s.port p).loopCode), g (s.port p).latches.check, g (s.port p).latches.length,
          g (s.port p).latches.syncLoss, g (s.port p).latches.downSeen, g (s.port p).latches.overrun] ++
        d (s.port p).good ++ d (s.port p).discarded ++ d (s.port p).sent ++
        d (s.fsw.stats.get p).malformed ++ d (s.fsw.stats.get p).ownSource ++
        d (s.fsw.stats.get p).refused ++ d (s.fsw.stats.get p).filtered)) ∧
    s.readItem 2 0 = some
      ([o s.bqm.freeCount] ++
        ([Port.A, .B].flatMap fun p => [0, 1, 2, 3].map fun n =>
          o ((s.bqm.egress.get p).queue n).entries.length) ++
        ([Port.A, .B].flatMap fun p => [0, 1, 2, 3].flatMap fun n =>
          d ((s.bqm.egress.get p).queue n).drops) ++
        [o s.bqm.ldq.length] ++ d s.bqm.localDrops ++ d s.bqm.ownFailures) ∧
    s.readItem 3 0 = some
      ([o (codeRole s.cru.role), g s.cru.releasing, o s.cru.cabs.length] ++
        (s.cru.cabs.flatMap fun e => [o e.cab.toNat, o (codeAnnounced e.role)] ++ d e.time.toNat) ++
        d s.cru.rejected) ∧
    s.readItem 4 0 = some
      (w (s.ciu.handle.getD 65535) ++ [g s.ciu.fault] ++
        [Input.key, .deadman, .estop, .doorRelease, .horn, .bell, .routeLeft, .routeStraight,
          .routeRight].map fun i => g (s.level i)) ∧
    s.readItem 5 0 = some
      ([o (codeTraction s.tdu.state)] ++ w (BitVec.ofInt 16 s.tdu.d).toNat ++
        w (BitVec.ofInt 16 s.tdu.r).toNat ++ w (BitVec.ofInt 16 s.tdu.f).toNat ++
        [g s.tdu.slip, s.tdu.seq] ++ d (s.tdu.periodTimer.getD 4294967295) ++
        w (BitVec.ofInt 16 s.tdu.record.dh).toNat ++ w (BitVec.ofInt 16 s.tdu.record.dt).toNat ++
        w (BitVec.ofInt 16 s.tdu.record.c).toNat ++
        [o ((if s.tdu.record.flags.emergency then 1 else 0) + (if s.tdu.record.flags.hold then 2 else 0) +
          (if s.tdu.record.flags.blind then 4 else 0) + (if s.tdu.record.flags.sand then 8 else 0))] ++
        d (s.tdu.grace.getD 4294967295) ++ [g s.tdu.facts.v.isSome] ++
        w ((s.tdu.facts.v.map Int.toNat).getD 65535) ++ w ((s.tdu.facts.s.map Int.toNat).getD 65535) ++
        d s.tdu.movingTime.toNat ++ d s.tdu.odometer.toNat ++ d s.tdu.rejected) ∧
    (∀ n, n < 6 →
      (s.tdu.slots.get n none = none →
        s.readItem 6 (n + 1) = some (List.replicate 10 255 ++ [0, g s.tdu.inverterOverflow])) ∧
      (∀ x, s.tdu.slots.get n none = some x → s.readItem 6 (n + 1) = some
        ([o x.node.toNat] ++ w (BitVec.ofInt 16 x.speed).toNat ++ w (BitVec.ofInt 16 x.effort).toNat ++
          [o (codeInverter x.state)] ++ d x.time.toNat ++
          [g (decide ((s.cmn.partTime - x.time).toNat < 100)), g s.tdu.inverterOverflow]))) ∧
    s.readItem 7 0 = some
      ([g s.llu.carrier, o (codeLoopRx s.llu.rx), o s.llu.queue.length] ++
        (s.llu.queue.flatMap fun q => w q.junction ++ [o (codeDirection q.direction), o q.attempt]) ++
        s.llu.sending.elim (List.replicate 4 255) (fun q => w q.request.junction ++
          [o (codeDirection q.request.direction), o q.request.attempt]) ++
        s.llu.test.elim (List.replicate 28 255) (fun x => w x.loop ++ [o (if x.inSync then 2 else 1)] ++
          d x.checked ++ d x.errors ++ [o x.delay.length] ++ d (packBits x.delay) ++
          [o x.history.length] ++ w (packBits x.history) ++ [o x.window.length] ++
          d (packBits x.window) ++ d (packBits x.window / 4294967296)) ++
        s.llu.lastTest.elim (List.replicate 15 255) (fun r => [o (if r.pass then 1 else 2)] ++ w r.loop ++
          d r.checked ++ d r.errors ++ d r.time.toNat) ++
        d s.llu.good ++ d s.llu.checkErrors ++ d s.llu.lengthErrors ++ d s.llu.rejected ++
        d s.llu.carrierDiscards ++ d s.llu.sent ++ d s.llu.cutOff) ∧
    s.readItem 8 0 = some
      ([o s.jcu.contexts.length, g s.jcu.overflow, o ((s.jcu.preselection.map codeDirection).getD 255)] ++
        d s.jcu.unmatched) ∧
    (∀ n x, s.jcu.contexts[n]? = some x → s.readItem 8 (n + 1) = some
      (w x.junction ++ [o ((x.direction.map codeDirection).getD 255),
          o ((x.source.map codeDirSource).getD 255), o (codeCtx x.state), o x.attempt,
          o ((x.status.map codePointStatus).getD 255)] ++
        d ((x.requestSent.map fun y => y.toNat).getD 4294967295) ++ [g x.wasSet] ++ w x.straightCap ++
        w x.divergingCap ++ [o x.unconfirmedCap, o x.junctionLength] ++ d x.odoCreated.toNat ++
        d x.movingCreated.toNat ++ d ((x.odoCleared.map fun y => y.toNat).getD 4294967295) ++
        d ((x.movingCleared.map fun y => y.toNat).getD 4294967295) ++ [o (x.trainLength.getD 255)] ++
        d (x.retry.getD 4294967295))) ∧
    s.readItem 9 0 = some
      ([o (codeStop s.sru.record.state)] ++ w s.sru.record.doors.toNat ++ [g s.sru.record.accessible] ++
        d ((s.sru.record.firstPress.map fun y => y.toNat).getD 4294967295) ++ [o s.sru.record.presses] ++
        d (s.sru.inhibitTimer.getD 4294967295) ++ d (s.sru.refreshTimer.getD 4294967295) ++
        d s.sru.rejected) ∧
    s.readItem 10 0 = some
      (([Channel.exterior, .interior].flatMap fun c =>
          [o (((s.snu.player c).playing.map fun x => x.index + 1).getD 255),
            o (((s.snu.player c).playing.map fun _ => (s.snu.player c).step).getD 255)] ++
          d ((((s.snu.player c).playing.bind fun x => (s.snu.patternOf x)[(s.snu.player c).step]?).map
            fun y => y.duration * 10 - (s.snu.player c).elapsed).getD 4294967295)) ++
        [g s.snu.horn, g s.snu.emergency, g s.snu.bell, g s.snu.warning,
          g (s.snu.alertRole || s.snu.alertJunction), g s.snu.alertRole, g s.snu.alertJunction,
          g s.snu.accessChime, g s.snu.chime] ++ d s.snu.discarded) ∧
    (∀ a, s.readItem 11 (attrIndex a + 1) = some
      ([o (s.cmn.attr a).n, o (s.cmn.attr a).worst] ++ d (s.cmn.attr a).raw ++
        [g (s.cmn.attr a).tripped] ++ d ((s.cmn.attr a).recovery.getD 4294967295) ++
        d s.cmn.partTime.toNat)) ∧
    s.readItem 12 0 = some
      ([o s.mgu.manager.toNat] ++ w s.mgu.interval ++ d (s.mgu.reportTimer.getD 4294967295) ++
        d s.mgu.executed ++ d s.mgu.refused) ∧
    (∀ item index, s.readItem item index = none ↔
      item = 0 ∨ 12 < item ∨ (item = 1 ∧ (index = 0 ∨ 2 < index)) ∨ (item = 6 ∧ (index = 0 ∨ 6 < index)) ∨
      (item = 8 ∧ s.jcu.contexts.length < index) ∨ (item = 11 ∧ (index = 0 ∨ 8 < index)) ∨
      (item ≠ 1 ∧ item ≠ 6 ∧ item ≠ 8 ∧ item ≠ 11 ∧ index ≠ 0)) ∧
    (∀ e : LogEntry, e.octets = w e.number ++ d e.time.toNat ++
      [o (codeLogKind e.info.kind), o (codeBlock e.info.block)] ++ w (e.info.junction.getD 65535) ++
      [o ((e.info.node.map fun x => x.toNat).getD 255), o ((e.info.port.map codePort).getD 255),
        g e.info.value.isSome] ++
      d (e.info.value.elim 4294967295 fun v => (BitVec.ofInt 32 v).toNat))) ∧
  (∀ (l : List Bool) (n : Nat), (packBits l).testBit n = l.getD n false) ∧
  ([Role.inactive, .passive, .claiming, .active, .blocked, .conflict].map codeRole = [1, 2, 3, 4, 5, 6] ∧
    [Announced.claiming, .active, .conflict].map codeAnnounced = [3, 4, 6] ∧
    [TractionState.off, .run, .hold, .emergency].map codeTraction = [1, 2, 3, 4] ∧
    [CtxState.noRoute, .requesting, .accepted, .refused, .unanswered, .set, .mismatch, .passed].map
      codeCtx = [1, 2, 3, 4, 5, 6, 7, 8] ∧
    [Direction.left, .straight, .right].map codeDirection = [1, 2, 3] ∧
    [PortMode.normal, .localLoopback, .remoteLoopback, .disabled].map codeMode = [1, 2, 3, 4] ∧
    (∀ b, [RxState.down, .hunt, .frame b].map codeRx = [1, 2, 3]) ∧
    (∀ b, [TxState.fill, .sending b, .silent].map codeTx = [1, 2, 3]) ∧
    [LoopCode.none, .loopup, .loopdown].map codeLoopCode = [1, 2, 3] ∧
    [NodeRole.any, .none, .vcu, .inverter, .stopPanel, .cab, .other].map codeNodeRole =
      [1, 2, 3, 4, 5, 6, 7] ∧
    [Action.forward, .absorb, .snoop, .drop].map codeAction = [1, 2, 3, 4] ∧
    [QueueType.strict, .weighted].map codeQueueType = [1, 2] ∧
    [Port.A, .B].map codePort = [1, 2] ∧
    [InverterState.ready, .fault, .isolated].map codeInverter = [1, 2, 3]) ∧
  ([StopState.idle, .requested, .serving, .inhibit].map codeStop = [1, 2, 3, 4] ∧
    [LoopRx.idle, .hunt, .telegram].map codeLoopRx = [1, 2, 3] ∧
    [DirSource.table, .manual].map codeDirSource = [1, 2] ∧
    [PointStatus.none, .moving, .set .left, .set .straight, .set .right, .fault].map codePointStatus =
      [1, 2, 3, 4, 5, 6] ∧
    [Source.horn, .emergency, .bell, .warning, .cabAlert, .accessChime, .chime].map Source.index =
      [0, 1, 2, 3, 4, 5, 6] ∧
    [Attr.portALine, .portBLine, .buffer, .loopLink, .loopCheck, .speedSource, .adhesion, .stopPanel].map
      attrIndex = [0, 1, 2, 3, 4, 5, 6, 7] ∧
    [LogKind.emergencyBrake, .deadman, .handleFault, .roleConflict, .keyOffMoving, .profileMissing,
      .cabTableFull, .inverterOverflow, .demandNotSent, .loopDetected, .portDown, .portUp, .autoloopEnter,
      .autoloopExit, .junctionUnanswered, .junctionRefused, .junctionMismatch, .junctionTimeout,
      .clearMissed, .contextFull, .routeChangeRefused, .routeTableMissing, .testPass, .testFail,
      .attributeTripped, .attributeRecovered, .controlReset].map codeLogKind =
        (List.range 27).map (fun n => n + 1) ∧
    [Block.lpa, .lpb, .fsw, .bqm, .cru, .ciu, .tdu, .llu, .jcu, .sru, .snu, .cmn, .mgu].map codeBlock =
      (List.range 13).map (fun n => n + 1)) ∧
  (∀ (s : State) (b : Nat) (f : Frame) (item index : Byte) (data : List Byte), s.Commanded b f →
    f.payload = [4, item, index] → s.takeHead.readItem item.toNat index.toNat = some data →
    exec .readState s = .next (s.takeHead.answered b f
      { status := 1, reason := 0, figure := 0, data := data })) ∧
  (∀ (s : State) (b : Nat) (f : Frame) (item index : Byte), s.Commanded b f →
    f.payload = [4, item, index] → s.takeHead.readItem item.toNat index.toNat = none →
    exec .readState s = .next (s.takeHead.answered b f
      { status := 3, reason := 3, figure := index.toNat, data := [] })) ∧
  (∀ (s : State) (b : Nat) (f : Frame) (n : Byte), s.Commanded b f → f.payload = [5, n] →
    exec .readLog s = .next (s.takeHead.answered b f
      { status := if n.toNat ≤ 8 then 1 else 2, reason := 0, figure := if n.toNat ≤ 8 then 0 else 1
        data := oct1 s.cmn.log.pointer ++ oct1 s.cmn.log.held ++ oct2 s.cmn.log.total ++
          (s.cmn.log.newest (min 8 n.toNat)).flatMap LogEntry.octets })) ∧
  (∀ (l : FaultLog) (n : Nat), l.held ≤ 32 →
    (∀ k, k < l.held → (l.back k).isSome = true) →
    (l.newest n).length = min n l.held ∧ ∀ k, k < min n l.held → (l.newest n)[k]? = l.back k)

/-- A WRITE_TABLE is taken whole or refused whole: whole entries from an index inside the table are written
one after another, each with its own clamped fields counted; an index outside is BAD_INDEX with the first
one outside, a broken last entry LENGTH, and an unsound entry INVALID with its index, and then nothing is
written (R171). So it goes for each of the twelve rows with the indices, the entry size and the enumerated
fields of its table: a role, an action, a permit, a queue type, a direction; the other entries have none. A
ROUTE write at index 0 is LENGTH unless it is the 13 octets of the header, and a PATTERN write, of one
pattern, BAD_INDEX above 15, LENGTH where it does not match its step count, INVALID for a count above 12. That
the command is counted before its REPLY, and its frame released after it, is log entry 13. -/
def Obligations.WritesAreWholeOrRefused : Prop :=
  (∀ (α : Type) (s : State) (lo hi size : Nat) (payload : List Byte)
    (parse : Nat → List Byte → Option (Taken α)) (put : State → Nat → α → State),
    (num2 payload 2 < lo ∨ hi < num2 payload 2) →
    s.writeEntries lo hi size payload parse put =
      (s, { status := 3, reason := 3, figure := num2 payload 2, data := [] })) ∧
  (∀ (α : Type) (s : State) (lo hi size i : Nat) (h1 h2 : Byte) (entries : List (List Byte))
    (rest : List Byte) (parse : Nat → List Byte → Option (Taken α)) (put : State → Nat → α → State),
    1 ≤ size → (∀ e ∈ entries, e.length = size) → rest.length < size → i < 65536 → lo ≤ i → i ≤ hi →
    (entries ≠ [] ∨ rest ≠ []) →
    (i + entries.length ≤ hi + 1 → rest = [] →
      (∀ l : List (Taken α), (entries.mapIdx fun k e => parse (i + k) e) = l.map some →
        s.writeEntries lo hi size ([h1, h2] ++ oct2 i ++ entries.flatten) parse put =
          ((l.mapIdx fun k x => (i + k, x.value)).foldl (fun t e => put t e.1 e.2) s,
            { status := if (l.map fun x => x.clamps).sum = 0 then 1 else 2, reason := 0
              figure := (l.map fun x => x.clamps).sum, data := [] })) ∧
      (∀ k, k < entries.length → parse (i + k) (entries.getD k []) = none →
        (∀ m, m < k → (parse (i + m) (entries.getD m [])).isSome = true) →
        s.writeEntries lo hi size ([h1, h2] ++ oct2 i ++ entries.flatten) parse put =
          (s, { status := 3, reason := 4, figure := i + k, data := [] }))) ∧
    (i + entries.length + (if rest = [] then 0 else 1) ≤ hi + 1 → rest ≠ [] →
      s.writeEntries lo hi size ([h1, h2] ++ oct2 i ++ entries.flatten ++ rest) parse put =
        (s, { status := 3, reason := 8, figure := 0, data := [] })) ∧
    (hi + 1 < i + entries.length + (if rest = [] then 0 else 1) →
      s.writeEntries lo hi size ([h1, h2] ++ oct2 i ++ entries.flatten ++ rest) parse put =
        (s, { status := 3, reason := 3, figure := hi + 1, data := [] }))) ∧
  (∀ (s : State) (b : Nat) (f : Frame) (i j t : Byte) (e : List Byte) (row : Instr) (lo hi size k n : Nat)
    (bad : List Byte → Prop),
    s.Commanded b f → f.payload = [2, t, i, j] ++ e → e ≠ [] →
    ((row = .writeNode ∧ t = 1 ∧ lo = 0 ∧ hi = 62 ∧ size = 4 ∧
        bad = fun x => num1 x 0 = 0 ∨ 7 < num1 x 0) ∨
      (row = .writeClass ∧ t = 2 ∧ lo = 0 ∧ hi = 255 ∧ size = 4 ∧
        bad = fun x => num1 x 0 = 0 ∨ 4 < num1 x 0 ∨ num1 x 1 = 0 ∨ 4 < num1 x 1) ∨
      (row = .writeTagMap ∧ t = 3 ∧ lo = 0 ∧ hi = 7 ∧ size = 1 ∧ bad = fun _ => False) ∨
      (row = .writeWeights ∧ t = 4 ∧ lo = 0 ∧ hi = 3 ∧ size = 1 ∧ bad = fun _ => False) ∨
      (row = .writePortConfig ∧ t = 5 ∧ lo = 1 ∧ hi = 2 ∧ size = 15 ∧
        bad = fun x => 1 < num1 x 2 ∨ ∃ q, q < 4 ∧ (num1 x (3 + q) = 0 ∨ 2 < num1 x (3 + q))) ∨
      (row = .writeQueueMap ∧ t = 6 ∧ lo = 1 ∧ hi = 4 ∧ size = 8 ∧ bad = fun _ => False) ∨
      (row = .writeRoute ∧ t = 7 ∧ i.toNat + 256 * j.toNat ≠ 0 ∧ lo = 1 ∧ hi = 256 ∧ size = 8 ∧
        bad = fun x => num1 x 2 = 0 ∨ 3 < num1 x 2) ∨
      (row = .writeProfile ∧ t = 8 ∧ lo = 1 ∧ hi = 19 ∧ size = 2 ∧ bad = fun _ => False) ∨
      (row = .writeTone ∧ t = 10 ∧ lo = 0 ∧ hi = 7 ∧ size = 2 ∧ bad = fun _ => False) ∨
      (row = .writeSoundMap ∧ t = 11 ∧ lo = 0 ∧ hi = 0 ∧ size = 7 ∧ bad = fun _ => False) ∨
      (row = .writeAttributeConfig ∧ t = 12 ∧ lo = 1 ∧ hi = 8 ∧ size = 5 ∧ bad = fun _ => False)) →
    k = i.toNat + 256 * j.toNat → n = (e.length + size - 1) / size →
    ((k < lo ∨ hi < k) →
      exec row s = .next (s.takeHead.answered b f
        { status := 3, reason := 3, figure := k, data := [] })) ∧
    (lo ≤ k → k ≤ hi → hi + 1 < k + n →
      exec row s = .next (s.takeHead.answered b f
        { status := 3, reason := 3, figure := hi + 1, data := [] })) ∧
    (lo ≤ k → k + n ≤ hi + 1 → e.length % size ≠ 0 →
      exec row s = .next (s.takeHead.answered b f { status := 3, reason := 8, figure := 0, data := [] })) ∧
    (lo ≤ k → k + n ≤ hi + 1 → e.length % size = 0 →
      (∀ m, m < n → bad (e.drop (m * size)) → (∀ l, l < m → ¬ bad (e.drop (l * size))) →
        exec row s = .next (s.takeHead.answered b f
          { status := 3, reason := 4, figure := k + m, data := [] })) ∧
      ((∀ m, m < n → ¬ bad (e.drop (m * size))) →
        ∃ (u : State) (a : Answer), exec row s = .next (u.answered b f a) ∧ (a.status = 1 ∨ a.status = 2) ∧ a.data = []))) ∧
  (∀ (s u : State) (b : Nat) (f : Frame) (a : Answer), s.Commanded b f → num1 f.payload 0 = 2 →
    5 ≤ f.payload.length →
    (num1 f.payload 1 = 1 → s.takeHead.writeEntries 0 62 4 f.payload parseNode putNode = (u, a) →
      exec .writeNode s = .next (u.answered b f a)) ∧
    (num1 f.payload 1 = 2 → s.takeHead.writeEntries 0 255 4 f.payload parseClass putClass = (u, a) →
      exec .writeClass s = .next (u.answered b f a)) ∧
    (num1 f.payload 1 = 3 → s.takeHead.writeEntries 0 7 1 f.payload (parseOctet 7) putTag = (u, a) →
      exec .writeTagMap s = .next (u.answered b f a)) ∧
    (num1 f.payload 1 = 4 → s.takeHead.writeEntries 0 3 1 f.payload (parseOctet 15) putWeight = (u, a) →
      exec .writeWeights s = .next (u.answered b f a)) ∧
    (num1 f.payload 1 = 5 →
      s.takeHead.writeEntries 1 2 15 f.payload parsePortConfig putPortConfig = (u, a) →
      exec .writePortConfig s = .next (u.answered b f a)) ∧
    (num1 f.payload 1 = 6 → s.takeHead.writeEntries 1 4 8 f.payload parseQueueMap putQueueMap = (u, a) →
      exec .writeQueueMap s = .next (u.answered b f a)) ∧
    (num1 f.payload 1 = 7 → num2 f.payload 2 ≠ 0 →
      s.takeHead.writeEntries 1 256 8 f.payload parseRoute putRoute = (u, a) →
      exec .writeRoute s = .next (u.answered b f a)) ∧
    (num1 f.payload 1 = 8 → s.takeHead.writeEntries 1 19 2 f.payload parseField putField = (u, a) →
      exec .writeProfile s = .next (u.answered b f a)) ∧
    (num1 f.payload 1 = 10 → s.takeHead.writeEntries 0 7 2 f.payload parseTone putTone = (u, a) →
      exec .writeTone s = .next (u.answered b f a)) ∧
    (num1 f.payload 1 = 11 → s.takeHead.writeEntries 0 0 7 f.payload parseSoundMap putSoundMap = (u, a) →
      exec .writeSoundMap s = .next (u.answered b f a)) ∧
    (num1 f.payload 1 = 12 → s.takeHead.writeEntries 1 8 5 f.payload parseAttr putAttr = (u, a) →
      exec .writeAttributeConfig s = .next (u.answered b f a))) ∧
  (∀ (s : State) (b : Nat) (f : Frame) (e : List Byte), s.Commanded b f → f.payload = [2, 7, 0, 0] ++ e →
    e ≠ [] → e.length ≠ 13 →
    exec .writeRoute s = .next (s.takeHead.answered b f { status := 3, reason := 8, figure := 0, data := [] })) ∧
  (∀ (s : State) (b : Nat) (f : Frame) (i j n : Byte) (e : List Byte), s.Commanded b f →
    f.payload = [2, 9, i, j, n] ++ e →
    (15 < i.toNat + 256 * j.toNat →
      exec .writePattern s = .next (s.takeHead.answered b f
        { status := 3, reason := 3, figure := i.toNat + 256 * j.toNat, data := [] })) ∧
    (i.toNat + 256 * j.toNat ≤ 15 → e.length ≠ 2 * n.toNat →
      exec .writePattern s = .next (s.takeHead.answered b f
        { status := 3, reason := 8, figure := 0, data := [] })) ∧
    (i.toNat + 256 * j.toNat ≤ 15 → e.length = 2 * n.toNat → 12 < n.toNat →
      exec .writePattern s = .next (s.takeHead.answered b f
        { status := 3, reason := 4, figure := i.toNat + 256 * j.toNat, data := [] })))

/-- What one written entry of each live table holds: numeric fields at the nearer end of their range and
counted as clamped, an optional field absent at 0xFF, and nothing else changed but what the table's rule adds:
a queue whose type changes loses its deficit, a permit turned off discards a LOOPUP measure, a tone that sounds
keeps its present half-period, and an attribute is judged afresh (R21, R26, R36, R44, R45, R47, R150 to R152,
R161, R163, R171). A PATTERN or SOUND_MAP write touches a playing source whose pattern it names or whose entry
it changes: a condition or a bell that still wins starts again at step 0, an event is discarded and counted; a
bell request whose pattern is empty ends; each channel then plays its winner anew, a winner that is neither new
nor touched goes on where it stands, and the other requests and the tones stay (R154, R155, R156, R157; a
waiting bell is log entry 21). That a tone which has sounded for no bit time is written with its high half, or
goes on with its wave, is log entry 33, what a player holds with no winner log entry 48. That the command is
counted before its REPLY is sent, and its frame released after it, is log entry 13. -/
def Obligations.LiveTablesAreWritten : Prop :=
  (∀ (s : State) (b : Nat) (f : Frame) (i r p x y : Byte) (role : NodeRole), s.Commanded b f →
    f.payload = [2, 1, i, 0, r, p, x, y] → i.toNat ≤ 62 → nodeRoleOf r.toNat = some role →
    exec .writeNode s = .next ({ s.takeHead with
      fsw := { s.fsw with
        nodes := s.fsw.nodes.set i.toNat
          { s.fsw.nodes.get i.toNat NodeEntry.powerOn with
            role := role, priority := if p = 255 then none else some (min 7 p.toNat) } } }.answered b f
      (Answer.clamped (if p ≠ 255 ∧ 7 < p.toNat then 1 else 0) []))) ∧
  (∀ (s : State) (b : Nat) (f : Frame) (i x y p m : Byte) (a c : Action), s.Commanded b f →
    f.payload = [2, 2, i, 0, x, y, p, m] → actionOf x.toNat = some a → actionOf y.toNat = some c →
    exec .writeClass s = .next ({ s.takeHead with
      fsw := { s.fsw with
        classes := s.fsw.classes.set i.toNat
          { active := a, passive := c, priority := if p = 255 then none else some (min 7 p.toNat)
            maxPayload := min 240 m.toNat } } }.answered b f
      (Answer.clamped ((if p ≠ 255 ∧ 7 < p.toNat then 1 else 0) + if 240 < m.toNat then 1 else 0)
        []))) ∧
  (∀ (s : State) (b : Nat) (f : Frame) (i x : Byte), s.Commanded b f →
    f.payload = [2, 3, i, 0, x] → i.toNat ≤ 7 →
    exec .writeTagMap s = .next ({ s.takeHead with
      fsw := { s.fsw with tagMap := s.fsw.tagMap.set i.toNat (min 7 x.toNat) } }.answered b f
      (Answer.clamped (if 7 < x.toNat then 1 else 0) []))) ∧
  (∀ (s : State) (b : Nat) (f : Frame) (i x : Byte), s.Commanded b f →
    f.payload = [2, 4, i, 0, x] → i.toNat ≤ 3 →
    exec .writeWeights s = .next ({ s.takeHead with
      fsw := { s.fsw with weights := s.fsw.weights.set i.toNat (min 15 x.toNat) } }.answered b f
      (Answer.clamped (if 15 < x.toNat then 1 else 0) []))) ∧
  (∀ (s : State) (b : Nat) (f : Frame) (i n d a t0 t1 t2 t3 w0 w1 w2 w3 d0 d1 d2 d3 : Byte) (p : Port)
    (permit : Bool) (q0 q1 q2 q3 : QueueType), s.Commanded b f →
    f.payload = [2, 5, i, 0, n, d, a, t0, t1, t2, t3, w0, w1, w2, w3, d0, d1, d2, d3] →
    (i = 1 ∧ p = .A ∨ i = 2 ∧ p = .B) → (a = 0 ∧ permit = false ∨ a = 1 ∧ permit = true) →
    queueTypeOf t0.toNat = some q0 → queueTypeOf t1.toNat = some q1 →
    queueTypeOf t2.toNat = some q2 → queueTypeOf t3.toNat = some q3 →
    ∃ (t : State) (c : Nat), exec .writePortConfig s = .next (t.answered b f (Answer.clamped c [])) ∧
      c = offRange 1 4 n.toNat + offRange 0 7 d.toNat +
        (offRange 1 127 w0.toNat + offRange 1 64 d0.toNat) +
        (offRange 1 127 w1.toNat + offRange 1 64 d1.toNat) +
        (offRange 1 127 w2.toNat + offRange 1 64 d2.toNat) +
        (offRange 1 127 w3.toNat + offRange 1 64 d3.toNat) ∧
      t = { s.takeHead with
        bqm := { s.takeHead.bqm with egress := t.bqm.egress }
        ports := if permit then s.ports else s.ports.modify p fun u : LinePort =>
          { u with persistence := u.persistence.filter fun r => decide (r.code ≠ LoopCode.loopup) } } ∧
      t.bqm.egress.get p.other = s.bqm.egress.get p.other ∧
      (t.bqm.egress.get p).pointer = (s.bqm.egress.get p).pointer ∧
      (t.bqm.egress.get p).config.queueCount = clampNat 1 4 n.toNat ∧
      (t.bqm.egress.get p).config.defaultPriority = clampNat 0 7 d.toNat ∧
      (t.bqm.egress.get p).config.autoloop = permit ∧
      (t.bqm.egress.get p).config.queues.data =
        [{ type := q0, weight := clampNat 1 127 w0.toNat, depth := clampNat 1 64 d0.toNat },
         { type := q1, weight := clampNat 1 127 w1.toNat, depth := clampNat 1 64 d1.toNat },
         { type := q2, weight := clampNat 1 127 w2.toNat, depth := clampNat 1 64 d2.toNat },
         { type := q3, weight := clampNat 1 127 w3.toNat, depth := clampNat 1 64 d3.toNat }] ∧
      ∀ k, k < 4 → (t.bqm.egress.get p).queue k =
        { (s.bqm.egress.get p).queue k with
          deficit :=
            if ((t.bqm.egress.get p).queueConfig k).type = ((s.bqm.egress.get p).queueConfig k).type
            then ((s.bqm.egress.get p).queue k).deficit else 0 }) ∧
  (∀ (s : State) (b : Nat) (f : Frame) (i : Byte) (l : List Byte), s.Commanded b f →
    f.payload = [2, 6, i, 0] ++ l → l.length = 8 → 1 ≤ i.toNat → i.toNat ≤ 4 →
    ∃ t : State, exec .writeQueueMap s = .next (t.answered b f
        (Answer.clamped (l.filter fun x => decide (i.toNat - 1 < x.toNat)).length [])) ∧
      t = { s.takeHead with bqm := { s.takeHead.bqm with maps := t.bqm.maps } } ∧
      (t.bqm.maps.get (i.toNat - 1) (Tab.fill 8 0)).data = (l.map fun x => min (i.toNat - 1) x.toNat) ∧
      ∀ k, k ≠ i.toNat - 1 → t.bqm.maps.get k (Tab.fill 8 0) = s.bqm.maps.get k (Tab.fill 8 0)) ∧
  (∀ (s : State) (b : Nat) (f : Frame) (i : Byte) (l : List (Byte × Byte)), s.Commanded b f →
    f.payload = [2, 9, i, 0, BitVec.ofNat 8 l.length] ++ l.flatMap (fun x => [x.1, x.2]) →
    i.toNat ≤ 15 → l.length ≤ 12 →
    ∃ (t : State) (c : Nat), exec .writePattern s = .next (t.answered b f (Answer.clamped c [])) ∧
      t = { s.takeHead with
        snu := s.snu.writePattern i.toNat (l.map fun x : Byte × Byte =>
          { tone := if x.1 = 255 then none else some (min 7 x.1.toNat), duration := max 1 x.2.toNat }) } ∧
      c = (l.filter fun x => decide (x.1 ≠ 255 ∧ 7 < x.1.toNat)).length +
        (l.filter fun x => decide (x.2 = 0)).length) ∧
  (∀ (s : State) (b : Nat) (f : Frame) (i x y : Byte), s.Commanded b f →
    f.payload = [2, 10, i, 0, x, y] → i.toNat ≤ 7 →
    ∃ u : Snu, exec .writeTone s = .next ({ s.takeHead with snu := u }.answered b f
        (Answer.clamped (offRange 100 4000 (x.toNat + 256 * y.toNat)) [])) ∧
      u = { s.snu with
        tones := s.snu.tones.set i.toNat (clampNat 100 4000 (x.toNat + 256 * y.toNat))
        exterior := u.exterior, interior := u.interior } ∧
      ∀ c, u.player c = { s.snu.player c with wave := (u.player c).wave } ∧
        u.toneOutput c = s.snu.toneOutput c ∧ u.toneLevel c = s.snu.toneLevel c ∧
        (s.snu.soundingTone c = none → u.player c = s.snu.player c) ∧
        ∀ k, s.snu.soundingTone c = some k →
          (u.player c).wave = some ((s.snu.player c).wave.elim
            { tone := k, high := true, hz := s.snu.tones.get k 0, phase := 0 } fun w =>
              if w.tone = k then w
              else { tone := k, high := true, hz := s.snu.tones.get k 0, phase := 0 })) ∧
  (∀ (s : State) (b : Nat) (f : Frame) (l : List Byte), s.Commanded b f →
    f.payload = [2, 11, 0, 0] ++ l → l.length = 7 →
    ∃ m : Tab Nat 7, m.data = (l.map fun x : Byte => min 15 x.toNat) ∧
      exec .writeSoundMap s = .next ({ s.takeHead with snu := s.snu.writeMap m }.answered b f
        (Answer.clamped (l.filter fun x : Byte => decide (15 < x.toNat)).length []))) ∧
  (∀ (u v : Snu) (touched : Source → Prop),
    ((∃ (n : Nat) (l : List Step), v = u.writePattern n l ∧ ∀ x, touched x ↔ u.mapped x = n) ∨
      (∃ m : Tab Nat 7, v = u.writeMap m ∧ ∀ x, touched x ↔ u.mapped x ≠ m.get x.index 0)) →
    v.tones = u.tones ∧ v.horn = u.horn ∧ v.emergency = u.emergency ∧ v.warning = u.warning ∧
    v.alertRole = u.alertRole ∧ v.alertJunction = u.alertJunction ∧
    v.bell = (u.bell && !(v.patternOf .bell).isEmpty) ∧
    (∀ c, (v.player c).playing = v.winner c ∧ (v.player c).wave = (u.player c).wave ∧
      ((v.player c).playing = (u.player c).playing →
        (∀ x, (u.player c).playing = some x → touched x →
          (v.player c).step = 0 ∧ (v.player c).elapsed = 0) ∧
        ((∀ x, (u.player c).playing = some x → ¬ touched x) → v.player c = u.player c)) ∧
      ((v.player c).playing ≠ (u.player c).playing →
        (v.player c).step = 0 ∧ (v.player c).elapsed = 0)) ∧
    (∀ x, (x = .accessChime ∨ x = .chime) →
      (∀ y, u.exterior.playing = some y → y ≠ .accessChime ∧ y ≠ .chime) →
      (u.interior.playing ≠ some x → v.requested x = u.requested x) ∧
      (u.interior.playing = some x → touched x →
        v.requested x = false ∧ v.discarded = bump u.discarded) ∧
      (u.interior.playing = some x → ¬ touched x → u.requested x = true →
        ((v.winner .interior = some x ∧ v.requested x = true ∧ v.discarded = u.discarded) ∨
          (v.winner .interior ≠ some x ∧ v.requested x = false ∧ v.discarded = bump u.discarded)))) ∧
    ((∀ c y, (u.player c).playing = some y → y ≠ .accessChime ∧ y ≠ .chime) →
      v.discarded = u.discarded)) ∧
  (∀ (u : Snu) (n : Nat) (l : List Step), (u.writePattern n l).patterns = u.patterns.set n l ∧
    (u.writePattern n l).map = u.map) ∧
  (∀ (u : Snu) (m : Tab Nat 7), (u.writeMap m).patterns = u.patterns ∧ (u.writeMap m).map = m) ∧
  (∀ (s : State) (b : Nat) (f : Frame) (i t p r x y : Byte) (a : Attr) (g : AttrConfig),
    s.Commanded b f → f.payload = [2, 12, i, 0, t, p, r, x, y] → i.toNat = attrIndex a + 1 →
    g = { threshold := clampNat 0 95 t.toNat, penalty := clampNat 1 50 p.toNat
          interval := clampNat 1 255 r.toNat, testLimit := clampNat 0 1000 (x.toNat + 256 * y.toNat) } →
    ∃ c : Cmn, exec .writeAttributeConfig s = .next ({ s.takeHead with cmn := c }.answered b f
        (Answer.clamped (offRange 0 95 t.toNat + offRange 1 50 p.toNat + offRange 1 255 r.toNat +
          offRange 0 1000 (x.toNat + 256 * y.toNat)) [])) ∧
      c.attrConfig a = g ∧
      (∀ k, k ≠ a → c.attrConfig k = s.cmn.attrConfig k ∧ c.attr k = s.cmn.attr k) ∧
      c.partTime = s.cmn.partTime ∧
      c.attr a = { s.cmn.attr a with
        tripped := if (s.cmn.attr a).tripped then decide ((s.cmn.attr a).n < g.threshold + 5 ∧ g.threshold ≠ 0)
          else decide (g.threshold ≠ 0 ∧ (s.cmn.attr a).n ≤ g.threshold) } ∧
      c.log = (if (c.attr a).tripped = (s.cmn.attr a).tripped then s.cmn.log
        else s.cmn.log.append s.cmn.partTime
          { kind := if (c.attr a).tripped then .attributeTripped else .attributeRecovered, block := .cmn
            value := some (i.toNat : Int) }))

/-- A staged table is written in its shadow alone, and a commit makes the shadow live in one step. A
route whose junctions do not rise strictly is refused with INVALID and the first entry that fails; a
profile whose calibration does not rise is refused with INVALID and figure 1, and one whose jerk exceeds
its rate limit with figure 2, the first of the two where both fail (log entry 29); a pending key-on is
taken with the commit of a profile (R62, R93, R94, R120, R121, R172). That the command is counted before its
REPLY is sent, and its frame released after it, is log entry 13. -/
def Obligations.StagedTablesAreCommitted : Prop :=
  (∀ (s : State) (b : Nat) (f : Frame) (r0 r1 l0 l1 u0 u1 a0 a1 c0 c1 j n0 n1 : Byte),
    s.Commanded b f →
    f.payload = [2, 7, 0, 0, r0, r1, l0, l1, u0, u1, a0, a1, c0, c1, j, n0, n1] →
    exec .writeRoute s = .next ({ s.takeHead with
      jcu := { s.jcu with
        shadowHeader :=
          { run := clampNat 1 65535 (r0.toNat + 256 * r1.toNat)
            line := clampNat 0 999 (l0.toNat + 256 * l1.toNat)
            unconfirmed := clampNat 0 250 (u0.toNat + 256 * u1.toNat)
            straightCap := clampNat 0 1000 (a0.toNat + 256 * a1.toNat)
            divergingCap := clampNat 0 1000 (c0.toNat + 256 * c1.toNat)
            junctionLength := clampNat 5 200 j.toNat
            count := clampNat 0 256 (n0.toNat + 256 * n1.toNat) } } }.answered b f
        (Answer.clamped (offRange 1 65535 (r0.toNat + 256 * r1.toNat) +
          offRange 0 999 (l0.toNat + 256 * l1.toNat) + offRange 0 250 (u0.toNat + 256 * u1.toNat) +
          offRange 0 1000 (a0.toNat + 256 * a1.toNat) + offRange 0 1000 (c0.toNat + 256 * c1.toNat) +
          offRange 5 200 j.toNat + offRange 0 256 (n0.toNat + 256 * n1.toNat)) []))) ∧
  (∀ (s : State) (b : Nat) (f : Frame) (i0 i1 j0 j1 d a0 a1 c0 c1 l : Byte) (i : Nat) (dir : Direction),
    s.Commanded b f → f.payload = [2, 7, i0, i1, j0, j1, d, a0, a1, c0, c1, l] →
    i = i0.toNat + 256 * i1.toNat → 1 ≤ i → i ≤ 256 → directionOf d.toNat = some dir →
    exec .writeRoute s = .next ({ s.takeHead with
      jcu := { s.jcu with
        shadow := s.jcu.shadow.set (i - 1)
          { junction := clampNat 1 4095 (j0.toNat + 256 * j1.toNat), direction := dir
            straightCap := if a0 = 255 ∧ a1 = 255 then none
              else some (clampNat 0 1000 (a0.toNat + 256 * a1.toNat))
            divergingCap := if c0 = 255 ∧ c1 = 255 then none
              else some (clampNat 0 1000 (c0.toNat + 256 * c1.toNat))
            junctionLength := if l = 255 then none else some (clampNat 5 200 l.toNat) } } }.answered b f
        (Answer.clamped (offRange 1 4095 (j0.toNat + 256 * j1.toNat) +
          (if a0 = 255 ∧ a1 = 255 then 0 else offRange 0 1000 (a0.toNat + 256 * a1.toNat)) +
          (if c0 = 255 ∧ c1 = 255 then 0 else offRange 0 1000 (c0.toNat + 256 * c1.toNat)) +
          if l = 255 then 0 else offRange 5 200 l.toNat) []))) ∧
  (∀ (s : State) (b : Nat) (f : Frame) (i x y : Byte) (v : Int), s.Commanded b f →
    f.payload = [2, 8, i, 0, x, y] → 1 ≤ i.toNat → i.toNat ≤ 19 → v = (y ++ x).toInt →
    ∃ t : State, exec .writeProfile s = .next (t.answered b f
        (Answer.clamped (if (profileRange i.toNat).1 ≤ v ∧ v ≤ (profileRange i.toNat).2 then 0 else 1)
          [])) ∧
      t = { s.takeHead with tdu := { s.tdu with shadow := t.tdu.shadow } } ∧
      t.tdu.shadow.fields = s.tdu.shadow.fields.set (i.toNat - 1)
        (max (profileRange i.toNat).1 (min (profileRange i.toNat).2 v))) ∧
  (∀ (s : State) (b : Nat) (f : Frame) (l : List RouteEntry), s.Commanded b f → f.payload = [3, 7] →
    l = s.jcu.shadow.data.take s.jcu.shadowHeader.count →
    ((l.map fun e => e.junction).Pairwise (· < ·) →
      exec .commitRoute s = .next ({ s.takeHead with
        jcu := { s.jcu with live := some { header := s.jcu.shadowHeader, entries := l } } }.answered b f
        (Answer.ok []))) ∧
    (∀ k, k + 1 < l.length → ((l.take (k + 1)).map fun e => e.junction).Pairwise (· < ·) →
      (l.map fun e => e.junction).getD (k + 1) 0 ≤ (l.map fun e => e.junction).getD k 0 →
      exec .commitRoute s = .next (s.takeHead.answered b f
        { status := 3, reason := 4, figure := k + 2, data := [] }))) ∧
  (∀ (s : State) (b : Nat) (f : Frame) (p : Profile), s.Commanded b f → f.payload = [3, 8] →
    p = s.tdu.shadow →
    ((p.hb < p.hn1 ∧ p.hn1 ≤ p.hn2 ∧ p.hn2 < p.hp) → p.jerk ≤ p.rateLimit →
      s.cru.pendingKeyOn = false →
      exec .commitProfile s = .next ({ s.takeHead with tdu := { s.tdu with live := some p } }.answered b f
        (Answer.ok []))) ∧
    ((p.hb < p.hn1 ∧ p.hn1 ≤ p.hn2 ∧ p.hn2 < p.hp) → p.jerk ≤ p.rateLimit →
      s.cru.pendingKeyOn = true →
      ∃ t : State, exec .commitProfile s = .next t ∧ t.tdu.live = some p ∧ t.cru.pendingKeyOn = false ∧
        t.cru.role = (if s.cru.hearsCommand then .blocked else .claiming)) ∧
    (¬ (p.hb < p.hn1 ∧ p.hn1 ≤ p.hn2 ∧ p.hn2 < p.hp) →
      exec .commitProfile s = .next (s.takeHead.answered b f
        { status := 3, reason := 4, figure := 1, data := [] })) ∧
    ((p.hb < p.hn1 ∧ p.hn1 ≤ p.hn2 ∧ p.hn2 < p.hp) → p.rateLimit < p.jerk →
      exec .commitProfile s = .next (s.takeHead.answered b f
        { status := 3, reason := 4, figure := 2, data := [] })))

/-- CLEAR by its group: the latches of both ports; the log; the attributes, silently, with the FAULT lamp
dark; or every counter that the manual names so, each of them and nothing else: the own-frame-failure counter
stands (R10, R35, R46, R51, R60, R79, R117, R128, R142, R156, R169, R174). That the command is counted after
it has cleared the counters, so that commands executed stands at 1, and before its REPLY, is log entry
13. -/
def Obligations.ClearsTakeTheirGroup : Prop :=
  (∀ (s : State) (b : Nat) (f : Frame), s.Commanded b f → f.payload = [6, 1] →
    exec .clearLatches s = .next ({ s.takeHead with
      ports := s.ports.map fun x : LinePort =>
        { x with latches := { check := false, length := false, syncLoss := false, downSeen := false
                              overrun := false } } }.answered b f (Answer.ok []))) ∧
  (∀ (s : State) (b : Nat) (f : Frame), s.Commanded b f → f.payload = [6, 2] →
    exec .clearLog s = .next ({ s.takeHead with
      cmn := { s.cmn with
        log := { places := Tab.fill 32 none, pointer := 0, held := 0, total := 0 } } }.answered b f
      (Answer.ok []))) ∧
  (∀ (s : State) (b : Nat) (f : Frame), s.Commanded b f → f.payload = [6, 3] →
    exec .clearAttributes s = .next ({ s.takeHead with
      cmn := { s.cmn with
        attrs := Tab.fill 8 { n := 100, worst := 100, raw := 0, tripped := false, recovery := none }
        faultLamp := false } }.answered b f (Answer.ok []))) ∧
  (∀ (s : State) (b : Nat) (f : Frame), s.Commanded b f → f.payload = [6, 4] →
    exec .clearCounters s = .next ({ s.takeHead with
      ports := s.ports.map fun x : LinePort => { x with good := 0, discarded := 0, sent := 0 }
      fsw := { s.fsw with
        stats := s.fsw.stats.map fun x : SwitchStats =>
          { x with malformed := 0, ownSource := 0, refused := 0, filtered := 0 } }
      bqm := { s.takeHead.bqm with
        egress := s.bqm.egress.map fun e : Egress =>
          { e with queues := e.queues.map fun x : EgressQueue => { x with drops := 0 } }
        localDrops := 0 }
      cru := { s.cru with rejected := 0 }
      tdu := { s.tdu with rejected := 0 }
      llu := { s.llu with
        good := 0, checkErrors := 0, lengthErrors := 0, rejected := 0, carrierDiscards := 0, sent := 0
        cutOff := 0 }
      jcu := { s.jcu with unmatched := 0 }
      sru := { s.sru with rejected := 0 }
      snu := { s.snu with discarded := 0 }
      mgu := { s.mgu with executed := 0, refused := 0 } }.answered b f (Answer.ok [])))

/-- SET_PORT_MODE: the two loopback modes are refused with ROLE outside INACTIVE; the mode the port has
already changes nothing. Every other mode is left and every mode entered from it: a loopback mode discards a
reception, and REMOTE_LOOPBACK and DISABLED flush the queues; DISABLED takes the receiver DOWN, with the sides
forgotten and PORT_DOWN unless it was DOWN, and a transmitter that is not sending to SILENT. REMOTE_LOOPBACK
is left with its return list discarded and AUTOLOOP_EXIT, value 2, and by a loop-code action, which then sets
the code; LOCAL_LOOPBACK is left with the receiver in HUNT on the line (log entry 19) and no entry. A port
other than 1 and 2 is BAD_INDEX, its figure a free value (log entry 10), before ROLE is judged (log entry 29).
That a frame in reception goes on as REMOTE_LOOPBACK is left for NORMAL or by a loop code is log entry 42,
what the receiver has heard at an entry into LOCAL_LOOPBACK log entry 34, the count before the REPLY and the
release after it log entry 13 (R9, R12, R14, R15, R16, R17, R19, R175). -/
def Obligations.PortModesAreSet : Prop :=
  (∀ (s : State) (b : Nat) (f : Frame) (p : Port) (n a : Byte) (m : PortMode) (row : Instr),
    s.Commanded b f → f.payload = [7, n, a] → n.toNat = codePort p →
    ((a = 1 ∧ m = .normal ∧ row = .setNormal) ∨
      (a = 2 ∧ m = .localLoopback ∧ row = .setLocalLoopback) ∨
      (a = 3 ∧ m = .remoteLoopback ∧ row = .setRemoteLoopback) ∨
      (a = 4 ∧ m = .disabled ∧ row = .setDisabled)) →
    ((m = .localLoopback ∨ m = .remoteLoopback) → s.cru.role ≠ .inactive →
      exec row s = .next (s.takeHead.answered b f
        { status := 3, reason := 6, figure := 0, data := [] })) ∧
    ((m = .normal ∨ m = .disabled ∨ s.cru.role = .inactive) → (s.port p).mode = m →
      exec row s = .next (s.takeHead.answered b f (Answer.ok [])))) ∧
  (∀ (s : State) (b : Nat) (f : Frame) (p : Port) (n : Byte), s.Commanded b f →
    f.payload = [7, n, 1] → n.toNat = codePort p →
    ((s.port p).mode = .disabled →
      exec .setNormal s = .next ({ s.takeHead with
        ports := s.ports.modify p fun u : LinePort =>
          { u with
            mode := .normal, tx := if u.tx = TxState.silent then TxState.fill else u.tx
            fill := if u.tx = TxState.silent then u.loopCode else u.fill
            pos := if u.tx = TxState.silent then 0 else u.pos } }.answered b f (Answer.ok []))) ∧
    ((s.port p).mode = .remoteLoopback →
      exec .setNormal s = .next ({ s.takeHead with
        ports := s.ports.modify p fun u : LinePort =>
          { u with mode := .normal, returnList := [], persistence := none }
        bqm := s.takeHead.bqm.releaseAll (s.port p).returnList
        cmn := s.cmn.note
          { kind := .autoloopExit, block := portBlock p, port := some p, value := some 2 }
        }.answered b f (Answer.ok []))) ∧
    ((s.port p).mode = .localLoopback →
      exec .setNormal s = .next ({ s.takeHead with
        ports := s.ports.modify p fun u : LinePort =>
          { u with mode := .normal, rx := .hunt, persistence := none, front := Front.start
                   joined := false }
        bqm := s.takeHead.bqm.letGo (s.port p).receiving }.answered b f (Answer.ok [])))) ∧
  (∀ (s : State) (b : Nat) (f : Frame) (p : Port) (n : Byte), s.Commanded b f →
    f.payload = [7, n, 2] → n.toNat = codePort p → s.cru.role = .inactive →
    ((s.port p).mode = .normal →
      exec .setLocalLoopback s = .next ({ s.takeHead with
        ports := s.ports.modify p fun u : LinePort =>
          { u with
            mode := .localLoopback, persistence := none, front := Front.start, joined := false
            rx := if u.rx = RxState.down then RxState.down else RxState.hunt }
        bqm := s.takeHead.bqm.letGo (s.port p).receiving }.answered b f (Answer.ok []))) ∧
    ((s.port p).mode = .remoteLoopback →
      exec .setLocalLoopback s = .next ({ s.takeHead with
        ports := s.ports.modify p fun u : LinePort =>
          { u with
            mode := .localLoopback, returnList := [], persistence := none, front := Front.start
            joined := false, rx := if u.rx = RxState.down then RxState.down else RxState.hunt }
        bqm := (s.takeHead.bqm.releaseAll (s.port p).returnList).letGo (s.port p).receiving
        cmn := s.cmn.note
          { kind := .autoloopExit, block := portBlock p, port := some p, value := some 2 }
        }.answered b f (Answer.ok [])))) ∧
  (∀ (s : State) (b : Nat) (f : Frame) (p : Port) (n : Byte), s.Commanded b f →
    f.payload = [7, n, 3] → n.toNat = codePort p → (s.port p).mode = .normal →
    s.cru.role = .inactive →
    exec .setRemoteLoopback s = .next ({ s.takeHead with
      ports := s.ports.modify p fun u : LinePort =>
        { u with
          mode := .remoteLoopback, persistence := none, returnList := []
          front := if u.inFrame then u.front.restart else u.front
          rx := if u.rx = RxState.down then RxState.down else RxState.hunt }
      bqm := (s.takeHead.bqm.letGo (s.port p).receiving).flush p }.answered b f (Answer.ok []))) ∧
  (∀ (s : State) (b : Nat) (f : Frame) (p : Port) (n : Byte), s.Commanded b f →
    f.payload = [7, n, 4] → n.toNat = codePort p → (s.port p).mode = .normal → (s.port p).rx ≠ .down →
    exec .setDisabled s = .next ({ s.takeHead with
      ports := s.ports.modify p fun u : LinePort =>
        { u with
          mode := .disabled, persistence := none, rx := .down, front := Front.start
          tx := if u.transmitting.isSome then u.tx else .silent }
      fsw := s.fsw.forget p
      bqm := (s.takeHead.bqm.letGo (s.port p).receiving).flush p
      cmn := s.cmn.note { kind := .portDown, block := portBlock p, port := some p } }.answered b f
      (Answer.ok []))) ∧
  (∀ (s : State) (b : Nat) (f : Frame) (p : Port) (n : Byte), s.Commanded b f → n.toNat = codePort p →
    s.cru.role = .inactive →
    ((s.port p).mode = .disabled → f.payload = [7, n, 2] →
      exec .setLocalLoopback s = .next ({ s.takeHead with
        ports := s.ports.modify p fun u : LinePort =>
          { u with
            mode := .localLoopback, persistence := none, front := Front.start, joined := false
            rx := if u.rx = RxState.down then RxState.down else RxState.hunt
            tx := if u.tx = TxState.silent then TxState.fill else u.tx
            fill := if u.tx = TxState.silent then u.loopCode else u.fill
            pos := if u.tx = TxState.silent then 0 else u.pos }
        bqm := s.takeHead.bqm.letGo (s.port p).receiving }.answered b f (Answer.ok []))) ∧
    ((s.port p).mode = .disabled → f.payload = [7, n, 3] →
      exec .setRemoteLoopback s = .next ({ s.takeHead with
        ports := s.ports.modify p fun u : LinePort =>
          { u with
            mode := .remoteLoopback, persistence := none, returnList := []
            front := if u.inFrame then u.front.restart else u.front
            rx := if u.rx = RxState.down then RxState.down else RxState.hunt
            tx := if u.tx = TxState.silent then TxState.fill else u.tx
            fill := if u.tx = TxState.silent then u.loopCode else u.fill
            pos := if u.tx = TxState.silent then 0 else u.pos }
        bqm := (s.takeHead.bqm.letGo (s.port p).receiving).flush p }.answered b f (Answer.ok []))) ∧
    ((s.port p).mode = .localLoopback → f.payload = [7, n, 3] →
      exec .setRemoteLoopback s = .next ({ s.takeHead with
        ports := s.ports.modify p fun u : LinePort =>
          { u with
            mode := .remoteLoopback, rx := .hunt, persistence := none, returnList := []
            front := Front.start, joined := false }
        bqm := (s.takeHead.bqm.letGo (s.port p).receiving).flush p }.answered b f (Answer.ok [])))) ∧
  (∀ (s : State) (b : Nat) (f : Frame) (p : Port) (n : Byte), s.Commanded b f →
    f.payload = [7, n, 4] → n.toNat = codePort p →
    ((s.port p).mode = .normal → (s.port p).rx = .down →
      exec .setDisabled s = .next ({ s.takeHead with
        ports := s.ports.modify p fun u : LinePort =>
          { u with
            mode := .disabled, persistence := none, front := Front.start
            tx := if u.transmitting.isSome then u.tx else .silent }
        bqm := s.takeHead.bqm.flush p }.answered b f (Answer.ok []))) ∧
    ((s.port p).mode = .remoteLoopback →
      exec .setDisabled s = .next ({ s.takeHead with
        ports := s.ports.modify p fun u : LinePort =>
          { u with
            mode := .disabled, persistence := none, rx := .down, front := Front.start, returnList := []
            tx := if u.transmitting.isSome then u.tx else .silent }
        fsw := if (s.port p).rx = RxState.down then s.fsw else s.fsw.forget p
        bqm := ((s.takeHead.bqm.releaseAll (s.port p).returnList).letGo (s.port p).receiving).flush p
        cmn := if (s.port p).rx = RxState.down then
            s.cmn.note { kind := .autoloopExit, block := portBlock p, port := some p, value := some 2 }
          else
            (s.cmn.note
              { kind := .autoloopExit, block := portBlock p, port := some p, value := some 2 }).note
              { kind := .portDown, block := portBlock p, port := some p } }.answered b f (Answer.ok []))) ∧
    ((s.port p).mode = .localLoopback →
      exec .setDisabled s = .next ({ s.takeHead with
        ports := s.ports.modify p fun u : LinePort =>
          { u with
            mode := .disabled, persistence := none, rx := .down, front := Front.start, joined := false
            tx := if u.transmitting.isSome then u.tx else .silent }
        fsw := s.fsw.forget p
        bqm := (s.takeHead.bqm.letGo (s.port p).receiving).flush p
        cmn := s.cmn.note { kind := .portDown, block := portBlock p, port := some p } }.answered b f
        (Answer.ok [])))) ∧
  (∀ (s : State) (b : Nat) (f : Frame) (p : Port) (n a : Byte) (c : LoopCode) (row : Instr),
    s.Commanded b f → f.payload = [7, n, a] → n.toNat = codePort p →
    ((a = 5 ∧ c = .loopup ∧ row = .sendLoopup) ∨ (a = 6 ∧ c = .loopdown ∧ row = .sendLoopdown) ∨
      (a = 7 ∧ c = .none ∧ row = .stopLoopcode)) →
    ((s.port p).mode ≠ .remoteLoopback →
      exec row s = .next ({ s.takeHead with
        ports := s.ports.modify p fun u : LinePort => { u with loopCode := c } }.answered b f
        (Answer.ok []))) ∧
    ((s.port p).mode = .remoteLoopback →
      exec row s = .next ({ s.takeHead with
        ports := s.ports.modify p fun u : LinePort =>
          { u with mode := .normal, returnList := [], persistence := none, loopCode := c }
        bqm := s.takeHead.bqm.releaseAll (s.port p).returnList
        cmn := s.cmn.note
          { kind := .autoloopExit, block := portBlock p, port := some p, value := some 2 }
        }.answered b f (Answer.ok [])))) ∧
  (∀ (s : State) (b : Nat) (f : Frame) (n a : Byte), s.Commanded b f → f.payload = [7, n, a] →
    1 ≤ a.toNat → a.toNat ≤ 7 → n ≠ 1 → n ≠ 2 →
    ∃ g : Half, exec (rowOf f.payload) s =
      .next ({ s.takeHead with free := s.free + 1 }.answered b f
        { status := 3, reason := 3, figure := g.toNat, data := [] }))

/-- RESET_PART is refused with BUSY while the role is ACTIVE and the speed is not known standing. Accepted, it
is answered first: where no copy of the REPLY is queued, for want of a buffer or dropped at every port it is
routed to, the control reset follows at once, and otherwise when the last copy has been sent; the reset keeps
the tables, the attributes and the readings, takes the role INACTIVE and traction OFF, empties the lists, and
logs CONTROL_RESET with the sender (R43, R46, R50, R56, R178). A flush on automatic entry into REMOTE_LOOPBACK
that removes the last copy of the REPLY brings the reset on at once (R18, R56, R179). That the REPLY has the
free buffer of the lowest number is log entry 7; the count before the REPLY and the release after it are log
entry 13; that AUTOLOOP_ENTER is logged before CONTROL_RESET is log entry 50. -/
def Obligations.ResetPartWaitsForItsReply : Prop :=
  (∀ (s : State) (b : Nat) (f : Frame), s.Commanded b f → f.payload = [11] → s.cru.role = .active →
    s.standing = false →
    exec .resetPart s = .next (s.takeHead.answered b f
      { status := 3, reason := 5, figure := 0, data := [] })) ∧
  (∀ (s : State) (b : Nat) (f : Frame), s.Commanded b f → f.payload = [11] →
    (s.cru.role ≠ .active ∨ s.standing = true) →
    (s.bqm.firstFree = none ∨
      ∀ p, (s.routes (addrOf f.src)).get p = true → s.offerOutcome p 3 ≠ .queued) →
    ∃ (t : State) (c : Cmn), exec .resetPart s = .next t ∧ t.cru.role = .inactive ∧
      t.tdu.state = .off ∧
      t.jcu.contexts = [] ∧ t.bqm.ldq = [] ∧ t.mgu.pendingReset = none ∧ t.mgu.executed = 0 ∧
      (s.bqm.firstFree = none → c = s.cmn.count .buffer) ∧
      (s.bqm.firstFree.isSome = true →
        (∀ p, (s.routes (addrOf f.src)).get p = true → s.offerOutcome p 3 = .modeDrop) →
        c = s.cmn) ∧
      (s.bqm.firstFree.isSome = true → ∀ p, s.routes (addrOf f.src) =
          (Both.same false).set p true → s.offerOutcome p 3 = .tailDrop →
        c = s.cmn.count .buffer) ∧
      t.cmn = c.note { kind := .controlReset, block := .mgu, node := some (addrOf f.src) } ∧
      t.tdu.live = s.tdu.live ∧ t.tdu.odometer = s.tdu.odometer ∧
      t.tdu.movingTime = s.tdu.movingTime ∧ t.jcu.live = s.jcu.live ∧
      t.fsw.classes = s.fsw.classes ∧ t.bqm.maps = s.bqm.maps ∧ t.snu.patterns = s.snu.patterns ∧
      t.mgu.manager = s.mgu.manager ∧ t.own = s.own) ∧
  (∀ (s : State) (b c : Nat) (f : Frame), s.Commanded b f → f.payload = [11] →
    (s.cru.role ≠ .active ∨ s.standing = true) → s.bqm.firstFree = some c →
    (∃ p, (s.routes (addrOf f.src)).get p = true ∧ s.offerOutcome p 3 = .queued) →
    ∃ (t : State) (r : ResetReply), exec .resetPart s = .next t ∧ t.mgu.pendingReset = some (addrOf f.src) ∧
      t.mgu.executed = bump s.mgu.executed ∧ t.bqm.resetReply = some r ∧ r.buffer = c ∧
      (∀ p, r.undone.get p =
        ((s.routes (addrOf f.src)).get p && decide (s.offerOutcome p 3 = .queued))) ∧ t.cru = s.cru ∧ t.tdu = s.tdu ∧ t.jcu = s.jcu ∧ t.fsw = s.fsw) ∧
  (∀ (s : State) (p : Port) (c : Nat) (sender : Addr), (s.port p).tx = .sending c →
    s.mgu.pendingReset = some sender →
    (∃ r, s.bqm.resetReply = some r ∧ r.buffer = c ∧ r.undone.get p.other = false) →
    (s.cru.role ≠ .active ∨ s.standing = true) →
    ∃ t : State, exec (.frameSent p) s = .next t ∧ t.mgu.pendingReset = none ∧ t.cru.role = .inactive ∧
      (t.port p).sent = 0 ∧ (t.port p).mode = .normal ∧ (t.port p).tx = .fill ∧
      (∀ n, n < 4 → ((t.bqm.egress.get p).queue n).entries = []) ∧
      t.cmn = s.cmn.note { kind := .controlReset, block := .mgu, node := some sender }) ∧
  (∀ (s : State) (p : Port) (c : Nat) (sender : Addr), (s.port p).tx = .sending c →
    s.mgu.pendingReset = some sender →
    (∃ r, s.bqm.resetReply = some r ∧ r.buffer = c ∧ r.undone.get p.other = false) →
    s.cru.role = .active → s.standing = false →
    ∃ t : State, exec (.frameSent p) s = .next t ∧ t.mgu.pendingReset = none ∧ t.cru = s.cru ∧
      t.bqm.resetReply = none ∧ t.mgu.refused = bump s.mgu.refused ∧ t.cmn = s.cmn) ∧
  (∀ (s : State) (p : Port) (r : ResetReply) (sender : Addr), (s.port p).mode = .normal →
    (s.bqm.egress.get p).config.autoloop = true → s.cru.role = .inactive → (s.port p).rx = .hunt →
    (∃ x, (s.port p).persistence = some x ∧ x.code = .loopup ∧ 500000 ≤ x.micros) →
    s.mgu.pendingReset = some sender → s.bqm.resetReply = some r → r.undone.get p.other = false →
    (∃ n, n < 4 ∧ r.buffer ∈ ((s.bqm.egress.get p).queue n).entries) →
    ∃ t : State, exec (.autoloopEnter p) s = .next t ∧ t.mgu.pendingReset = none ∧
      t.bqm.resetReply = none ∧ t.cru.role = .inactive ∧ (t.port p).mode = .normal ∧
      (t.port p).rx = .hunt ∧ (∀ q n, n < 4 → (t.bqm.egress.get q).queue n =
        { entries := [], drops := 0, deficit := 0 }) ∧
      t.cmn = (s.cmn.note { kind := .autoloopEnter, block := portBlock p, port := some p }).note
        { kind := .controlReset, block := .mgu, node := some sender })

/-! ### The laws of the state, kept by every step -/

/-- The law of the pool (R41): each buffer's reference count equals the number of places holding it. Every
step keeps it, with what its upkeep rests on: a receiver's buffer is held there alone (R6, R42), a waiting
demand stands once in the queues of its port (R53, R54), a return list holds frames in REMOTE_LOOPBACK
alone (R16), and each Queue Map names queues below its queue count (R45). -/
def Obligations.BufferReferencesAreKept : Prop :=
  ∀ s t : State, s.BufferLaw → step s = .next t → t.BufferLaw

/-- The laws of the Condition Monitor (R160, R164, R166), kept by every step: each normalised value lies
in 1..100 with the worst value at or below it, the FAULT lamp is lit exactly while LOOP_LINK or SPEED_SOURCE
is tripped, and the log holds at most 32 entries, never more than were appended, each in its place. -/
def Obligations.ConditionLawsAreKept : Prop :=
  (∀ s t : State, s.cmn.AttributeLaw → step s = .next t → t.cmn.AttributeLaw) ∧
  (∀ s t : State, s.cmn.LogLaw → step s = .next t → t.cmn.LogLaw)

/-- The laws that follow the role, kept by every step: the traction state is OFF exactly while the role is
neither ACTIVE nor CONFLICT (R89, R90), the stop record is REQUESTED only while the role is ACTIVE, and the
STOP lamp is lit exactly while it is REQUESTED (R141, R147). -/
def Obligations.RoleLawsAreKept : Prop :=
  (∀ s t : State, s.TractionLaw → step s = .next t → t.TractionLaw) ∧
  (∀ s t : State, s.StopLaw → step s = .next t → t.StopLaw)

/-- The laws of the lists, kept by every step: at most 8 junction contexts and never two of one junction
(R123), at most 4 Cab Table entries in ascending order of address (R60), and the ROUTE lamp, the WARNING source
and the Junction Unit's claim of CAB_ALERT exactly as the contexts and the overflow flag have them (R136,
R137). -/
def Obligations.ListLawsAreKept : Prop :=
  (∀ s t : State, s.jcu.ListLaw → step s = .next t → t.jcu.ListLaw) ∧
  (∀ s t : State, s.cru.TableLaw → step s = .next t → t.cru.TableLaw) ∧
  (∀ s t : State, s.SignalLaw → step s = .next t → t.SignalLaw)

/-- The laws hold right after reset: of State.reset, and of every power-on reset whatever the straps and
whatever stood before it. -/
def Obligations.ResetMeetsTheLaws : Prop :=
  (∀ s : State, (s = State.reset ∨ ∃ (u : State) (straps : Addr), exec (.powerOnReset straps) u = .next s) →
    s.BufferLaw ∧ s.cmn.AttributeLaw ∧ s.cmn.LogLaw ∧ s.TractionLaw ∧ s.StopLaw ∧ s.jcu.ListLaw ∧
      s.cru.TableLaw ∧ s.SignalLaw)
end

