-- ==== Sys2Proof/Laws/State.lean ====
section
/-! SUPPORT. What each update of one unit leaves and sets, field by field, and what stands in a pair or
a table after a change. -/

namespace Sys2Proof

/-! ### Pairs and tables -/

@[simp] theorem Both.get_set_same {α : Type} (t : Both α) (p : Port) (x : α) : (t.set p x).get p = x := by
  cases p <;> rfl

@[simp] theorem Both.get_set_other {α : Type} (t : Both α) (p : Port) (x : α) :
    (t.set p x).get p.other = t.get p.other := by
  cases p <;> rfl

@[simp] theorem Both.get_set_self {α : Type} (t : Both α) (p : Port) (x : α) :
    (t.set p.other x).get p = t.get p := by
  cases p <;> rfl

@[simp] theorem Both.set_set {α : Type} (t : Both α) (p : Port) (x y : α) :
    (t.set p x).set p y = t.set p y := by
  cases p <;> rfl

@[simp] theorem Both.get_map {α β : Type} (f : α → β) (t : Both α) (p : Port) :
    (t.map f).get p = f (t.get p) := by
  cases p <;> rfl

@[simp] theorem Both.get_same {α : Type} (x : α) (p : Port) : (Both.same x).get p = x := by
  cases p <;> rfl

@[simp] theorem Both.get_modify_same {α : Type} (t : Both α) (p : Port) (f : α → α) :
    (t.modify p f).get p = f (t.get p) := by
  simp [Both.modify]

@[simp] theorem Both.get_modify_other {α : Type} (t : Both α) (p : Port) (f : α → α) :
    (t.modify p f).get p.other = t.get p.other := by
  simp [Both.modify]

@[simp] theorem Port.other_other (p : Port) : p.other.other = p := by
  cases p <;> rfl

theorem Port.other_ne (p : Port) : p.other ≠ p := by
  cases p <;> decide

/-- A port is one of the two. -/
theorem Port.eq_or_other (p q : Port) : q = p ∨ q = p.other := by
  cases p <;> cases q <;> simp [Port.other]

@[simp] theorem Tab.get_set_same {α : Type} {n : Nat} (t : Tab α n) (i : Nat) (x d : α) (h : i < n) :
    (t.set i x).get i d = x := by
  simp [Tab.get, Tab.set, List.getD, t.size, h]

@[simp] theorem Tab.get_set_ne {α : Type} {n : Nat} (t : Tab α n) (i j : Nat) (x d : α) (h : i ≠ j) :
    (t.set i x).get j d = t.get j d := by
  simp [Tab.get, Tab.set, List.getD, h]

/-- A change outside the table changes nothing. -/
theorem Tab.set_outside {α : Type} {n : Nat} (t : Tab α n) (i : Nat) (x : α) (h : n ≤ i) : t.set i x = t := by
  cases t with
  | mk l s => simp [Tab.set, List.set_eq_of_length_le (s ▸ h)]

@[simp] theorem Tab.get_map {α β : Type} {n : Nat} (f : α → β) (t : Tab α n) (i : Nat) (d : α) :
    (t.map f).get i (f d) = f (t.get i d) := by
  simp [Tab.get, Tab.map, List.getD]

/-- A property of every entry of a table is one of the entry read, or of the default. -/
theorem Tab.get_of_all {α : Type} {n : Nat} {P : α → Prop} (t : Tab α n) (i : Nat) (d : α)
    (h : ∀ x ∈ t.data, P x) (hd : P d) : P (t.get i d) := by
  simp only [Tab.get, List.getD]
  cases e : t.data[i]? with
  | none => exact hd
  | some x => exact h x (List.mem_of_getElem? e)

/-- A property of every entry is kept by a change to an entry that has it. -/
theorem Tab.all_set {α : Type} {n : Nat} {P : α → Prop} (t : Tab α n) (i : Nat) (x : α)
    (h : ∀ y ∈ t.data, P y) (hx : P x) : ∀ y ∈ (t.set i x).data, P y := by
  intro y hy
  rcases List.mem_or_eq_of_mem_set hy with hm | rfl
  · exact h y hm
  · exact hx

end Sys2Proof

namespace Sys2Proof.Machine

/-! ### A change of one unit -/

@[simp] theorem State.onFsw_own (s : State) (f : Fsw → Fsw) : (s.onFsw f).own = s.own := rfl
@[simp] theorem State.onFsw_ports (s : State) (f : Fsw → Fsw) : (s.onFsw f).ports = s.ports := rfl
@[simp] theorem State.onFsw_fsw (s : State) (f : Fsw → Fsw) : (s.onFsw f).fsw = f s.fsw := rfl
@[simp] theorem State.onFsw_bqm (s : State) (f : Fsw → Fsw) : (s.onFsw f).bqm = s.bqm := rfl
@[simp] theorem State.onFsw_cru (s : State) (f : Fsw → Fsw) : (s.onFsw f).cru = s.cru := rfl
@[simp] theorem State.onFsw_ciu (s : State) (f : Fsw → Fsw) : (s.onFsw f).ciu = s.ciu := rfl
@[simp] theorem State.onFsw_tdu (s : State) (f : Fsw → Fsw) : (s.onFsw f).tdu = s.tdu := rfl
@[simp] theorem State.onFsw_llu (s : State) (f : Fsw → Fsw) : (s.onFsw f).llu = s.llu := rfl
@[simp] theorem State.onFsw_jcu (s : State) (f : Fsw → Fsw) : (s.onFsw f).jcu = s.jcu := rfl
@[simp] theorem State.onFsw_sru (s : State) (f : Fsw → Fsw) : (s.onFsw f).sru = s.sru := rfl
@[simp] theorem State.onFsw_snu (s : State) (f : Fsw → Fsw) : (s.onFsw f).snu = s.snu := rfl
@[simp] theorem State.onFsw_cmn (s : State) (f : Fsw → Fsw) : (s.onFsw f).cmn = s.cmn := rfl
@[simp] theorem State.onFsw_mgu (s : State) (f : Fsw → Fsw) : (s.onFsw f).mgu = s.mgu := rfl
@[simp] theorem State.onFsw_pending (s : State) (f : Fsw → Fsw) : (s.onFsw f).pending = s.pending := rfl
@[simp] theorem State.onFsw_free (s : State) (f : Fsw → Fsw) : (s.onFsw f).free = s.free := rfl

@[simp] theorem State.onBqm_own (s : State) (f : Bqm → Bqm) : (s.onBqm f).own = s.own := rfl
@[simp] theorem State.onBqm_ports (s : State) (f : Bqm → Bqm) : (s.onBqm f).ports = s.ports := rfl
@[simp] theorem State.onBqm_fsw (s : State) (f : Bqm → Bqm) : (s.onBqm f).fsw = s.fsw := rfl
@[simp] theorem State.onBqm_bqm (s : State) (f : Bqm → Bqm) : (s.onBqm f).bqm = f s.bqm := rfl
@[simp] theorem State.onBqm_cru (s : State) (f : Bqm → Bqm) : (s.onBqm f).cru = s.cru := rfl
@[simp] theorem State.onBqm_ciu (s : State) (f : Bqm → Bqm) : (s.onBqm f).ciu = s.ciu := rfl
@[simp] theorem State.onBqm_tdu (s : State) (f : Bqm → Bqm) : (s.onBqm f).tdu = s.tdu := rfl
@[simp] theorem State.onBqm_llu (s : State) (f : Bqm → Bqm) : (s.onBqm f).llu = s.llu := rfl
@[simp] theorem State.onBqm_jcu (s : State) (f : Bqm → Bqm) : (s.onBqm f).jcu = s.jcu := rfl
@[simp] theorem State.onBqm_sru (s : State) (f : Bqm → Bqm) : (s.onBqm f).sru = s.sru := rfl
@[simp] theorem State.onBqm_snu (s : State) (f : Bqm → Bqm) : (s.onBqm f).snu = s.snu := rfl
@[simp] theorem State.onBqm_cmn (s : State) (f : Bqm → Bqm) : (s.onBqm f).cmn = s.cmn := rfl
@[simp] theorem State.onBqm_mgu (s : State) (f : Bqm → Bqm) : (s.onBqm f).mgu = s.mgu := rfl
@[simp] theorem State.onBqm_pending (s : State) (f : Bqm → Bqm) : (s.onBqm f).pending = s.pending := rfl
@[simp] theorem State.onBqm_free (s : State) (f : Bqm → Bqm) : (s.onBqm f).free = s.free := rfl

@[simp] theorem State.onCru_own (s : State) (f : Cru → Cru) : (s.onCru f).own = s.own := rfl
@[simp] theorem State.onCru_ports (s : State) (f : Cru → Cru) : (s.onCru f).ports = s.ports := rfl
@[simp] theorem State.onCru_fsw (s : State) (f : Cru → Cru) : (s.onCru f).fsw = s.fsw := rfl
@[simp] theorem State.onCru_bqm (s : State) (f : Cru → Cru) : (s.onCru f).bqm = s.bqm := rfl
@[simp] theorem State.onCru_cru (s : State) (f : Cru → Cru) : (s.onCru f).cru = f s.cru := rfl
@[simp] theorem State.onCru_ciu (s : State) (f : Cru → Cru) : (s.onCru f).ciu = s.ciu := rfl
@[simp] theorem State.onCru_tdu (s : State) (f : Cru → Cru) : (s.onCru f).tdu = s.tdu := rfl
@[simp] theorem State.onCru_llu (s : State) (f : Cru → Cru) : (s.onCru f).llu = s.llu := rfl
@[simp] theorem State.onCru_jcu (s : State) (f : Cru → Cru) : (s.onCru f).jcu = s.jcu := rfl
@[simp] theorem State.onCru_sru (s : State) (f : Cru → Cru) : (s.onCru f).sru = s.sru := rfl
@[simp] theorem State.onCru_snu (s : State) (f : Cru → Cru) : (s.onCru f).snu = s.snu := rfl
@[simp] theorem State.onCru_cmn (s : State) (f : Cru → Cru) : (s.onCru f).cmn = s.cmn := rfl
@[simp] theorem State.onCru_mgu (s : State) (f : Cru → Cru) : (s.onCru f).mgu = s.mgu := rfl
@[simp] theorem State.onCru_pending (s : State) (f : Cru → Cru) : (s.onCru f).pending = s.pending := rfl
@[simp] theorem State.onCru_free (s : State) (f : Cru → Cru) : (s.onCru f).free = s.free := rfl

@[simp] theorem State.onCiu_own (s : State) (f : Ciu → Ciu) : (s.onCiu f).own = s.own := rfl
@[simp] theorem State.onCiu_ports (s : State) (f : Ciu → Ciu) : (s.onCiu f).ports = s.ports := rfl
@[simp] theorem State.onCiu_fsw (s : State) (f : Ciu → Ciu) : (s.onCiu f).fsw = s.fsw := rfl
@[simp] theorem State.onCiu_bqm (s : State) (f : Ciu → Ciu) : (s.onCiu f).bqm = s.bqm := rfl
@[simp] theorem State.onCiu_cru (s : State) (f : Ciu → Ciu) : (s.onCiu f).cru = s.cru := rfl
@[simp] theorem State.onCiu_ciu (s : State) (f : Ciu → Ciu) : (s.onCiu f).ciu = f s.ciu := rfl
@[simp] theorem State.onCiu_tdu (s : State) (f : Ciu → Ciu) : (s.onCiu f).tdu = s.tdu := rfl
@[simp] theorem State.onCiu_llu (s : State) (f : Ciu → Ciu) : (s.onCiu f).llu = s.llu := rfl
@[simp] theorem State.onCiu_jcu (s : State) (f : Ciu → Ciu) : (s.onCiu f).jcu = s.jcu := rfl
@[simp] theorem State.onCiu_sru (s : State) (f : Ciu → Ciu) : (s.onCiu f).sru = s.sru := rfl
@[simp] theorem State.onCiu_snu (s : State) (f : Ciu → Ciu) : (s.onCiu f).snu = s.snu := rfl
@[simp] theorem State.onCiu_cmn (s : State) (f : Ciu → Ciu) : (s.onCiu f).cmn = s.cmn := rfl
@[simp] theorem State.onCiu_mgu (s : State) (f : Ciu → Ciu) : (s.onCiu f).mgu = s.mgu := rfl
@[simp] theorem State.onCiu_pending (s : State) (f : Ciu → Ciu) : (s.onCiu f).pending = s.pending := rfl
@[simp] theorem State.onCiu_free (s : State) (f : Ciu → Ciu) : (s.onCiu f).free = s.free := rfl

@[simp] theorem State.onTdu_own (s : State) (f : Tdu → Tdu) : (s.onTdu f).own = s.own := rfl
@[simp] theorem State.onTdu_ports (s : State) (f : Tdu → Tdu) : (s.onTdu f).ports = s.ports := rfl
@[simp] theorem State.onTdu_fsw (s : State) (f : Tdu → Tdu) : (s.onTdu f).fsw = s.fsw := rfl
@[simp] theorem State.onTdu_bqm (s : State) (f : Tdu → Tdu) : (s.onTdu f).bqm = s.bqm := rfl
@[simp] theorem State.onTdu_cru (s : State) (f : Tdu → Tdu) : (s.onTdu f).cru = s.cru := rfl
@[simp] theorem State.onTdu_ciu (s : State) (f : Tdu → Tdu) : (s.onTdu f).ciu = s.ciu := rfl
@[simp] theorem State.onTdu_tdu (s : State) (f : Tdu → Tdu) : (s.onTdu f).tdu = f s.tdu := rfl
@[simp] theorem State.onTdu_llu (s : State) (f : Tdu → Tdu) : (s.onTdu f).llu = s.llu := rfl
@[simp] theorem State.onTdu_jcu (s : State) (f : Tdu → Tdu) : (s.onTdu f).jcu = s.jcu := rfl
@[simp] theorem State.onTdu_sru (s : State) (f : Tdu → Tdu) : (s.onTdu f).sru = s.sru := rfl
@[simp] theorem State.onTdu_snu (s : State) (f : Tdu → Tdu) : (s.onTdu f).snu = s.snu := rfl
@[simp] theorem State.onTdu_cmn (s : State) (f : Tdu → Tdu) : (s.onTdu f).cmn = s.cmn := rfl
@[simp] theorem State.onTdu_mgu (s : State) (f : Tdu → Tdu) : (s.onTdu f).mgu = s.mgu := rfl
@[simp] theorem State.onTdu_pending (s : State) (f : Tdu → Tdu) : (s.onTdu f).pending = s.pending := rfl
@[simp] theorem State.onTdu_free (s : State) (f : Tdu → Tdu) : (s.onTdu f).free = s.free := rfl

@[simp] theorem State.onLlu_own (s : State) (f : Llu → Llu) : (s.onLlu f).own = s.own := rfl
@[simp] theorem State.onLlu_ports (s : State) (f : Llu → Llu) : (s.onLlu f).ports = s.ports := rfl
@[simp] theorem State.onLlu_fsw (s : State) (f : Llu → Llu) : (s.onLlu f).fsw = s.fsw := rfl
@[simp] theorem State.onLlu_bqm (s : State) (f : Llu → Llu) : (s.onLlu f).bqm = s.bqm := rfl
@[simp] theorem State.onLlu_cru (s : State) (f : Llu → Llu) : (s.onLlu f).cru = s.cru := rfl
@[simp] theorem State.onLlu_ciu (s : State) (f : Llu → Llu) : (s.onLlu f).ciu = s.ciu := rfl
@[simp] theorem State.onLlu_tdu (s : State) (f : Llu → Llu) : (s.onLlu f).tdu = s.tdu := rfl
@[simp] theorem State.onLlu_llu (s : State) (f : Llu → Llu) : (s.onLlu f).llu = f s.llu := rfl
@[simp] theorem State.onLlu_jcu (s : State) (f : Llu → Llu) : (s.onLlu f).jcu = s.jcu := rfl
@[simp] theorem State.onLlu_sru (s : State) (f : Llu → Llu) : (s.onLlu f).sru = s.sru := rfl
@[simp] theorem State.onLlu_snu (s : State) (f : Llu → Llu) : (s.onLlu f).snu = s.snu := rfl
@[simp] theorem State.onLlu_cmn (s : State) (f : Llu → Llu) : (s.onLlu f).cmn = s.cmn := rfl
@[simp] theorem State.onLlu_mgu (s : State) (f : Llu → Llu) : (s.onLlu f).mgu = s.mgu := rfl
@[simp] theorem State.onLlu_pending (s : State) (f : Llu → Llu) : (s.onLlu f).pending = s.pending := rfl
@[simp] theorem State.onLlu_free (s : State) (f : Llu → Llu) : (s.onLlu f).free = s.free := rfl

@[simp] theorem State.onJcu_own (s : State) (f : Jcu → Jcu) : (s.onJcu f).own = s.own := rfl
@[simp] theorem State.onJcu_ports (s : State) (f : Jcu → Jcu) : (s.onJcu f).ports = s.ports := rfl
@[simp] theorem State.onJcu_fsw (s : State) (f : Jcu → Jcu) : (s.onJcu f).fsw = s.fsw := rfl
@[simp] theorem State.onJcu_bqm (s : State) (f : Jcu → Jcu) : (s.onJcu f).bqm = s.bqm := rfl
@[simp] theorem State.onJcu_cru (s : State) (f : Jcu → Jcu) : (s.onJcu f).cru = s.cru := rfl
@[simp] theorem State.onJcu_ciu (s : State) (f : Jcu → Jcu) : (s.onJcu f).ciu = s.ciu := rfl
@[simp] theorem State.onJcu_tdu (s : State) (f : Jcu → Jcu) : (s.onJcu f).tdu = s.tdu := rfl
@[simp] theorem State.onJcu_llu (s : State) (f : Jcu → Jcu) : (s.onJcu f).llu = s.llu := rfl
@[simp] theorem State.onJcu_jcu (s : State) (f : Jcu → Jcu) : (s.onJcu f).jcu = f s.jcu := rfl
@[simp] theorem State.onJcu_sru (s : State) (f : Jcu → Jcu) : (s.onJcu f).sru = s.sru := rfl
@[simp] theorem State.onJcu_snu (s : State) (f : Jcu → Jcu) : (s.onJcu f).snu = s.snu := rfl
@[simp] theorem State.onJcu_cmn (s : State) (f : Jcu → Jcu) : (s.onJcu f).cmn = s.cmn := rfl
@[simp] theorem State.onJcu_mgu (s : State) (f : Jcu → Jcu) : (s.onJcu f).mgu = s.mgu := rfl
@[simp] theorem State.onJcu_pending (s : State) (f : Jcu → Jcu) : (s.onJcu f).pending = s.pending := rfl
@[simp] theorem State.onJcu_free (s : State) (f : Jcu → Jcu) : (s.onJcu f).free = s.free := rfl

@[simp] theorem State.onSru_own (s : State) (f : Sru → Sru) : (s.onSru f).own = s.own := rfl
@[simp] theorem State.onSru_ports (s : State) (f : Sru → Sru) : (s.onSru f).ports = s.ports := rfl
@[simp] theorem State.onSru_fsw (s : State) (f : Sru → Sru) : (s.onSru f).fsw = s.fsw := rfl
@[simp] theorem State.onSru_bqm (s : State) (f : Sru → Sru) : (s.onSru f).bqm = s.bqm := rfl
@[simp] theorem State.onSru_cru (s : State) (f : Sru → Sru) : (s.onSru f).cru = s.cru := rfl
@[simp] theorem State.onSru_ciu (s : State) (f : Sru → Sru) : (s.onSru f).ciu = s.ciu := rfl
@[simp] theorem State.onSru_tdu (s : State) (f : Sru → Sru) : (s.onSru f).tdu = s.tdu := rfl
@[simp] theorem State.onSru_llu (s : State) (f : Sru → Sru) : (s.onSru f).llu = s.llu := rfl
@[simp] theorem State.onSru_jcu (s : State) (f : Sru → Sru) : (s.onSru f).jcu = s.jcu := rfl
@[simp] theorem State.onSru_sru (s : State) (f : Sru → Sru) : (s.onSru f).sru = f s.sru := rfl
@[simp] theorem State.onSru_snu (s : State) (f : Sru → Sru) : (s.onSru f).snu = s.snu := rfl
@[simp] theorem State.onSru_cmn (s : State) (f : Sru → Sru) : (s.onSru f).cmn = s.cmn := rfl
@[simp] theorem State.onSru_mgu (s : State) (f : Sru → Sru) : (s.onSru f).mgu = s.mgu := rfl
@[simp] theorem State.onSru_pending (s : State) (f : Sru → Sru) : (s.onSru f).pending = s.pending := rfl
@[simp] theorem State.onSru_free (s : State) (f : Sru → Sru) : (s.onSru f).free = s.free := rfl

@[simp] theorem State.onSnu_own (s : State) (f : Snu → Snu) : (s.onSnu f).own = s.own := rfl
@[simp] theorem State.onSnu_ports (s : State) (f : Snu → Snu) : (s.onSnu f).ports = s.ports := rfl
@[simp] theorem State.onSnu_fsw (s : State) (f : Snu → Snu) : (s.onSnu f).fsw = s.fsw := rfl
@[simp] theorem State.onSnu_bqm (s : State) (f : Snu → Snu) : (s.onSnu f).bqm = s.bqm := rfl
@[simp] theorem State.onSnu_cru (s : State) (f : Snu → Snu) : (s.onSnu f).cru = s.cru := rfl
@[simp] theorem State.onSnu_ciu (s : State) (f : Snu → Snu) : (s.onSnu f).ciu = s.ciu := rfl
@[simp] theorem State.onSnu_tdu (s : State) (f : Snu → Snu) : (s.onSnu f).tdu = s.tdu := rfl
@[simp] theorem State.onSnu_llu (s : State) (f : Snu → Snu) : (s.onSnu f).llu = s.llu := rfl
@[simp] theorem State.onSnu_jcu (s : State) (f : Snu → Snu) : (s.onSnu f).jcu = s.jcu := rfl
@[simp] theorem State.onSnu_sru (s : State) (f : Snu → Snu) : (s.onSnu f).sru = s.sru := rfl
@[simp] theorem State.onSnu_snu (s : State) (f : Snu → Snu) : (s.onSnu f).snu = f s.snu := rfl
@[simp] theorem State.onSnu_cmn (s : State) (f : Snu → Snu) : (s.onSnu f).cmn = s.cmn := rfl
@[simp] theorem State.onSnu_mgu (s : State) (f : Snu → Snu) : (s.onSnu f).mgu = s.mgu := rfl
@[simp] theorem State.onSnu_pending (s : State) (f : Snu → Snu) : (s.onSnu f).pending = s.pending := rfl
@[simp] theorem State.onSnu_free (s : State) (f : Snu → Snu) : (s.onSnu f).free = s.free := rfl

@[simp] theorem State.onCmn_own (s : State) (f : Cmn → Cmn) : (s.onCmn f).own = s.own := rfl
@[simp] theorem State.onCmn_ports (s : State) (f : Cmn → Cmn) : (s.onCmn f).ports = s.ports := rfl
@[simp] theorem State.onCmn_fsw (s : State) (f : Cmn → Cmn) : (s.onCmn f).fsw = s.fsw := rfl
@[simp] theorem State.onCmn_bqm (s : State) (f : Cmn → Cmn) : (s.onCmn f).bqm = s.bqm := rfl
@[simp] theorem State.onCmn_cru (s : State) (f : Cmn → Cmn) : (s.onCmn f).cru = s.cru := rfl
@[simp] theorem State.onCmn_ciu (s : State) (f : Cmn → Cmn) : (s.onCmn f).ciu = s.ciu := rfl
@[simp] theorem State.onCmn_tdu (s : State) (f : Cmn → Cmn) : (s.onCmn f).tdu = s.tdu := rfl
@[simp] theorem State.onCmn_llu (s : State) (f : Cmn → Cmn) : (s.onCmn f).llu = s.llu := rfl
@[simp] theorem State.onCmn_jcu (s : State) (f : Cmn → Cmn) : (s.onCmn f).jcu = s.jcu := rfl
@[simp] theorem State.onCmn_sru (s : State) (f : Cmn → Cmn) : (s.onCmn f).sru = s.sru := rfl
@[simp] theorem State.onCmn_snu (s : State) (f : Cmn → Cmn) : (s.onCmn f).snu = s.snu := rfl
@[simp] theorem State.onCmn_cmn (s : State) (f : Cmn → Cmn) : (s.onCmn f).cmn = f s.cmn := rfl
@[simp] theorem State.onCmn_mgu (s : State) (f : Cmn → Cmn) : (s.onCmn f).mgu = s.mgu := rfl
@[simp] theorem State.onCmn_pending (s : State) (f : Cmn → Cmn) : (s.onCmn f).pending = s.pending := rfl
@[simp] theorem State.onCmn_free (s : State) (f : Cmn → Cmn) : (s.onCmn f).free = s.free := rfl

@[simp] theorem State.onMgu_own (s : State) (f : Mgu → Mgu) : (s.onMgu f).own = s.own := rfl
@[simp] theorem State.onMgu_ports (s : State) (f : Mgu → Mgu) : (s.onMgu f).ports = s.ports := rfl
@[simp] theorem State.onMgu_fsw (s : State) (f : Mgu → Mgu) : (s.onMgu f).fsw = s.fsw := rfl
@[simp] theorem State.onMgu_bqm (s : State) (f : Mgu → Mgu) : (s.onMgu f).bqm = s.bqm := rfl
@[simp] theorem State.onMgu_cru (s : State) (f : Mgu → Mgu) : (s.onMgu f).cru = s.cru := rfl
@[simp] theorem State.onMgu_ciu (s : State) (f : Mgu → Mgu) : (s.onMgu f).ciu = s.ciu := rfl
@[simp] theorem State.onMgu_tdu (s : State) (f : Mgu → Mgu) : (s.onMgu f).tdu = s.tdu := rfl
@[simp] theorem State.onMgu_llu (s : State) (f : Mgu → Mgu) : (s.onMgu f).llu = s.llu := rfl
@[simp] theorem State.onMgu_jcu (s : State) (f : Mgu → Mgu) : (s.onMgu f).jcu = s.jcu := rfl
@[simp] theorem State.onMgu_sru (s : State) (f : Mgu → Mgu) : (s.onMgu f).sru = s.sru := rfl
@[simp] theorem State.onMgu_snu (s : State) (f : Mgu → Mgu) : (s.onMgu f).snu = s.snu := rfl
@[simp] theorem State.onMgu_cmn (s : State) (f : Mgu → Mgu) : (s.onMgu f).cmn = s.cmn := rfl
@[simp] theorem State.onMgu_mgu (s : State) (f : Mgu → Mgu) : (s.onMgu f).mgu = f s.mgu := rfl
@[simp] theorem State.onMgu_pending (s : State) (f : Mgu → Mgu) : (s.onMgu f).pending = s.pending := rfl
@[simp] theorem State.onMgu_free (s : State) (f : Mgu → Mgu) : (s.onMgu f).free = s.free := rfl

@[simp] theorem State.onPort_own (s : State) (p : Port) (f : LinePort → LinePort) :
    (s.onPort p f).own = s.own := rfl
@[simp] theorem State.onPort_ports (s : State) (p : Port) (f : LinePort → LinePort) :
    (s.onPort p f).ports = s.ports.modify p f := rfl
@[simp] theorem State.onPort_fsw (s : State) (p : Port) (f : LinePort → LinePort) :
    (s.onPort p f).fsw = s.fsw := rfl
@[simp] theorem State.onPort_bqm (s : State) (p : Port) (f : LinePort → LinePort) :
    (s.onPort p f).bqm = s.bqm := rfl
@[simp] theorem State.onPort_cru (s : State) (p : Port) (f : LinePort → LinePort) :
    (s.onPort p f).cru = s.cru := rfl
@[simp] theorem State.onPort_ciu (s : State) (p : Port) (f : LinePort → LinePort) :
    (s.onPort p f).ciu = s.ciu := rfl
@[simp] theorem State.onPort_tdu (s : State) (p : Port) (f : LinePort → LinePort) :
    (s.onPort p f).tdu = s.tdu := rfl
@[simp] theorem State.onPort_llu (s : State) (p : Port) (f : LinePort → LinePort) :
    (s.onPort p f).llu = s.llu := rfl
@[simp] theorem State.onPort_jcu (s : State) (p : Port) (f : LinePort → LinePort) :
    (s.onPort p f).jcu = s.jcu := rfl
@[simp] theorem State.onPort_sru (s : State) (p : Port) (f : LinePort → LinePort) :
    (s.onPort p f).sru = s.sru := rfl
@[simp] theorem State.onPort_snu (s : State) (p : Port) (f : LinePort → LinePort) :
    (s.onPort p f).snu = s.snu := rfl
@[simp] theorem State.onPort_cmn (s : State) (p : Port) (f : LinePort → LinePort) :
    (s.onPort p f).cmn = s.cmn := rfl
@[simp] theorem State.onPort_mgu (s : State) (p : Port) (f : LinePort → LinePort) :
    (s.onPort p f).mgu = s.mgu := rfl
@[simp] theorem State.onPort_pending (s : State) (p : Port) (f : LinePort → LinePort) :
    (s.onPort p f).pending = s.pending := rfl
@[simp] theorem State.onPort_free (s : State) (p : Port) (f : LinePort → LinePort) :
    (s.onPort p f).free = s.free := rfl

@[simp] theorem State.draw_own (s : State) : s.draw.own = s.own := rfl
@[simp] theorem State.draw_ports (s : State) : s.draw.ports = s.ports := rfl
@[simp] theorem State.draw_fsw (s : State) : s.draw.fsw = s.fsw := rfl
@[simp] theorem State.draw_bqm (s : State) : s.draw.bqm = s.bqm := rfl
@[simp] theorem State.draw_cru (s : State) : s.draw.cru = s.cru := rfl
@[simp] theorem State.draw_ciu (s : State) : s.draw.ciu = s.ciu := rfl
@[simp] theorem State.draw_tdu (s : State) : s.draw.tdu = s.tdu := rfl
@[simp] theorem State.draw_llu (s : State) : s.draw.llu = s.llu := rfl
@[simp] theorem State.draw_jcu (s : State) : s.draw.jcu = s.jcu := rfl
@[simp] theorem State.draw_sru (s : State) : s.draw.sru = s.sru := rfl
@[simp] theorem State.draw_snu (s : State) : s.draw.snu = s.snu := rfl
@[simp] theorem State.draw_cmn (s : State) : s.draw.cmn = s.cmn := rfl
@[simp] theorem State.draw_mgu (s : State) : s.draw.mgu = s.mgu := rfl
@[simp] theorem State.draw_pending (s : State) : s.draw.pending = s.pending := rfl
@[simp] theorem State.draw_free (s : State) : s.draw.free = s.free + 1 := rfl

/-! ### A change of one port -/

@[simp] theorem State.port_onPort_same (s : State) (p : Port) (f : LinePort → LinePort) :
    (s.onPort p f).port p = f (s.port p) := by
  simp [State.port]

@[simp] theorem State.port_onPort_other (s : State) (p : Port) (f : LinePort → LinePort) :
    (s.onPort p f).port p.other = s.port p.other := by
  simp [State.port]

end Sys2Proof.Machine
end

