-- ==== Sys2Proof/Laws/Frames.lean ====
section
/-! SUPPORT. The frame of each shared operation: the units it leaves as they stand. An operation's name
is followed by `_keeps`. -/

namespace Sys2Proof.Machine

/-- A fact that one move keeps is kept by a chain of moves. -/
theorem foldl_keeps {σ α β : Type} (g : σ → β) (f : σ → α → σ) (h : ∀ s x, g (f s x) = g s) (l : List α)
    (s : σ) : g (l.foldl f s) = g s := by
  induction l generalizing s with
  | nil => rfl
  | cons x l ih => rw [List.foldl_cons, ih, h]

/-! ### Ops -/

@[simp] theorem State.log_keeps (s : State) (i : LogInfo) :
    (s.log i).own = s.own ∧ (s.log i).ports = s.ports ∧ (s.log i).fsw = s.fsw ∧
    (s.log i).bqm = s.bqm ∧ (s.log i).cru = s.cru ∧ (s.log i).ciu = s.ciu ∧ (s.log i).tdu = s.tdu ∧
    (s.log i).llu = s.llu ∧ (s.log i).jcu = s.jcu ∧ (s.log i).sru = s.sru ∧ (s.log i).snu = s.snu ∧
    (s.log i).mgu = s.mgu ∧ (s.log i).pending = s.pending ∧ (s.log i).free = s.free := by
  simp [State.log]

@[simp] theorem State.count_keeps (s : State) (a : Attr) :
    (s.count a).own = s.own ∧ (s.count a).ports = s.ports ∧ (s.count a).fsw = s.fsw ∧
    (s.count a).bqm = s.bqm ∧ (s.count a).cru = s.cru ∧ (s.count a).ciu = s.ciu ∧
    (s.count a).tdu = s.tdu ∧ (s.count a).llu = s.llu ∧ (s.count a).jcu = s.jcu ∧
    (s.count a).sru = s.sru ∧ (s.count a).snu = s.snu ∧ (s.count a).mgu = s.mgu ∧
    (s.count a).pending = s.pending ∧ (s.count a).free = s.free := by
  simp [State.count]

@[simp] theorem State.enqueue_keeps (s : State) (p : Port) (priority : Nat) (b : Nat) :
    (s.enqueue p priority b).own = s.own ∧ (s.enqueue p priority b).ports = s.ports ∧
    (s.enqueue p priority b).fsw = s.fsw ∧ (s.enqueue p priority b).cru = s.cru ∧
    (s.enqueue p priority b).ciu = s.ciu ∧ (s.enqueue p priority b).tdu = s.tdu ∧
    (s.enqueue p priority b).llu = s.llu ∧ (s.enqueue p priority b).jcu = s.jcu ∧
    (s.enqueue p priority b).sru = s.sru ∧ (s.enqueue p priority b).snu = s.snu ∧
    (s.enqueue p priority b).mgu = s.mgu ∧ (s.enqueue p priority b).pending = s.pending ∧
    (s.enqueue p priority b).free = s.free := by
  unfold State.enqueue; split <;> simp

@[simp] theorem State.offerAt_keeps (s : State) (ports : Both Bool) (priority : Nat) (b : Nat) :
    (s.offerAt ports priority b).own = s.own ∧ (s.offerAt ports priority b).ports = s.ports ∧
    (s.offerAt ports priority b).fsw = s.fsw ∧ (s.offerAt ports priority b).cru = s.cru ∧
    (s.offerAt ports priority b).ciu = s.ciu ∧ (s.offerAt ports priority b).tdu = s.tdu ∧
    (s.offerAt ports priority b).llu = s.llu ∧ (s.offerAt ports priority b).jcu = s.jcu ∧
    (s.offerAt ports priority b).sru = s.sru ∧ (s.offerAt ports priority b).snu = s.snu ∧
    (s.offerAt ports priority b).mgu = s.mgu ∧ (s.offerAt ports priority b).pending = s.pending ∧
    (s.offerAt ports priority b).free = s.free := by
  unfold State.offerAt; (repeat' split) <;> simp

@[simp] theorem State.ownFailure_keeps (s : State) :
    (s.ownFailure).own = s.own ∧ (s.ownFailure).ports = s.ports ∧ (s.ownFailure).fsw = s.fsw ∧
    (s.ownFailure).cru = s.cru ∧ (s.ownFailure).ciu = s.ciu ∧ (s.ownFailure).tdu = s.tdu ∧
    (s.ownFailure).llu = s.llu ∧ (s.ownFailure).jcu = s.jcu ∧ (s.ownFailure).sru = s.sru ∧
    (s.ownFailure).snu = s.snu ∧ (s.ownFailure).mgu = s.mgu ∧ (s.ownFailure).pending = s.pending ∧
    (s.ownFailure).free = s.free := by
  simp [State.ownFailure]

@[simp] theorem State.sendOwn_keeps (s : State) (priority : Nat) (f : Frame) :
    (s.sendOwn priority f).own = s.own ∧ (s.sendOwn priority f).ports = s.ports ∧
    (s.sendOwn priority f).fsw = s.fsw ∧ (s.sendOwn priority f).cru = s.cru ∧
    (s.sendOwn priority f).ciu = s.ciu ∧ (s.sendOwn priority f).tdu = s.tdu ∧
    (s.sendOwn priority f).llu = s.llu ∧ (s.sendOwn priority f).jcu = s.jcu ∧
    (s.sendOwn priority f).sru = s.sru ∧ (s.sendOwn priority f).snu = s.snu ∧
    (s.sendOwn priority f).mgu = s.mgu ∧ (s.sendOwn priority f).pending = s.pending ∧
    (s.sendOwn priority f).free = s.free := by
  unfold State.sendOwn; split <;> simp

/-! ### Queues -/

@[simp] theorem State.ask_keeps (s : State) (p : Port) :
    (s.ask p).own = s.own ∧ (s.ask p).fsw = s.fsw ∧ (s.ask p).cru = s.cru ∧ (s.ask p).ciu = s.ciu ∧
    (s.ask p).tdu = s.tdu ∧ (s.ask p).llu = s.llu ∧ (s.ask p).jcu = s.jcu ∧ (s.ask p).sru = s.sru ∧
    (s.ask p).snu = s.snu ∧ (s.ask p).cmn = s.cmn ∧ (s.ask p).mgu = s.mgu ∧
    (s.ask p).pending = s.pending ∧ (s.ask p).free = s.free := by
  unfold State.ask; dsimp only; (repeat' split) <;> simp

@[simp] theorem State.deliver_keeps (s : State) (b : Nat) :
    (s.deliver b).own = s.own ∧ (s.deliver b).ports = s.ports ∧ (s.deliver b).fsw = s.fsw ∧
    (s.deliver b).cru = s.cru ∧ (s.deliver b).ciu = s.ciu ∧ (s.deliver b).tdu = s.tdu ∧
    (s.deliver b).llu = s.llu ∧ (s.deliver b).jcu = s.jcu ∧ (s.deliver b).sru = s.sru ∧
    (s.deliver b).snu = s.snu ∧ (s.deliver b).mgu = s.mgu ∧ (s.deliver b).pending = s.pending ∧
    (s.deliver b).free = s.free := by
  unfold State.deliver; split <;> simp

@[simp] theorem State.takeHead_keeps (s : State) :
    (s.takeHead).own = s.own ∧ (s.takeHead).ports = s.ports ∧ (s.takeHead).fsw = s.fsw ∧
    (s.takeHead).cru = s.cru ∧ (s.takeHead).ciu = s.ciu ∧ (s.takeHead).tdu = s.tdu ∧
    (s.takeHead).llu = s.llu ∧ (s.takeHead).jcu = s.jcu ∧ (s.takeHead).sru = s.sru ∧
    (s.takeHead).snu = s.snu ∧ (s.takeHead).cmn = s.cmn ∧ (s.takeHead).mgu = s.mgu ∧
    (s.takeHead).pending = s.pending ∧ (s.takeHead).free = s.free := by
  simp [State.takeHead]

@[simp] theorem State.consumed_keeps (s : State) (b : Nat) :
    (s.consumed b).own = s.own ∧ (s.consumed b).ports = s.ports ∧ (s.consumed b).fsw = s.fsw ∧
    (s.consumed b).cru = s.cru ∧ (s.consumed b).ciu = s.ciu ∧ (s.consumed b).tdu = s.tdu ∧
    (s.consumed b).llu = s.llu ∧ (s.consumed b).jcu = s.jcu ∧ (s.consumed b).sru = s.sru ∧
    (s.consumed b).snu = s.snu ∧ (s.consumed b).cmn = s.cmn ∧ (s.consumed b).mgu = s.mgu ∧
    (s.consumed b).pending = s.pending ∧ (s.consumed b).free = s.free := by
  simp [State.consumed]

@[simp] theorem State.offerTail_keeps (s : State) (p : Port) (b : Nat) :
    (s.offerTail p b).own = s.own ∧ (s.offerTail p b).ports = s.ports ∧
    (s.offerTail p b).fsw = s.fsw ∧ (s.offerTail p b).cru = s.cru ∧ (s.offerTail p b).ciu = s.ciu ∧
    (s.offerTail p b).tdu = s.tdu ∧ (s.offerTail p b).llu = s.llu ∧ (s.offerTail p b).jcu = s.jcu ∧
    (s.offerTail p b).sru = s.sru ∧ (s.offerTail p b).snu = s.snu ∧ (s.offerTail p b).mgu = s.mgu ∧
    (s.offerTail p b).pending = s.pending ∧ (s.offerTail p b).free = s.free := by
  simp [State.offerTail]

@[simp] theorem State.slotInPlace_keeps (s : State) (p : Port) (b : Nat) :
    (s.slotInPlace p b).own = s.own ∧ (s.slotInPlace p b).ports = s.ports ∧
    (s.slotInPlace p b).fsw = s.fsw ∧ (s.slotInPlace p b).cru = s.cru ∧
    (s.slotInPlace p b).ciu = s.ciu ∧ (s.slotInPlace p b).tdu = s.tdu ∧
    (s.slotInPlace p b).llu = s.llu ∧ (s.slotInPlace p b).jcu = s.jcu ∧
    (s.slotInPlace p b).sru = s.sru ∧ (s.slotInPlace p b).snu = s.snu ∧
    (s.slotInPlace p b).mgu = s.mgu ∧ (s.slotInPlace p b).pending = s.pending ∧
    (s.slotInPlace p b).free = s.free := by
  unfold State.slotInPlace; split <;> simp

@[simp] theorem State.slotNew_keeps (s : State) (p : Port) (b : Nat) :
    (s.slotNew p b).own = s.own ∧ (s.slotNew p b).ports = s.ports ∧ (s.slotNew p b).fsw = s.fsw ∧
    (s.slotNew p b).cru = s.cru ∧ (s.slotNew p b).ciu = s.ciu ∧ (s.slotNew p b).tdu = s.tdu ∧
    (s.slotNew p b).llu = s.llu ∧ (s.slotNew p b).jcu = s.jcu ∧ (s.slotNew p b).sru = s.sru ∧
    (s.slotNew p b).snu = s.snu ∧ (s.slotNew p b).mgu = s.mgu ∧
    (s.slotNew p b).pending = s.pending ∧ (s.slotNew p b).free = s.free := by
  unfold State.slotNew; split <;> simp

@[simp] theorem State.offerDemand_keeps (s : State) (f : Frame) (d : Int) :
    (s.offerDemand f d).own = s.own ∧ (s.offerDemand f d).ports = s.ports ∧
    (s.offerDemand f d).fsw = s.fsw ∧ (s.offerDemand f d).cru = s.cru ∧
    (s.offerDemand f d).ciu = s.ciu ∧ (s.offerDemand f d).tdu = s.tdu ∧
    (s.offerDemand f d).llu = s.llu ∧ (s.offerDemand f d).jcu = s.jcu ∧
    (s.offerDemand f d).sru = s.sru ∧ (s.offerDemand f d).snu = s.snu ∧
    (s.offerDemand f d).mgu = s.mgu ∧ (s.offerDemand f d).pending = s.pending ∧
    (s.offerDemand f d).free = s.free := by
  unfold State.offerDemand; (repeat' split) <;> simp

/-! ### Reset -/

@[simp] theorem State.controlResetUnits_keeps (s : State) :
    (s.controlResetUnits).own = s.own ∧ (s.controlResetUnits).cmn = s.cmn ∧
    (s.controlResetUnits).pending = s.pending ∧ (s.controlResetUnits).free = s.free := by
  simp [State.controlResetUnits]

@[simp] theorem State.controlReset_keeps (s : State) (sender : Addr) :
    (s.controlReset sender).own = s.own ∧ (s.controlReset sender).pending = s.pending ∧
    (s.controlReset sender).free = s.free := by
  simp [State.controlReset]

@[simp] theorem State.abandonReset_keeps (s : State) :
    (s.abandonReset).own = s.own ∧ (s.abandonReset).ports = s.ports ∧ (s.abandonReset).fsw = s.fsw ∧
    (s.abandonReset).cru = s.cru ∧ (s.abandonReset).ciu = s.ciu ∧ (s.abandonReset).tdu = s.tdu ∧
    (s.abandonReset).llu = s.llu ∧ (s.abandonReset).jcu = s.jcu ∧ (s.abandonReset).sru = s.sru ∧
    (s.abandonReset).snu = s.snu ∧ (s.abandonReset).cmn = s.cmn ∧
    (s.abandonReset).pending = s.pending ∧ (s.abandonReset).free = s.free := by
  simp [State.abandonReset]

@[simp] theorem State.settleReset_keeps (s : State) :
    (s.settleReset).own = s.own ∧ (s.settleReset).pending = s.pending ∧
    (s.settleReset).free = s.free := by
  unfold State.settleReset; (repeat' split) <;> simp

/-! ### Ports -/

@[simp] theorem State.releaseReception_keeps (s : State) (p : Port) :
    (s.releaseReception p).own = s.own ∧ (s.releaseReception p).ports = s.ports ∧
    (s.releaseReception p).fsw = s.fsw ∧ (s.releaseReception p).cru = s.cru ∧
    (s.releaseReception p).ciu = s.ciu ∧ (s.releaseReception p).tdu = s.tdu ∧
    (s.releaseReception p).llu = s.llu ∧ (s.releaseReception p).jcu = s.jcu ∧
    (s.releaseReception p).sru = s.sru ∧ (s.releaseReception p).snu = s.snu ∧
    (s.releaseReception p).cmn = s.cmn ∧ (s.releaseReception p).mgu = s.mgu ∧
    (s.releaseReception p).pending = s.pending ∧ (s.releaseReception p).free = s.free := by
  unfold State.releaseReception; split <;> simp

@[simp] theorem State.setRx_keeps (s : State) (p : Port) (x : RxState) :
    (s.setRx p x).own = s.own ∧ (s.setRx p x).fsw = s.fsw ∧ (s.setRx p x).bqm = s.bqm ∧
    (s.setRx p x).cru = s.cru ∧ (s.setRx p x).ciu = s.ciu ∧ (s.setRx p x).tdu = s.tdu ∧
    (s.setRx p x).llu = s.llu ∧ (s.setRx p x).jcu = s.jcu ∧ (s.setRx p x).sru = s.sru ∧
    (s.setRx p x).snu = s.snu ∧ (s.setRx p x).cmn = s.cmn ∧ (s.setRx p x).mgu = s.mgu ∧
    (s.setRx p x).pending = s.pending ∧ (s.setRx p x).free = s.free := by
  simp [State.setRx]

@[simp] theorem State.dropReception_keeps (s : State) (p : Port) :
    (s.dropReception p).own = s.own ∧ (s.dropReception p).fsw = s.fsw ∧
    (s.dropReception p).cru = s.cru ∧ (s.dropReception p).ciu = s.ciu ∧
    (s.dropReception p).tdu = s.tdu ∧ (s.dropReception p).llu = s.llu ∧
    (s.dropReception p).jcu = s.jcu ∧ (s.dropReception p).sru = s.sru ∧
    (s.dropReception p).snu = s.snu ∧ (s.dropReception p).cmn = s.cmn ∧
    (s.dropReception p).mgu = s.mgu ∧ (s.dropReception p).pending = s.pending ∧
    (s.dropReception p).free = s.free := by
  simp [State.dropReception]

@[simp] theorem State.lineError_keeps (s : State) (p : Port) (latch : Latches → Latches) (after : RxState) :
    (s.lineError p latch after).own = s.own ∧ (s.lineError p latch after).fsw = s.fsw ∧
    (s.lineError p latch after).cru = s.cru ∧ (s.lineError p latch after).ciu = s.ciu ∧
    (s.lineError p latch after).tdu = s.tdu ∧ (s.lineError p latch after).llu = s.llu ∧
    (s.lineError p latch after).jcu = s.jcu ∧ (s.lineError p latch after).sru = s.sru ∧
    (s.lineError p latch after).snu = s.snu ∧ (s.lineError p latch after).mgu = s.mgu ∧
    (s.lineError p latch after).pending = s.pending ∧ (s.lineError p latch after).free = s.free := by
  simp [State.lineError]

@[simp] theorem State.enterLocal_keeps (s : State) (p : Port) :
    (s.enterLocal p).own = s.own ∧ (s.enterLocal p).fsw = s.fsw ∧ (s.enterLocal p).cru = s.cru ∧
    (s.enterLocal p).ciu = s.ciu ∧ (s.enterLocal p).tdu = s.tdu ∧ (s.enterLocal p).llu = s.llu ∧
    (s.enterLocal p).jcu = s.jcu ∧ (s.enterLocal p).sru = s.sru ∧ (s.enterLocal p).snu = s.snu ∧
    (s.enterLocal p).cmn = s.cmn ∧ (s.enterLocal p).mgu = s.mgu ∧
    (s.enterLocal p).pending = s.pending ∧ (s.enterLocal p).free = s.free := by
  simp [State.enterLocal]

@[simp] theorem State.enterRemote_keeps (s : State) (p : Port) :
    (s.enterRemote p).own = s.own ∧ (s.enterRemote p).fsw = s.fsw ∧ (s.enterRemote p).cru = s.cru ∧
    (s.enterRemote p).ciu = s.ciu ∧ (s.enterRemote p).tdu = s.tdu ∧ (s.enterRemote p).llu = s.llu ∧
    (s.enterRemote p).jcu = s.jcu ∧ (s.enterRemote p).sru = s.sru ∧ (s.enterRemote p).snu = s.snu ∧
    (s.enterRemote p).cmn = s.cmn ∧ (s.enterRemote p).mgu = s.mgu ∧
    (s.enterRemote p).pending = s.pending ∧ (s.enterRemote p).free = s.free := by
  simp [State.enterRemote]

@[simp] theorem State.downByDisable_keeps (s : State) (p : Port) :
    (s.downByDisable p).own = s.own ∧ (s.downByDisable p).cru = s.cru ∧
    (s.downByDisable p).ciu = s.ciu ∧ (s.downByDisable p).tdu = s.tdu ∧
    (s.downByDisable p).llu = s.llu ∧ (s.downByDisable p).jcu = s.jcu ∧
    (s.downByDisable p).sru = s.sru ∧ (s.downByDisable p).snu = s.snu ∧
    (s.downByDisable p).mgu = s.mgu ∧ (s.downByDisable p).pending = s.pending ∧
    (s.downByDisable p).free = s.free := by
  unfold State.downByDisable; split <;> simp

@[simp] theorem State.enterDisabled_keeps (s : State) (p : Port) :
    (s.enterDisabled p).own = s.own ∧ (s.enterDisabled p).cru = s.cru ∧
    (s.enterDisabled p).ciu = s.ciu ∧ (s.enterDisabled p).tdu = s.tdu ∧
    (s.enterDisabled p).llu = s.llu ∧ (s.enterDisabled p).jcu = s.jcu ∧
    (s.enterDisabled p).sru = s.sru ∧ (s.enterDisabled p).snu = s.snu ∧
    (s.enterDisabled p).mgu = s.mgu ∧ (s.enterDisabled p).pending = s.pending ∧
    (s.enterDisabled p).free = s.free := by
  simp [State.enterDisabled]

@[simp] theorem State.exitRemote_keeps (s : State) (p : Port) (cause : Int) :
    (s.exitRemote p cause).own = s.own ∧ (s.exitRemote p cause).fsw = s.fsw ∧
    (s.exitRemote p cause).cru = s.cru ∧ (s.exitRemote p cause).ciu = s.ciu ∧
    (s.exitRemote p cause).tdu = s.tdu ∧ (s.exitRemote p cause).llu = s.llu ∧
    (s.exitRemote p cause).jcu = s.jcu ∧ (s.exitRemote p cause).sru = s.sru ∧
    (s.exitRemote p cause).snu = s.snu ∧ (s.exitRemote p cause).mgu = s.mgu ∧
    (s.exitRemote p cause).pending = s.pending ∧ (s.exitRemote p cause).free = s.free := by
  simp [State.exitRemote]

@[simp] theorem State.exitLocal_keeps (s : State) (p : Port) :
    (s.exitLocal p).own = s.own ∧ (s.exitLocal p).fsw = s.fsw ∧ (s.exitLocal p).cru = s.cru ∧
    (s.exitLocal p).ciu = s.ciu ∧ (s.exitLocal p).tdu = s.tdu ∧ (s.exitLocal p).llu = s.llu ∧
    (s.exitLocal p).jcu = s.jcu ∧ (s.exitLocal p).sru = s.sru ∧ (s.exitLocal p).snu = s.snu ∧
    (s.exitLocal p).cmn = s.cmn ∧ (s.exitLocal p).mgu = s.mgu ∧
    (s.exitLocal p).pending = s.pending ∧ (s.exitLocal p).free = s.free := by
  simp [State.exitLocal]

@[simp] theorem State.exitDisabled_keeps (s : State) (p : Port) :
    (s.exitDisabled p).own = s.own ∧ (s.exitDisabled p).fsw = s.fsw ∧
    (s.exitDisabled p).bqm = s.bqm ∧ (s.exitDisabled p).cru = s.cru ∧
    (s.exitDisabled p).ciu = s.ciu ∧ (s.exitDisabled p).tdu = s.tdu ∧
    (s.exitDisabled p).llu = s.llu ∧ (s.exitDisabled p).jcu = s.jcu ∧
    (s.exitDisabled p).sru = s.sru ∧ (s.exitDisabled p).snu = s.snu ∧
    (s.exitDisabled p).cmn = s.cmn ∧ (s.exitDisabled p).mgu = s.mgu ∧
    (s.exitDisabled p).pending = s.pending ∧ (s.exitDisabled p).free = s.free := by
  simp [State.exitDisabled]

@[simp] theorem State.leaveMode_keeps (s : State) (p : Port) (cause : Int) :
    (s.leaveMode p cause).own = s.own ∧ (s.leaveMode p cause).fsw = s.fsw ∧
    (s.leaveMode p cause).cru = s.cru ∧ (s.leaveMode p cause).ciu = s.ciu ∧
    (s.leaveMode p cause).tdu = s.tdu ∧ (s.leaveMode p cause).llu = s.llu ∧
    (s.leaveMode p cause).jcu = s.jcu ∧ (s.leaveMode p cause).sru = s.sru ∧
    (s.leaveMode p cause).snu = s.snu ∧ (s.leaveMode p cause).mgu = s.mgu ∧
    (s.leaveMode p cause).pending = s.pending ∧ (s.leaveMode p cause).free = s.free := by
  unfold State.leaveMode; split <;> simp

@[simp] theorem State.enterMode_keeps (s : State) (p : Port) (m : PortMode) :
    (s.enterMode p m).own = s.own ∧ (s.enterMode p m).cru = s.cru ∧ (s.enterMode p m).ciu = s.ciu ∧
    (s.enterMode p m).tdu = s.tdu ∧ (s.enterMode p m).llu = s.llu ∧ (s.enterMode p m).jcu = s.jcu ∧
    (s.enterMode p m).sru = s.sru ∧ (s.enterMode p m).snu = s.snu ∧ (s.enterMode p m).mgu = s.mgu ∧
    (s.enterMode p m).pending = s.pending ∧ (s.enterMode p m).free = s.free := by
  unfold State.enterMode; split <;> simp

@[simp] theorem State.changeMode_keeps (s : State) (p : Port) (m : PortMode) :
    (s.changeMode p m).own = s.own ∧ (s.changeMode p m).cru = s.cru ∧
    (s.changeMode p m).ciu = s.ciu ∧ (s.changeMode p m).tdu = s.tdu ∧
    (s.changeMode p m).llu = s.llu ∧ (s.changeMode p m).jcu = s.jcu ∧
    (s.changeMode p m).sru = s.sru ∧ (s.changeMode p m).snu = s.snu ∧
    (s.changeMode p m).mgu = s.mgu ∧ (s.changeMode p m).pending = s.pending ∧
    (s.changeMode p m).free = s.free := by
  unfold State.changeMode; split <;> simp

@[simp] theorem State.setLoopCode_keeps (s : State) (p : Port) (c : LoopCode) :
    (s.setLoopCode p c).own = s.own ∧ (s.setLoopCode p c).fsw = s.fsw ∧
    (s.setLoopCode p c).cru = s.cru ∧ (s.setLoopCode p c).ciu = s.ciu ∧
    (s.setLoopCode p c).tdu = s.tdu ∧ (s.setLoopCode p c).llu = s.llu ∧
    (s.setLoopCode p c).jcu = s.jcu ∧ (s.setLoopCode p c).sru = s.sru ∧
    (s.setLoopCode p c).snu = s.snu ∧ (s.setLoopCode p c).mgu = s.mgu ∧
    (s.setLoopCode p c).pending = s.pending ∧ (s.setLoopCode p c).free = s.free := by
  unfold State.setLoopCode; split <;> simp

@[simp] theorem State.unloop_keeps (s : State) (p : Port) (cause : Int) :
    (s.unloop p cause).own = s.own ∧ (s.unloop p cause).fsw = s.fsw ∧
    (s.unloop p cause).cru = s.cru ∧ (s.unloop p cause).ciu = s.ciu ∧
    (s.unloop p cause).tdu = s.tdu ∧ (s.unloop p cause).llu = s.llu ∧
    (s.unloop p cause).jcu = s.jcu ∧ (s.unloop p cause).sru = s.sru ∧
    (s.unloop p cause).snu = s.snu ∧ (s.unloop p cause).mgu = s.mgu ∧
    (s.unloop p cause).pending = s.pending ∧ (s.unloop p cause).free = s.free := by
  unfold State.unloop; split <;> simp

@[simp] theorem State.unloopBoth_keeps (s : State) (cause : Int) :
    (s.unloopBoth cause).own = s.own ∧ (s.unloopBoth cause).fsw = s.fsw ∧
    (s.unloopBoth cause).cru = s.cru ∧ (s.unloopBoth cause).ciu = s.ciu ∧
    (s.unloopBoth cause).tdu = s.tdu ∧ (s.unloopBoth cause).llu = s.llu ∧
    (s.unloopBoth cause).jcu = s.jcu ∧ (s.unloopBoth cause).sru = s.sru ∧
    (s.unloopBoth cause).snu = s.snu ∧ (s.unloopBoth cause).mgu = s.mgu ∧
    (s.unloopBoth cause).pending = s.pending ∧ (s.unloopBoth cause).free = s.free := by
  simp [State.unloopBoth]

/-! ### Switch -/

@[simp] theorem State.ownSourceSeen_keeps (s : State) (p : Port) :
    (s.ownSourceSeen p).own = s.own ∧ (s.ownSourceSeen p).ports = s.ports ∧
    (s.ownSourceSeen p).bqm = s.bqm ∧ (s.ownSourceSeen p).cru = s.cru ∧
    (s.ownSourceSeen p).ciu = s.ciu ∧ (s.ownSourceSeen p).tdu = s.tdu ∧
    (s.ownSourceSeen p).llu = s.llu ∧ (s.ownSourceSeen p).jcu = s.jcu ∧
    (s.ownSourceSeen p).sru = s.sru ∧ (s.ownSourceSeen p).snu = s.snu ∧
    (s.ownSourceSeen p).mgu = s.mgu ∧ (s.ownSourceSeen p).pending = s.pending ∧
    (s.ownSourceSeen p).free = s.free := by
  unfold State.ownSourceSeen; split <;> simp

@[simp] theorem State.handOn_keeps (s : State) (p : Port) (b : Nat) (f : Frame) (localCopy forward : Bool) :
    (s.handOn p b f localCopy forward).own = s.own ∧
    (s.handOn p b f localCopy forward).ports = s.ports ∧
    (s.handOn p b f localCopy forward).cru = s.cru ∧
    (s.handOn p b f localCopy forward).ciu = s.ciu ∧
    (s.handOn p b f localCopy forward).tdu = s.tdu ∧
    (s.handOn p b f localCopy forward).llu = s.llu ∧
    (s.handOn p b f localCopy forward).jcu = s.jcu ∧
    (s.handOn p b f localCopy forward).sru = s.sru ∧
    (s.handOn p b f localCopy forward).snu = s.snu ∧
    (s.handOn p b f localCopy forward).mgu = s.mgu ∧
    (s.handOn p b f localCopy forward).pending = s.pending ∧
    (s.handOn p b f localCopy forward).free = s.free := by
  unfold State.handOn; (repeat' split) <;> simp

@[simp] theorem State.classify_keeps (s : State) (p : Port) (b : Nat) (f : Frame) :
    (s.classify p b f).own = s.own ∧ (s.classify p b f).ports = s.ports ∧
    (s.classify p b f).cru = s.cru ∧ (s.classify p b f).ciu = s.ciu ∧
    (s.classify p b f).tdu = s.tdu ∧ (s.classify p b f).llu = s.llu ∧
    (s.classify p b f).jcu = s.jcu ∧ (s.classify p b f).sru = s.sru ∧
    (s.classify p b f).snu = s.snu ∧ (s.classify p b f).mgu = s.mgu ∧
    (s.classify p b f).pending = s.pending ∧ (s.classify p b f).free = s.free := by
  unfold State.classify; dsimp only; (repeat' split) <;> simp

/-! ### Traction -/

@[simp] theorem State.tractionOff_keeps (s : State) :
    (s.tractionOff).own = s.own ∧ (s.tractionOff).ports = s.ports ∧ (s.tractionOff).fsw = s.fsw ∧
    (s.tractionOff).bqm = s.bqm ∧ (s.tractionOff).cru = s.cru ∧ (s.tractionOff).ciu = s.ciu ∧
    (s.tractionOff).llu = s.llu ∧ (s.tractionOff).jcu = s.jcu ∧ (s.tractionOff).sru = s.sru ∧
    (s.tractionOff).cmn = s.cmn ∧ (s.tractionOff).mgu = s.mgu ∧
    (s.tractionOff).pending = s.pending ∧ (s.tractionOff).free = s.free := by
  unfold State.tractionOff; split <;> simp

@[simp] theorem State.tractionHold_keeps (s : State) :
    (s.tractionHold).own = s.own ∧ (s.tractionHold).ports = s.ports ∧ (s.tractionHold).fsw = s.fsw ∧
    (s.tractionHold).bqm = s.bqm ∧ (s.tractionHold).cru = s.cru ∧ (s.tractionHold).ciu = s.ciu ∧
    (s.tractionHold).llu = s.llu ∧ (s.tractionHold).jcu = s.jcu ∧ (s.tractionHold).sru = s.sru ∧
    (s.tractionHold).snu = s.snu ∧ (s.tractionHold).cmn = s.cmn ∧ (s.tractionHold).mgu = s.mgu ∧
    (s.tractionHold).pending = s.pending ∧ (s.tractionHold).free = s.free := by
  unfold State.tractionHold; split <;> simp

@[simp] theorem State.tractionRun_keeps (s : State) :
    (s.tractionRun).own = s.own ∧ (s.tractionRun).ports = s.ports ∧ (s.tractionRun).fsw = s.fsw ∧
    (s.tractionRun).bqm = s.bqm ∧ (s.tractionRun).cru = s.cru ∧ (s.tractionRun).ciu = s.ciu ∧
    (s.tractionRun).llu = s.llu ∧ (s.tractionRun).jcu = s.jcu ∧ (s.tractionRun).sru = s.sru ∧
    (s.tractionRun).snu = s.snu ∧ (s.tractionRun).cmn = s.cmn ∧ (s.tractionRun).mgu = s.mgu ∧
    (s.tractionRun).pending = s.pending ∧ (s.tractionRun).free = s.free := by
  unfold State.tractionRun; split <;> simp

@[simp] theorem State.emitDemand_keeps (s : State) (d : Int) (g : DemandFlags) (c : Int) :
    (s.emitDemand d g c).own = s.own ∧ (s.emitDemand d g c).ports = s.ports ∧
    (s.emitDemand d g c).fsw = s.fsw ∧ (s.emitDemand d g c).cru = s.cru ∧
    (s.emitDemand d g c).ciu = s.ciu ∧ (s.emitDemand d g c).llu = s.llu ∧
    (s.emitDemand d g c).jcu = s.jcu ∧ (s.emitDemand d g c).sru = s.sru ∧
    (s.emitDemand d g c).snu = s.snu ∧ (s.emitDemand d g c).mgu = s.mgu ∧
    (s.emitDemand d g c).pending = s.pending ∧ (s.emitDemand d g c).free = s.free := by
  unfold State.emitDemand; split <;> simp

@[simp] theorem State.brake_keeps (s : State) (cause : Int) :
    (s.brake cause).own = s.own ∧ (s.brake cause).ports = s.ports ∧ (s.brake cause).fsw = s.fsw ∧
    (s.brake cause).bqm = s.bqm ∧ (s.brake cause).cru = s.cru ∧ (s.brake cause).ciu = s.ciu ∧
    (s.brake cause).llu = s.llu ∧ (s.brake cause).jcu = s.jcu ∧ (s.brake cause).sru = s.sru ∧
    (s.brake cause).mgu = s.mgu ∧ (s.brake cause).pending = s.pending ∧
    (s.brake cause).free = s.free := by
  simp [State.brake]

@[simp] theorem State.emergencyFrame_keeps (s : State) :
    (s.emergencyFrame).own = s.own ∧ (s.emergencyFrame).ports = s.ports ∧
    (s.emergencyFrame).fsw = s.fsw ∧ (s.emergencyFrame).cru = s.cru ∧
    (s.emergencyFrame).ciu = s.ciu ∧ (s.emergencyFrame).llu = s.llu ∧
    (s.emergencyFrame).jcu = s.jcu ∧ (s.emergencyFrame).sru = s.sru ∧
    (s.emergencyFrame).snu = s.snu ∧ (s.emergencyFrame).mgu = s.mgu ∧
    (s.emergencyFrame).pending = s.pending ∧ (s.emergencyFrame).free = s.free := by
  simp [State.emergencyFrame]

@[simp] theorem State.emergency_keeps (s : State) (cause : Int) :
    (s.emergency cause).own = s.own ∧ (s.emergency cause).ports = s.ports ∧
    (s.emergency cause).fsw = s.fsw ∧ (s.emergency cause).cru = s.cru ∧
    (s.emergency cause).ciu = s.ciu ∧ (s.emergency cause).llu = s.llu ∧
    (s.emergency cause).jcu = s.jcu ∧ (s.emergency cause).sru = s.sru ∧
    (s.emergency cause).mgu = s.mgu ∧ (s.emergency cause).pending = s.pending ∧
    (s.emergency cause).free = s.free := by
  simp [State.emergency]

@[simp] theorem State.tractionStart_keeps (s : State) :
    (s.tractionStart).own = s.own ∧ (s.tractionStart).ports = s.ports ∧
    (s.tractionStart).fsw = s.fsw ∧ (s.tractionStart).bqm = s.bqm ∧ (s.tractionStart).cru = s.cru ∧
    (s.tractionStart).ciu = s.ciu ∧ (s.tractionStart).llu = s.llu ∧ (s.tractionStart).jcu = s.jcu ∧
    (s.tractionStart).sru = s.sru ∧ (s.tractionStart).mgu = s.mgu ∧
    (s.tractionStart).pending = s.pending ∧ (s.tractionStart).free = s.free := by
  unfold State.tractionStart; (repeat' split) <;> simp

@[simp] theorem State.deadmanChange_keeps (s : State) (held : Bool) :
    (s.deadmanChange held).own = s.own ∧ (s.deadmanChange held).ports = s.ports ∧
    (s.deadmanChange held).fsw = s.fsw ∧ (s.deadmanChange held).bqm = s.bqm ∧
    (s.deadmanChange held).cru = s.cru ∧ (s.deadmanChange held).ciu = s.ciu ∧
    (s.deadmanChange held).llu = s.llu ∧ (s.deadmanChange held).jcu = s.jcu ∧
    (s.deadmanChange held).sru = s.sru ∧ (s.deadmanChange held).snu = s.snu ∧
    (s.deadmanChange held).cmn = s.cmn ∧ (s.deadmanChange held).mgu = s.mgu ∧
    (s.deadmanChange held).pending = s.pending ∧ (s.deadmanChange held).free = s.free := by
  unfold State.deadmanChange; (repeat' split) <;> simp

@[simp] theorem State.estopChange_keeps (s : State) (operated : Bool) :
    (s.estopChange operated).own = s.own ∧ (s.estopChange operated).ports = s.ports ∧
    (s.estopChange operated).fsw = s.fsw ∧ (s.estopChange operated).cru = s.cru ∧
    (s.estopChange operated).ciu = s.ciu ∧ (s.estopChange operated).llu = s.llu ∧
    (s.estopChange operated).jcu = s.jcu ∧ (s.estopChange operated).sru = s.sru ∧
    (s.estopChange operated).mgu = s.mgu ∧ (s.estopChange operated).pending = s.pending ∧
    (s.estopChange operated).free = s.free := by
  unfold State.estopChange; split <;> simp

@[simp] theorem State.writeSlot_keeps (s : State) (i : Nat) (x : Slot) :
    (s.writeSlot i x).own = s.own ∧ (s.writeSlot i x).ports = s.ports ∧
    (s.writeSlot i x).fsw = s.fsw ∧ (s.writeSlot i x).bqm = s.bqm ∧ (s.writeSlot i x).cru = s.cru ∧
    (s.writeSlot i x).ciu = s.ciu ∧ (s.writeSlot i x).llu = s.llu ∧ (s.writeSlot i x).jcu = s.jcu ∧
    (s.writeSlot i x).sru = s.sru ∧ (s.writeSlot i x).snu = s.snu ∧ (s.writeSlot i x).mgu = s.mgu ∧
    (s.writeSlot i x).pending = s.pending ∧ (s.writeSlot i x).free = s.free := by
  unfold State.writeSlot; dsimp only; split <;> simp

@[simp] theorem State.placeReport_keeps (s : State) (x : Slot) :
    (s.placeReport x).own = s.own ∧ (s.placeReport x).ports = s.ports ∧
    (s.placeReport x).fsw = s.fsw ∧ (s.placeReport x).bqm = s.bqm ∧ (s.placeReport x).cru = s.cru ∧
    (s.placeReport x).ciu = s.ciu ∧ (s.placeReport x).llu = s.llu ∧ (s.placeReport x).jcu = s.jcu ∧
    (s.placeReport x).sru = s.sru ∧ (s.placeReport x).snu = s.snu ∧ (s.placeReport x).mgu = s.mgu ∧
    (s.placeReport x).pending = s.pending ∧ (s.placeReport x).free = s.free := by
  unfold State.placeReport; (repeat' split) <;> simp

@[simp] theorem State.inverterStatus_keeps (s : State) (f : Frame) :
    (s.inverterStatus f).own = s.own ∧ (s.inverterStatus f).ports = s.ports ∧
    (s.inverterStatus f).fsw = s.fsw ∧ (s.inverterStatus f).bqm = s.bqm ∧
    (s.inverterStatus f).cru = s.cru ∧ (s.inverterStatus f).ciu = s.ciu ∧
    (s.inverterStatus f).llu = s.llu ∧ (s.inverterStatus f).jcu = s.jcu ∧
    (s.inverterStatus f).sru = s.sru ∧ (s.inverterStatus f).snu = s.snu ∧
    (s.inverterStatus f).mgu = s.mgu ∧ (s.inverterStatus f).pending = s.pending ∧
    (s.inverterStatus f).free = s.free := by
  unfold State.inverterStatus; split <;> simp

@[simp] theorem State.findSpeed_keeps (s : State) :
    (s.findSpeed).own = s.own ∧ (s.findSpeed).ports = s.ports ∧ (s.findSpeed).fsw = s.fsw ∧
    (s.findSpeed).bqm = s.bqm ∧ (s.findSpeed).cru = s.cru ∧ (s.findSpeed).ciu = s.ciu ∧
    (s.findSpeed).llu = s.llu ∧ (s.findSpeed).jcu = s.jcu ∧ (s.findSpeed).sru = s.sru ∧
    (s.findSpeed).snu = s.snu ∧ (s.findSpeed).mgu = s.mgu ∧ (s.findSpeed).pending = s.pending ∧
    (s.findSpeed).free = s.free := by
  unfold State.findSpeed; dsimp only; split <;> simp

@[simp] theorem State.leaveEmergency_keeps (s : State) (dh : Int) :
    (s.leaveEmergency dh).own = s.own ∧ (s.leaveEmergency dh).ports = s.ports ∧
    (s.leaveEmergency dh).fsw = s.fsw ∧ (s.leaveEmergency dh).bqm = s.bqm ∧
    (s.leaveEmergency dh).cru = s.cru ∧ (s.leaveEmergency dh).ciu = s.ciu ∧
    (s.leaveEmergency dh).llu = s.llu ∧ (s.leaveEmergency dh).jcu = s.jcu ∧
    (s.leaveEmergency dh).sru = s.sru ∧ (s.leaveEmergency dh).cmn = s.cmn ∧
    (s.leaveEmergency dh).mgu = s.mgu ∧ (s.leaveEmergency dh).pending = s.pending ∧
    (s.leaveEmergency dh).free = s.free := by
  unfold State.leaveEmergency; split <;> simp

@[simp] theorem State.slipOnset_keeps (s : State) (slip : Bool) :
    (s.slipOnset slip).own = s.own ∧ (s.slipOnset slip).ports = s.ports ∧
    (s.slipOnset slip).fsw = s.fsw ∧ (s.slipOnset slip).bqm = s.bqm ∧
    (s.slipOnset slip).cru = s.cru ∧ (s.slipOnset slip).ciu = s.ciu ∧
    (s.slipOnset slip).tdu = s.tdu ∧ (s.slipOnset slip).llu = s.llu ∧
    (s.slipOnset slip).jcu = s.jcu ∧ (s.slipOnset slip).sru = s.sru ∧
    (s.slipOnset slip).snu = s.snu ∧ (s.slipOnset slip).mgu = s.mgu ∧
    (s.slipOnset slip).pending = s.pending ∧ (s.slipOnset slip).free = s.free := by
  unfold State.slipOnset; split <;> simp

@[simp] theorem State.drivePeriod_keeps (s : State) (p : Profile) (dh c : Int) :
    (s.drivePeriod p dh c).own = s.own ∧ (s.drivePeriod p dh c).ports = s.ports ∧
    (s.drivePeriod p dh c).fsw = s.fsw ∧ (s.drivePeriod p dh c).cru = s.cru ∧
    (s.drivePeriod p dh c).ciu = s.ciu ∧ (s.drivePeriod p dh c).llu = s.llu ∧
    (s.drivePeriod p dh c).jcu = s.jcu ∧ (s.drivePeriod p dh c).sru = s.sru ∧
    (s.drivePeriod p dh c).snu = s.snu ∧ (s.drivePeriod p dh c).mgu = s.mgu ∧
    (s.drivePeriod p dh c).pending = s.pending ∧ (s.drivePeriod p dh c).free = s.free := by
  simp [State.drivePeriod]

@[simp] theorem State.brakePeriod_keeps (s : State) (dh c : Int) :
    (s.brakePeriod dh c).own = s.own ∧ (s.brakePeriod dh c).ports = s.ports ∧
    (s.brakePeriod dh c).fsw = s.fsw ∧ (s.brakePeriod dh c).cru = s.cru ∧
    (s.brakePeriod dh c).ciu = s.ciu ∧ (s.brakePeriod dh c).llu = s.llu ∧
    (s.brakePeriod dh c).jcu = s.jcu ∧ (s.brakePeriod dh c).sru = s.sru ∧
    (s.brakePeriod dh c).snu = s.snu ∧ (s.brakePeriod dh c).mgu = s.mgu ∧
    (s.brakePeriod dh c).pending = s.pending := by
  simp [State.brakePeriod]

@[simp] theorem State.deadmanCheck_keeps (s : State) :
    (s.deadmanCheck).own = s.own ∧ (s.deadmanCheck).ports = s.ports ∧ (s.deadmanCheck).fsw = s.fsw ∧
    (s.deadmanCheck).bqm = s.bqm ∧ (s.deadmanCheck).cru = s.cru ∧ (s.deadmanCheck).ciu = s.ciu ∧
    (s.deadmanCheck).llu = s.llu ∧ (s.deadmanCheck).jcu = s.jcu ∧ (s.deadmanCheck).sru = s.sru ∧
    (s.deadmanCheck).snu = s.snu ∧ (s.deadmanCheck).cmn = s.cmn ∧ (s.deadmanCheck).mgu = s.mgu ∧
    (s.deadmanCheck).pending = s.pending ∧ (s.deadmanCheck).free = s.free := by
  unfold State.deadmanCheck; split <;> simp

@[simp] theorem State.drawHandle_keeps (s : State) :
    (s.drawHandle).own = s.own ∧ (s.drawHandle).ports = s.ports ∧ (s.drawHandle).fsw = s.fsw ∧
    (s.drawHandle).bqm = s.bqm ∧ (s.drawHandle).cru = s.cru ∧ (s.drawHandle).ciu = s.ciu ∧
    (s.drawHandle).tdu = s.tdu ∧ (s.drawHandle).llu = s.llu ∧ (s.drawHandle).jcu = s.jcu ∧
    (s.drawHandle).sru = s.sru ∧ (s.drawHandle).snu = s.snu ∧ (s.drawHandle).cmn = s.cmn ∧
    (s.drawHandle).mgu = s.mgu ∧ (s.drawHandle).pending = s.pending := by
  unfold State.drawHandle; split <;> simp

@[simp] theorem State.computeDemand_keeps (s : State) (p : Profile) :
    (s.computeDemand p).own = s.own ∧ (s.computeDemand p).ports = s.ports ∧
    (s.computeDemand p).fsw = s.fsw ∧ (s.computeDemand p).cru = s.cru ∧
    (s.computeDemand p).ciu = s.ciu ∧ (s.computeDemand p).llu = s.llu ∧
    (s.computeDemand p).jcu = s.jcu ∧ (s.computeDemand p).sru = s.sru ∧
    (s.computeDemand p).mgu = s.mgu ∧ (s.computeDemand p).pending = s.pending := by
  unfold State.computeDemand; dsimp only; split <;> simp

/-! ### Stop -/

@[simp] theorem State.indicate_keeps (s : State) :
    (s.indicate).own = s.own ∧ (s.indicate).ports = s.ports ∧ (s.indicate).fsw = s.fsw ∧
    (s.indicate).cru = s.cru ∧ (s.indicate).ciu = s.ciu ∧ (s.indicate).tdu = s.tdu ∧
    (s.indicate).llu = s.llu ∧ (s.indicate).jcu = s.jcu ∧ (s.indicate).snu = s.snu ∧
    (s.indicate).mgu = s.mgu ∧ (s.indicate).pending = s.pending ∧ (s.indicate).free = s.free := by
  unfold State.indicate; split <;> simp

@[simp] theorem State.indicateRequested_keeps (s : State) :
    (s.indicateRequested).own = s.own ∧ (s.indicateRequested).ports = s.ports ∧
    (s.indicateRequested).fsw = s.fsw ∧ (s.indicateRequested).cru = s.cru ∧
    (s.indicateRequested).ciu = s.ciu ∧ (s.indicateRequested).tdu = s.tdu ∧
    (s.indicateRequested).llu = s.llu ∧ (s.indicateRequested).jcu = s.jcu ∧
    (s.indicateRequested).snu = s.snu ∧ (s.indicateRequested).mgu = s.mgu ∧
    (s.indicateRequested).pending = s.pending ∧ (s.indicateRequested).free = s.free := by
  simp [State.indicateRequested]

@[simp] theorem State.firstPress_keeps (s : State) (door : Nat) (accessible : Bool) :
    (s.firstPress door accessible).own = s.own ∧ (s.firstPress door accessible).ports = s.ports ∧
    (s.firstPress door accessible).fsw = s.fsw ∧ (s.firstPress door accessible).cru = s.cru ∧
    (s.firstPress door accessible).ciu = s.ciu ∧ (s.firstPress door accessible).tdu = s.tdu ∧
    (s.firstPress door accessible).llu = s.llu ∧ (s.firstPress door accessible).jcu = s.jcu ∧
    (s.firstPress door accessible).mgu = s.mgu ∧
    (s.firstPress door accessible).pending = s.pending ∧
    (s.firstPress door accessible).free = s.free := by
  simp [State.firstPress]

@[simp] theorem State.furtherPress_keeps (s : State) (door : Nat) (accessible : Bool) :
    (s.furtherPress door accessible).own = s.own ∧
    (s.furtherPress door accessible).ports = s.ports ∧
    (s.furtherPress door accessible).fsw = s.fsw ∧ (s.furtherPress door accessible).cru = s.cru ∧
    (s.furtherPress door accessible).ciu = s.ciu ∧ (s.furtherPress door accessible).tdu = s.tdu ∧
    (s.furtherPress door accessible).llu = s.llu ∧ (s.furtherPress door accessible).jcu = s.jcu ∧
    (s.furtherPress door accessible).mgu = s.mgu ∧
    (s.furtherPress door accessible).pending = s.pending ∧
    (s.furtherPress door accessible).free = s.free := by
  unfold State.furtherPress; dsimp only; split <;> simp

@[simp] theorem State.validPress_keeps (s : State) (door : Nat) (accessible : Bool) :
    (s.validPress door accessible).own = s.own ∧ (s.validPress door accessible).ports = s.ports ∧
    (s.validPress door accessible).fsw = s.fsw ∧ (s.validPress door accessible).cru = s.cru ∧
    (s.validPress door accessible).ciu = s.ciu ∧ (s.validPress door accessible).tdu = s.tdu ∧
    (s.validPress door accessible).llu = s.llu ∧ (s.validPress door accessible).jcu = s.jcu ∧
    (s.validPress door accessible).mgu = s.mgu ∧
    (s.validPress door accessible).pending = s.pending ∧
    (s.validPress door accessible).free = s.free := by
  unfold State.validPress; split <;> simp

@[simp] theorem State.stopPressTaken_keeps (s : State) (f : Frame) :
    (s.stopPressTaken f).own = s.own ∧ (s.stopPressTaken f).ports = s.ports ∧
    (s.stopPressTaken f).fsw = s.fsw ∧ (s.stopPressTaken f).cru = s.cru ∧
    (s.stopPressTaken f).ciu = s.ciu ∧ (s.stopPressTaken f).tdu = s.tdu ∧
    (s.stopPressTaken f).llu = s.llu ∧ (s.stopPressTaken f).jcu = s.jcu ∧
    (s.stopPressTaken f).mgu = s.mgu ∧ (s.stopPressTaken f).pending = s.pending ∧
    (s.stopPressTaken f).free = s.free := by
  unfold State.stopPressTaken; (repeat' split) <;> simp

@[simp] theorem State.serve_keeps (s : State) :
    (s.serve).own = s.own ∧ (s.serve).ports = s.ports ∧ (s.serve).fsw = s.fsw ∧
    (s.serve).cru = s.cru ∧ (s.serve).ciu = s.ciu ∧ (s.serve).tdu = s.tdu ∧ (s.serve).llu = s.llu ∧
    (s.serve).jcu = s.jcu ∧ (s.serve).snu = s.snu ∧ (s.serve).mgu = s.mgu ∧
    (s.serve).pending = s.pending ∧ (s.serve).free = s.free := by
  simp [State.serve]

@[simp] theorem State.inhibit_keeps (s : State) :
    (s.inhibit).own = s.own ∧ (s.inhibit).ports = s.ports ∧ (s.inhibit).fsw = s.fsw ∧
    (s.inhibit).cru = s.cru ∧ (s.inhibit).ciu = s.ciu ∧ (s.inhibit).tdu = s.tdu ∧
    (s.inhibit).llu = s.llu ∧ (s.inhibit).jcu = s.jcu ∧ (s.inhibit).snu = s.snu ∧
    (s.inhibit).mgu = s.mgu ∧ (s.inhibit).pending = s.pending ∧ (s.inhibit).free = s.free := by
  simp [State.inhibit]

@[simp] theorem State.doorChange_keeps (s : State) (on : Bool) :
    (s.doorChange on).own = s.own ∧ (s.doorChange on).ports = s.ports ∧
    (s.doorChange on).fsw = s.fsw ∧ (s.doorChange on).cru = s.cru ∧ (s.doorChange on).ciu = s.ciu ∧
    (s.doorChange on).tdu = s.tdu ∧ (s.doorChange on).llu = s.llu ∧ (s.doorChange on).jcu = s.jcu ∧
    (s.doorChange on).snu = s.snu ∧ (s.doorChange on).mgu = s.mgu ∧
    (s.doorChange on).pending = s.pending ∧ (s.doorChange on).free = s.free := by
  unfold State.doorChange; (repeat' split) <;> simp

@[simp] theorem State.stopStart_keeps (s : State) :
    (s.stopStart).own = s.own ∧ (s.stopStart).ports = s.ports ∧ (s.stopStart).fsw = s.fsw ∧
    (s.stopStart).cru = s.cru ∧ (s.stopStart).ciu = s.ciu ∧ (s.stopStart).tdu = s.tdu ∧
    (s.stopStart).llu = s.llu ∧ (s.stopStart).jcu = s.jcu ∧ (s.stopStart).snu = s.snu ∧
    (s.stopStart).mgu = s.mgu ∧ (s.stopStart).pending = s.pending ∧ (s.stopStart).free = s.free := by
  unfold State.stopStart; dsimp only; split <;> simp

@[simp] theorem State.stopEnd_keeps (s : State) :
    (s.stopEnd).own = s.own ∧ (s.stopEnd).ports = s.ports ∧ (s.stopEnd).fsw = s.fsw ∧
    (s.stopEnd).cru = s.cru ∧ (s.stopEnd).ciu = s.ciu ∧ (s.stopEnd).tdu = s.tdu ∧
    (s.stopEnd).llu = s.llu ∧ (s.stopEnd).jcu = s.jcu ∧ (s.stopEnd).snu = s.snu ∧
    (s.stopEnd).mgu = s.mgu ∧ (s.stopEnd).pending = s.pending ∧ (s.stopEnd).free = s.free := by
  unfold State.stopEnd; split <;> simp

/-! ### LoopLink -/

@[simp] theorem State.offerRequest_keeps (s : State) (q : PointRequest) :
    (s.offerRequest q).own = s.own ∧ (s.offerRequest q).ports = s.ports ∧
    (s.offerRequest q).fsw = s.fsw ∧ (s.offerRequest q).bqm = s.bqm ∧
    (s.offerRequest q).cru = s.cru ∧ (s.offerRequest q).ciu = s.ciu ∧
    (s.offerRequest q).tdu = s.tdu ∧ (s.offerRequest q).jcu = s.jcu ∧
    (s.offerRequest q).sru = s.sru ∧ (s.offerRequest q).snu = s.snu ∧
    (s.offerRequest q).cmn = s.cmn ∧ (s.offerRequest q).mgu = s.mgu ∧
    (s.offerRequest q).pending = s.pending ∧ (s.offerRequest q).free = s.free := by
  unfold State.offerRequest; split <;> simp

@[simp] theorem State.testResult_keeps (s : State) :
    (s.testResult).own = s.own ∧ (s.testResult).ports = s.ports ∧ (s.testResult).fsw = s.fsw ∧
    (s.testResult).bqm = s.bqm ∧ (s.testResult).cru = s.cru ∧ (s.testResult).ciu = s.ciu ∧
    (s.testResult).tdu = s.tdu ∧ (s.testResult).jcu = s.jcu ∧ (s.testResult).sru = s.sru ∧
    (s.testResult).snu = s.snu ∧ (s.testResult).mgu = s.mgu ∧ (s.testResult).pending = s.pending ∧
    (s.testResult).free = s.free := by
  unfold State.testResult; dsimp only; (repeat' split) <;> simp

@[simp] theorem State.loopOff_keeps (s : State) :
    (s.loopOff).own = s.own ∧ (s.loopOff).ports = s.ports ∧ (s.loopOff).fsw = s.fsw ∧
    (s.loopOff).bqm = s.bqm ∧ (s.loopOff).cru = s.cru ∧ (s.loopOff).ciu = s.ciu ∧
    (s.loopOff).tdu = s.tdu ∧ (s.loopOff).jcu = s.jcu ∧ (s.loopOff).sru = s.sru ∧
    (s.loopOff).snu = s.snu ∧ (s.loopOff).cmn = s.cmn ∧ (s.loopOff).mgu = s.mgu ∧
    (s.loopOff).pending = s.pending ∧ (s.loopOff).free = s.free := by
  simp [State.loopOff]

@[simp] theorem State.loopOn_keeps (s : State) :
    (s.loopOn).own = s.own ∧ (s.loopOn).ports = s.ports ∧ (s.loopOn).fsw = s.fsw ∧
    (s.loopOn).bqm = s.bqm ∧ (s.loopOn).cru = s.cru ∧ (s.loopOn).ciu = s.ciu ∧
    (s.loopOn).tdu = s.tdu ∧ (s.loopOn).jcu = s.jcu ∧ (s.loopOn).sru = s.sru ∧
    (s.loopOn).snu = s.snu ∧ (s.loopOn).cmn = s.cmn ∧ (s.loopOn).mgu = s.mgu ∧
    (s.loopOn).pending = s.pending ∧ (s.loopOn).free = s.free := by
  unfold State.loopOn; split <;> simp

/-! ### Junction -/

@[simp] theorem State.judgeJunctions_keeps (s : State) :
    (s.judgeJunctions).own = s.own ∧ (s.judgeJunctions).ports = s.ports ∧
    (s.judgeJunctions).fsw = s.fsw ∧ (s.judgeJunctions).bqm = s.bqm ∧
    (s.judgeJunctions).cru = s.cru ∧ (s.judgeJunctions).ciu = s.ciu ∧
    (s.judgeJunctions).tdu = s.tdu ∧ (s.judgeJunctions).llu = s.llu ∧
    (s.judgeJunctions).sru = s.sru ∧ (s.judgeJunctions).cmn = s.cmn ∧
    (s.judgeJunctions).mgu = s.mgu ∧ (s.judgeJunctions).pending = s.pending ∧
    (s.judgeJunctions).free = s.free := by
  simp [State.judgeJunctions]

@[simp] theorem State.ctxTo_keeps (s : State) (x : Ctx) (f : Ctx → Ctx) :
    (s.ctxTo x f).own = s.own ∧ (s.ctxTo x f).ports = s.ports ∧ (s.ctxTo x f).fsw = s.fsw ∧
    (s.ctxTo x f).bqm = s.bqm ∧ (s.ctxTo x f).cru = s.cru ∧ (s.ctxTo x f).ciu = s.ciu ∧
    (s.ctxTo x f).tdu = s.tdu ∧ (s.ctxTo x f).sru = s.sru ∧ (s.ctxTo x f).cmn = s.cmn ∧
    (s.ctxTo x f).mgu = s.mgu ∧ (s.ctxTo x f).pending = s.pending ∧ (s.ctxTo x f).free = s.free := by
  unfold State.ctxTo; split <;> simp

@[simp] theorem State.offerAttempt_keeps (s : State) (j : Nat) (d : Direction) (n : Nat) :
    (s.offerAttempt j d n).own = s.own ∧ (s.offerAttempt j d n).ports = s.ports ∧
    (s.offerAttempt j d n).fsw = s.fsw ∧ (s.offerAttempt j d n).bqm = s.bqm ∧
    (s.offerAttempt j d n).cru = s.cru ∧ (s.offerAttempt j d n).ciu = s.ciu ∧
    (s.offerAttempt j d n).tdu = s.tdu ∧ (s.offerAttempt j d n).sru = s.sru ∧
    (s.offerAttempt j d n).cmn = s.cmn ∧ (s.offerAttempt j d n).mgu = s.mgu ∧
    (s.offerAttempt j d n).pending = s.pending ∧ (s.offerAttempt j d n).free = s.free := by
  simp [State.offerAttempt]

@[simp] theorem State.addCtx_keeps (s : State) (x : Ctx) :
    (s.addCtx x).own = s.own ∧ (s.addCtx x).ports = s.ports ∧ (s.addCtx x).fsw = s.fsw ∧
    (s.addCtx x).bqm = s.bqm ∧ (s.addCtx x).cru = s.cru ∧ (s.addCtx x).ciu = s.ciu ∧
    (s.addCtx x).tdu = s.tdu ∧ (s.addCtx x).llu = s.llu ∧ (s.addCtx x).sru = s.sru ∧
    (s.addCtx x).cmn = s.cmn ∧ (s.addCtx x).mgu = s.mgu ∧ (s.addCtx x).pending = s.pending ∧
    (s.addCtx x).free = s.free := by
  simp [State.addCtx]

@[simp] theorem State.addRequesting_keeps (s : State) (x : Ctx) (d : Direction) (src : DirSource) :
    (s.addRequesting x d src).own = s.own ∧ (s.addRequesting x d src).ports = s.ports ∧
    (s.addRequesting x d src).fsw = s.fsw ∧ (s.addRequesting x d src).bqm = s.bqm ∧
    (s.addRequesting x d src).cru = s.cru ∧ (s.addRequesting x d src).ciu = s.ciu ∧
    (s.addRequesting x d src).tdu = s.tdu ∧ (s.addRequesting x d src).sru = s.sru ∧
    (s.addRequesting x d src).cmn = s.cmn ∧ (s.addRequesting x d src).mgu = s.mgu ∧
    (s.addRequesting x d src).pending = s.pending ∧ (s.addRequesting x d src).free = s.free := by
  simp [State.addRequesting]

@[simp] theorem State.createCtx_keeps (s : State) (j : Nat) :
    (s.createCtx j).own = s.own ∧ (s.createCtx j).ports = s.ports ∧ (s.createCtx j).fsw = s.fsw ∧
    (s.createCtx j).bqm = s.bqm ∧ (s.createCtx j).cru = s.cru ∧ (s.createCtx j).ciu = s.ciu ∧
    (s.createCtx j).tdu = s.tdu ∧ (s.createCtx j).sru = s.sru ∧ (s.createCtx j).mgu = s.mgu ∧
    (s.createCtx j).pending = s.pending ∧ (s.createCtx j).free = s.free := by
  unfold State.createCtx; (repeat' split) <;> simp

@[simp] theorem State.toMismatch_keeps (s : State) (x : Ctx) (cause : Int) :
    (s.toMismatch x cause).own = s.own ∧ (s.toMismatch x cause).ports = s.ports ∧
    (s.toMismatch x cause).fsw = s.fsw ∧ (s.toMismatch x cause).bqm = s.bqm ∧
    (s.toMismatch x cause).cru = s.cru ∧ (s.toMismatch x cause).ciu = s.ciu ∧
    (s.toMismatch x cause).tdu = s.tdu ∧ (s.toMismatch x cause).sru = s.sru ∧
    (s.toMismatch x cause).mgu = s.mgu ∧ (s.toMismatch x cause).pending = s.pending ∧
    (s.toMismatch x cause).free = s.free := by
  unfold State.toMismatch; split <;> simp

@[simp] theorem State.statusUpdate_keeps (s : State) (j : Nat) (st : PointStatus) (locked : Nat) :
    (s.statusUpdate j st locked).own = s.own ∧ (s.statusUpdate j st locked).ports = s.ports ∧
    (s.statusUpdate j st locked).fsw = s.fsw ∧ (s.statusUpdate j st locked).bqm = s.bqm ∧
    (s.statusUpdate j st locked).cru = s.cru ∧ (s.statusUpdate j st locked).ciu = s.ciu ∧
    (s.statusUpdate j st locked).tdu = s.tdu ∧ (s.statusUpdate j st locked).sru = s.sru ∧
    (s.statusUpdate j st locked).mgu = s.mgu ∧ (s.statusUpdate j st locked).pending = s.pending ∧
    (s.statusUpdate j st locked).free = s.free := by
  unfold State.statusUpdate; (repeat' split) <;> simp

@[simp] theorem State.contextFull_keeps (s : State) (j : Nat) :
    (s.contextFull j).own = s.own ∧ (s.contextFull j).ports = s.ports ∧
    (s.contextFull j).fsw = s.fsw ∧ (s.contextFull j).bqm = s.bqm ∧ (s.contextFull j).cru = s.cru ∧
    (s.contextFull j).ciu = s.ciu ∧ (s.contextFull j).tdu = s.tdu ∧ (s.contextFull j).llu = s.llu ∧
    (s.contextFull j).sru = s.sru ∧ (s.contextFull j).mgu = s.mgu ∧
    (s.contextFull j).pending = s.pending ∧ (s.contextFull j).free = s.free := by
  unfold State.contextFull; split <;> simp

@[simp] theorem State.requestIdent_keeps (s : State) (j : Nat) (st : PointStatus) (locked : Nat) :
    (s.requestIdent j st locked).own = s.own ∧ (s.requestIdent j st locked).ports = s.ports ∧
    (s.requestIdent j st locked).fsw = s.fsw ∧ (s.requestIdent j st locked).bqm = s.bqm ∧
    (s.requestIdent j st locked).cru = s.cru ∧ (s.requestIdent j st locked).ciu = s.ciu ∧
    (s.requestIdent j st locked).tdu = s.tdu ∧ (s.requestIdent j st locked).sru = s.sru ∧
    (s.requestIdent j st locked).mgu = s.mgu ∧ (s.requestIdent j st locked).pending = s.pending ∧
    (s.requestIdent j st locked).free = s.free := by
  unfold State.requestIdent; (repeat' split) <;> simp

@[simp] theorem State.clearIdent_keeps (s : State) (j : Nat) :
    (s.clearIdent j).own = s.own ∧ (s.clearIdent j).ports = s.ports ∧ (s.clearIdent j).fsw = s.fsw ∧
    (s.clearIdent j).bqm = s.bqm ∧ (s.clearIdent j).cru = s.cru ∧ (s.clearIdent j).ciu = s.ciu ∧
    (s.clearIdent j).tdu = s.tdu ∧ (s.clearIdent j).sru = s.sru ∧ (s.clearIdent j).cmn = s.cmn ∧
    (s.clearIdent j).mgu = s.mgu ∧ (s.clearIdent j).pending = s.pending ∧
    (s.clearIdent j).free = s.free := by
  unfold State.clearIdent; (repeat' split) <;> simp

@[simp] theorem State.pointReply_keeps (s : State) (j run : Nat) (r : ReplyResult) :
    (s.pointReply j run r).own = s.own ∧ (s.pointReply j run r).ports = s.ports ∧
    (s.pointReply j run r).fsw = s.fsw ∧ (s.pointReply j run r).bqm = s.bqm ∧
    (s.pointReply j run r).cru = s.cru ∧ (s.pointReply j run r).ciu = s.ciu ∧
    (s.pointReply j run r).tdu = s.tdu ∧ (s.pointReply j run r).sru = s.sru ∧
    (s.pointReply j run r).mgu = s.mgu ∧ (s.pointReply j run r).pending = s.pending ∧
    (s.pointReply j run r).free = s.free := by
  unfold State.pointReply; (repeat' split) <;> simp

@[simp] theorem State.toUnanswered_keeps (s : State) (x : Ctx) :
    (s.toUnanswered x).own = s.own ∧ (s.toUnanswered x).ports = s.ports ∧
    (s.toUnanswered x).fsw = s.fsw ∧ (s.toUnanswered x).bqm = s.bqm ∧
    (s.toUnanswered x).cru = s.cru ∧ (s.toUnanswered x).ciu = s.ciu ∧
    (s.toUnanswered x).tdu = s.tdu ∧ (s.toUnanswered x).sru = s.sru ∧
    (s.toUnanswered x).mgu = s.mgu ∧ (s.toUnanswered x).pending = s.pending ∧
    (s.toUnanswered x).free = s.free := by
  simp [State.toUnanswered]

@[simp] theorem State.retryExpiry_keeps (s : State) (x : Ctx) :
    (s.retryExpiry x).own = s.own ∧ (s.retryExpiry x).ports = s.ports ∧
    (s.retryExpiry x).fsw = s.fsw ∧ (s.retryExpiry x).bqm = s.bqm ∧ (s.retryExpiry x).cru = s.cru ∧
    (s.retryExpiry x).ciu = s.ciu ∧ (s.retryExpiry x).tdu = s.tdu ∧ (s.retryExpiry x).sru = s.sru ∧
    (s.retryExpiry x).mgu = s.mgu ∧ (s.retryExpiry x).pending = s.pending ∧
    (s.retryExpiry x).free = s.free := by
  unfold State.retryExpiry; (repeat' split) <;> simp

@[simp] theorem State.loseCarrier_keeps (s : State) (x : Ctx) :
    (s.loseCarrier x).own = s.own ∧ (s.loseCarrier x).ports = s.ports ∧
    (s.loseCarrier x).fsw = s.fsw ∧ (s.loseCarrier x).bqm = s.bqm ∧ (s.loseCarrier x).cru = s.cru ∧
    (s.loseCarrier x).ciu = s.ciu ∧ (s.loseCarrier x).tdu = s.tdu ∧ (s.loseCarrier x).sru = s.sru ∧
    (s.loseCarrier x).mgu = s.mgu ∧ (s.loseCarrier x).pending = s.pending ∧
    (s.loseCarrier x).free = s.free := by
  unfold State.loseCarrier; split <;> simp

@[simp] theorem State.carrierLost_keeps (s : State) :
    (s.carrierLost).own = s.own ∧ (s.carrierLost).ports = s.ports ∧ (s.carrierLost).fsw = s.fsw ∧
    (s.carrierLost).bqm = s.bqm ∧ (s.carrierLost).cru = s.cru ∧ (s.carrierLost).ciu = s.ciu ∧
    (s.carrierLost).tdu = s.tdu ∧ (s.carrierLost).sru = s.sru ∧ (s.carrierLost).mgu = s.mgu ∧
    (s.carrierLost).pending = s.pending ∧ (s.carrierLost).free = s.free := by
  unfold State.carrierLost
  exact
      ⟨foldl_keeps State.own _ (fun t x => by simp) _ s,
      foldl_keeps State.ports _ (fun t x => by simp) _ s,
      foldl_keeps State.fsw _ (fun t x => by simp) _ s,
      foldl_keeps State.bqm _ (fun t x => by simp) _ s,
      foldl_keeps State.cru _ (fun t x => by simp) _ s,
      foldl_keeps State.ciu _ (fun t x => by simp) _ s,
      foldl_keeps State.tdu _ (fun t x => by simp) _ s,
      foldl_keeps State.sru _ (fun t x => by simp) _ s,
      foldl_keeps State.mgu _ (fun t x => by simp) _ s,
      foldl_keeps State.pending _ (fun t x => by simp) _ s,
      foldl_keeps State.free _ (fun t x => by simp) _ s⟩

@[simp] theorem State.requestReported_keeps (s : State) (j : Nat) :
    (s.requestReported j).own = s.own ∧ (s.requestReported j).ports = s.ports ∧
    (s.requestReported j).fsw = s.fsw ∧ (s.requestReported j).bqm = s.bqm ∧
    (s.requestReported j).cru = s.cru ∧ (s.requestReported j).ciu = s.ciu ∧
    (s.requestReported j).tdu = s.tdu ∧ (s.requestReported j).llu = s.llu ∧
    (s.requestReported j).sru = s.sru ∧ (s.requestReported j).snu = s.snu ∧
    (s.requestReported j).cmn = s.cmn ∧ (s.requestReported j).mgu = s.mgu ∧
    (s.requestReported j).pending = s.pending ∧ (s.requestReported j).free = s.free := by
  simp [State.requestReported]

@[simp] theorem State.closeCtx_keeps (s : State) (x : Ctx) (entry : Option LogInfo) :
    (s.closeCtx x entry).own = s.own ∧ (s.closeCtx x entry).ports = s.ports ∧
    (s.closeCtx x entry).fsw = s.fsw ∧ (s.closeCtx x entry).bqm = s.bqm ∧
    (s.closeCtx x entry).cru = s.cru ∧ (s.closeCtx x entry).ciu = s.ciu ∧
    (s.closeCtx x entry).tdu = s.tdu ∧ (s.closeCtx x entry).sru = s.sru ∧
    (s.closeCtx x entry).mgu = s.mgu ∧ (s.closeCtx x entry).pending = s.pending ∧
    (s.closeCtx x entry).free = s.free := by
  unfold State.closeCtx; split <;> simp

@[simp] theorem State.judgeClosure_keeps (s : State) (x : Ctx) :
    (s.judgeClosure x).own = s.own ∧ (s.judgeClosure x).ports = s.ports ∧
    (s.judgeClosure x).fsw = s.fsw ∧ (s.judgeClosure x).bqm = s.bqm ∧
    (s.judgeClosure x).cru = s.cru ∧ (s.judgeClosure x).ciu = s.ciu ∧
    (s.judgeClosure x).tdu = s.tdu ∧ (s.judgeClosure x).sru = s.sru ∧
    (s.judgeClosure x).mgu = s.mgu ∧ (s.judgeClosure x).pending = s.pending ∧
    (s.judgeClosure x).free = s.free := by
  unfold State.judgeClosure; split <;> simp

@[simp] theorem State.judgeClosures_keeps (s : State) :
    (s.judgeClosures).own = s.own ∧ (s.judgeClosures).ports = s.ports ∧
    (s.judgeClosures).fsw = s.fsw ∧ (s.judgeClosures).bqm = s.bqm ∧ (s.judgeClosures).cru = s.cru ∧
    (s.judgeClosures).ciu = s.ciu ∧ (s.judgeClosures).tdu = s.tdu ∧ (s.judgeClosures).sru = s.sru ∧
    (s.judgeClosures).mgu = s.mgu ∧ (s.judgeClosures).pending = s.pending ∧
    (s.judgeClosures).free = s.free := by
  unfold State.judgeClosures
  split
  · exact
      ⟨foldl_keeps State.own _ (fun t x => by simp) _ s,
      foldl_keeps State.ports _ (fun t x => by simp) _ s,
      foldl_keeps State.fsw _ (fun t x => by simp) _ s,
      foldl_keeps State.bqm _ (fun t x => by simp) _ s,
      foldl_keeps State.cru _ (fun t x => by simp) _ s,
      foldl_keeps State.ciu _ (fun t x => by simp) _ s,
      foldl_keeps State.tdu _ (fun t x => by simp) _ s,
      foldl_keeps State.sru _ (fun t x => by simp) _ s,
      foldl_keeps State.mgu _ (fun t x => by simp) _ s,
      foldl_keeps State.pending _ (fun t x => by simp) _ s,
      foldl_keeps State.free _ (fun t x => by simp) _ s⟩
  · simp

/-- What a route press acts on: the context of the last REQUEST ident, taken under the antenna less than
500 ms before, while a Route Table is live and where one was live at its creation (R122, R126). -/
theorem State.pressTarget_eq_some_iff (s : State) (x : Ctx) :
    s.pressTarget = some x ↔ ∃ j t, s.jcu.lastIdent = some (j, t) ∧ s.llu.carrier = true ∧
      elapsed s.cmn.partTime t < 500 ∧ s.jcu.live.isSome = true ∧ s.jcu.find j = some x ∧
      x.tabled = true := by
  unfold State.pressTarget
  rcases s.jcu.lastIdent with _ | ⟨j, t⟩
  · simp
  · simp only [Option.some.injEq, Prod.mk.injEq]
    split <;> simp_all [Option.filter_eq_some_iff]

@[simp] theorem State.routeChange_keeps (s : State) (x : Ctx) (d : Direction) :
    (s.routeChange x d).own = s.own ∧ (s.routeChange x d).ports = s.ports ∧
    (s.routeChange x d).fsw = s.fsw ∧ (s.routeChange x d).bqm = s.bqm ∧
    (s.routeChange x d).cru = s.cru ∧ (s.routeChange x d).ciu = s.ciu ∧
    (s.routeChange x d).tdu = s.tdu ∧ (s.routeChange x d).sru = s.sru ∧
    (s.routeChange x d).mgu = s.mgu ∧ (s.routeChange x d).pending = s.pending ∧
    (s.routeChange x d).free = s.free := by
  unfold State.routeChange; split <;> simp

@[simp] theorem State.routePress_keeps (s : State) (d : Direction) :
    (s.routePress d).own = s.own ∧ (s.routePress d).ports = s.ports ∧ (s.routePress d).fsw = s.fsw ∧
    (s.routePress d).bqm = s.bqm ∧ (s.routePress d).cru = s.cru ∧ (s.routePress d).ciu = s.ciu ∧
    (s.routePress d).tdu = s.tdu ∧ (s.routePress d).sru = s.sru ∧ (s.routePress d).mgu = s.mgu ∧
    (s.routePress d).pending = s.pending ∧ (s.routePress d).free = s.free := by
  unfold State.routePress; (repeat' split) <;> simp

@[simp] theorem State.junctionEnd_keeps (s : State) :
    (s.junctionEnd).own = s.own ∧ (s.junctionEnd).ports = s.ports ∧ (s.junctionEnd).fsw = s.fsw ∧
    (s.junctionEnd).bqm = s.bqm ∧ (s.junctionEnd).cru = s.cru ∧ (s.junctionEnd).ciu = s.ciu ∧
    (s.junctionEnd).tdu = s.tdu ∧ (s.junctionEnd).llu = s.llu ∧ (s.junctionEnd).sru = s.sru ∧
    (s.junctionEnd).cmn = s.cmn ∧ (s.junctionEnd).mgu = s.mgu ∧
    (s.junctionEnd).pending = s.pending ∧ (s.junctionEnd).free = s.free := by
  simp [State.junctionEnd]

@[simp] theorem State.junctionStart_keeps (s : State) :
    (s.junctionStart).own = s.own ∧ (s.junctionStart).ports = s.ports ∧
    (s.junctionStart).fsw = s.fsw ∧ (s.junctionStart).bqm = s.bqm ∧ (s.junctionStart).cru = s.cru ∧
    (s.junctionStart).ciu = s.ciu ∧ (s.junctionStart).tdu = s.tdu ∧ (s.junctionStart).llu = s.llu ∧
    (s.junctionStart).sru = s.sru ∧ (s.junctionStart).cmn = s.cmn ∧ (s.junctionStart).mgu = s.mgu ∧
    (s.junctionStart).pending = s.pending ∧ (s.junctionStart).free = s.free := by
  simp [State.junctionStart]

/-! ### Roles -/

@[simp] theorem State.sendAnnounce_keeps (s : State) :
    (s.sendAnnounce).own = s.own ∧ (s.sendAnnounce).ports = s.ports ∧ (s.sendAnnounce).fsw = s.fsw ∧
    (s.sendAnnounce).ciu = s.ciu ∧ (s.sendAnnounce).tdu = s.tdu ∧ (s.sendAnnounce).llu = s.llu ∧
    (s.sendAnnounce).jcu = s.jcu ∧ (s.sendAnnounce).sru = s.sru ∧ (s.sendAnnounce).snu = s.snu ∧
    (s.sendAnnounce).mgu = s.mgu ∧ (s.sendAnnounce).pending = s.pending ∧
    (s.sendAnnounce).free = s.free := by
  unfold State.sendAnnounce; (repeat' split) <;> simp

@[simp] theorem State.departFrom_keeps (s : State) (old new : Role) :
    (s.departFrom old new).own = s.own ∧ (s.departFrom old new).fsw = s.fsw ∧
    (s.departFrom old new).cru = s.cru ∧ (s.departFrom old new).ciu = s.ciu ∧
    (s.departFrom old new).mgu = s.mgu ∧ (s.departFrom old new).pending = s.pending ∧
    (s.departFrom old new).free = s.free := by
  unfold State.departFrom; (repeat' split) <;> simp

@[simp] theorem State.arriveActive_keeps (s : State) (old : Role) :
    (s.arriveActive old).own = s.own ∧ (s.arriveActive old).ports = s.ports ∧
    (s.arriveActive old).fsw = s.fsw ∧ (s.arriveActive old).cru = s.cru ∧
    (s.arriveActive old).ciu = s.ciu ∧ (s.arriveActive old).mgu = s.mgu ∧
    (s.arriveActive old).pending = s.pending ∧ (s.arriveActive old).free = s.free := by
  unfold State.arriveActive; split <;> simp

@[simp] theorem State.setRole_keeps (s : State) (r : Role) :
    (s.setRole r).own = s.own ∧ (s.setRole r).fsw = s.fsw ∧ (s.setRole r).ciu = s.ciu ∧
    (s.setRole r).mgu = s.mgu ∧ (s.setRole r).pending = s.pending ∧ (s.setRole r).free = s.free := by
  unfold State.setRole; split <;> simp

@[simp] theorem State.roleByTable_keeps (s : State) :
    (s.roleByTable).own = s.own ∧ (s.roleByTable).fsw = s.fsw ∧ (s.roleByTable).ciu = s.ciu ∧
    (s.roleByTable).mgu = s.mgu ∧ (s.roleByTable).pending = s.pending ∧
    (s.roleByTable).free = s.free := by
  simp [State.roleByTable]

@[simp] theorem State.takeKeyOn_keeps (s : State) :
    (s.takeKeyOn).own = s.own ∧ (s.takeKeyOn).fsw = s.fsw ∧ (s.takeKeyOn).ciu = s.ciu ∧
    (s.takeKeyOn).mgu = s.mgu ∧ (s.takeKeyOn).pending = s.pending ∧ (s.takeKeyOn).free = s.free := by
  unfold State.takeKeyOn; split <;> simp

@[simp] theorem State.keyOnIdle_keeps (s : State) :
    (s.keyOnIdle).own = s.own ∧ (s.keyOnIdle).fsw = s.fsw ∧ (s.keyOnIdle).ciu = s.ciu ∧
    (s.keyOnIdle).mgu = s.mgu ∧ (s.keyOnIdle).pending = s.pending ∧ (s.keyOnIdle).free = s.free := by
  unfold State.keyOnIdle; dsimp only; split <;> simp

@[simp] theorem State.keyOnReleasing_keeps (s : State) :
    (s.keyOnReleasing).own = s.own ∧ (s.keyOnReleasing).ports = s.ports ∧
    (s.keyOnReleasing).fsw = s.fsw ∧ (s.keyOnReleasing).bqm = s.bqm ∧
    (s.keyOnReleasing).ciu = s.ciu ∧ (s.keyOnReleasing).llu = s.llu ∧
    (s.keyOnReleasing).jcu = s.jcu ∧ (s.keyOnReleasing).sru = s.sru ∧
    (s.keyOnReleasing).snu = s.snu ∧ (s.keyOnReleasing).cmn = s.cmn ∧
    (s.keyOnReleasing).mgu = s.mgu ∧ (s.keyOnReleasing).pending = s.pending ∧
    (s.keyOnReleasing).free = s.free := by
  simp [State.keyOnReleasing]

@[simp] theorem State.keyTurnsOn_keeps (s : State) :
    (s.keyTurnsOn).own = s.own ∧ (s.keyTurnsOn).fsw = s.fsw ∧ (s.keyTurnsOn).ciu = s.ciu ∧
    (s.keyTurnsOn).mgu = s.mgu ∧ (s.keyTurnsOn).pending = s.pending ∧ (s.keyTurnsOn).free = s.free := by
  unfold State.keyTurnsOn; (repeat' split) <;> simp

@[simp] theorem State.startReleasing_keeps (s : State) :
    (s.startReleasing).own = s.own ∧ (s.startReleasing).ports = s.ports ∧
    (s.startReleasing).fsw = s.fsw ∧ (s.startReleasing).bqm = s.bqm ∧
    (s.startReleasing).ciu = s.ciu ∧ (s.startReleasing).llu = s.llu ∧
    (s.startReleasing).jcu = s.jcu ∧ (s.startReleasing).sru = s.sru ∧
    (s.startReleasing).snu = s.snu ∧ (s.startReleasing).cmn = s.cmn ∧
    (s.startReleasing).mgu = s.mgu ∧ (s.startReleasing).pending = s.pending ∧
    (s.startReleasing).free = s.free := by
  simp [State.startReleasing]

@[simp] theorem State.keyTurnsOff_keeps (s : State) :
    (s.keyTurnsOff).own = s.own ∧ (s.keyTurnsOff).fsw = s.fsw ∧ (s.keyTurnsOff).ciu = s.ciu ∧
    (s.keyTurnsOff).mgu = s.mgu ∧ (s.keyTurnsOff).pending = s.pending ∧
    (s.keyTurnsOff).free = s.free := by
  unfold State.keyTurnsOff; (repeat' split) <;> simp

@[simp] theorem State.keyChange_keeps (s : State) (on : Bool) :
    (s.keyChange on).own = s.own ∧ (s.keyChange on).fsw = s.fsw ∧ (s.keyChange on).ciu = s.ciu ∧
    (s.keyChange on).mgu = s.mgu ∧ (s.keyChange on).pending = s.pending ∧
    (s.keyChange on).free = s.free := by
  unfold State.keyChange; (repeat' split) <;> simp

@[simp] theorem State.meetCommand_keeps (s : State) (a : Addr) :
    (s.meetCommand a).own = s.own ∧ (s.meetCommand a).fsw = s.fsw ∧ (s.meetCommand a).ciu = s.ciu ∧
    (s.meetCommand a).mgu = s.mgu ∧ (s.meetCommand a).pending = s.pending ∧
    (s.meetCommand a).free = s.free := by
  unfold State.meetCommand; split <;> simp

@[simp] theorem State.followTable_keeps (s : State) :
    (s.followTable).own = s.own ∧ (s.followTable).fsw = s.fsw ∧ (s.followTable).ciu = s.ciu ∧
    (s.followTable).mgu = s.mgu ∧ (s.followTable).pending = s.pending ∧
    (s.followTable).free = s.free := by
  unfold State.followTable; split <;> simp

@[simp] theorem State.followConflict_keeps (s : State) :
    (s.followConflict).own = s.own ∧ (s.followConflict).fsw = s.fsw ∧
    (s.followConflict).ciu = s.ciu ∧ (s.followConflict).mgu = s.mgu ∧
    (s.followConflict).pending = s.pending ∧ (s.followConflict).free = s.free := by
  unfold State.followConflict; split <;> simp

@[simp] theorem State.roleOnAnnounce_keeps (s : State) (a : Addr) (r : Announced) :
    (s.roleOnAnnounce a r).own = s.own ∧ (s.roleOnAnnounce a r).fsw = s.fsw ∧
    (s.roleOnAnnounce a r).ciu = s.ciu ∧ (s.roleOnAnnounce a r).mgu = s.mgu ∧
    (s.roleOnAnnounce a r).pending = s.pending ∧ (s.roleOnAnnounce a r).free = s.free := by
  unfold State.roleOnAnnounce; (repeat' split) <;> simp

@[simp] theorem State.cabTableFull_keeps (s : State) (a : Addr) :
    (s.cabTableFull a).own = s.own ∧ (s.cabTableFull a).ports = s.ports ∧
    (s.cabTableFull a).fsw = s.fsw ∧ (s.cabTableFull a).bqm = s.bqm ∧
    (s.cabTableFull a).ciu = s.ciu ∧ (s.cabTableFull a).tdu = s.tdu ∧
    (s.cabTableFull a).llu = s.llu ∧ (s.cabTableFull a).jcu = s.jcu ∧
    (s.cabTableFull a).sru = s.sru ∧ (s.cabTableFull a).snu = s.snu ∧
    (s.cabTableFull a).mgu = s.mgu ∧ (s.cabTableFull a).pending = s.pending ∧
    (s.cabTableFull a).free = s.free := by
  unfold State.cabTableFull; split <;> simp

@[simp] theorem State.takeAnnounce_keeps (s : State) (f : Frame) :
    (s.takeAnnounce f).own = s.own ∧ (s.takeAnnounce f).fsw = s.fsw ∧
    (s.takeAnnounce f).ciu = s.ciu ∧ (s.takeAnnounce f).mgu = s.mgu ∧
    (s.takeAnnounce f).pending = s.pending ∧ (s.takeAnnounce f).free = s.free := by
  unfold State.takeAnnounce; dsimp only; (repeat' split) <;> simp

@[simp] theorem State.roleOnRemoval_keeps (s : State) :
    (s.roleOnRemoval).own = s.own ∧ (s.roleOnRemoval).fsw = s.fsw ∧ (s.roleOnRemoval).ciu = s.ciu ∧
    (s.roleOnRemoval).mgu = s.mgu ∧ (s.roleOnRemoval).pending = s.pending ∧
    (s.roleOnRemoval).free = s.free := by
  unfold State.roleOnRemoval; split <;> simp

@[simp] theorem State.entryTimeout_keeps (s : State) (a : Addr) :
    (s.entryTimeout a).own = s.own ∧ (s.entryTimeout a).fsw = s.fsw ∧
    (s.entryTimeout a).ciu = s.ciu ∧ (s.entryTimeout a).mgu = s.mgu ∧
    (s.entryTimeout a).pending = s.pending ∧ (s.entryTimeout a).free = s.free := by
  simp [State.entryTimeout]

@[simp] theorem State.keyOffMoving_keeps (s : State) (cause : Int) :
    (s.keyOffMoving cause).own = s.own ∧ (s.keyOffMoving cause).fsw = s.fsw ∧
    (s.keyOffMoving cause).ciu = s.ciu ∧ (s.keyOffMoving cause).mgu = s.mgu ∧
    (s.keyOffMoving cause).pending = s.pending ∧ (s.keyOffMoving cause).free = s.free := by
  simp [State.keyOffMoving]

@[simp] theorem State.releasingFinding_keeps (s : State) :
    (s.releasingFinding).own = s.own ∧ (s.releasingFinding).fsw = s.fsw ∧
    (s.releasingFinding).ciu = s.ciu ∧ (s.releasingFinding).mgu = s.mgu ∧
    (s.releasingFinding).pending = s.pending ∧ (s.releasingFinding).free = s.free := by
  unfold State.releasingFinding; (repeat' split) <;> simp

/-! ### Tick -/

@[simp] theorem State.tick_keeps (s : State) :
    (s.tick).own = s.own ∧ (s.tick).bqm = s.bqm ∧ (s.tick).pending = s.pending ∧
    (s.tick).free = s.free := by
  simp [State.tick]

/-! ### Tables -/

@[simp] theorem putNode_keeps (s : State) (i : Nat) (x : NodeRole × Option Nat) :
    (putNode s i x).own = s.own ∧ (putNode s i x).ports = s.ports ∧ (putNode s i x).bqm = s.bqm ∧
    (putNode s i x).cru = s.cru ∧ (putNode s i x).ciu = s.ciu ∧ (putNode s i x).tdu = s.tdu ∧
    (putNode s i x).llu = s.llu ∧ (putNode s i x).jcu = s.jcu ∧ (putNode s i x).sru = s.sru ∧
    (putNode s i x).snu = s.snu ∧ (putNode s i x).cmn = s.cmn ∧ (putNode s i x).mgu = s.mgu ∧
    (putNode s i x).pending = s.pending ∧ (putNode s i x).free = s.free := by
  simp [putNode]

@[simp] theorem putClass_keeps (s : State) (i : Nat) (x : ClassEntry) :
    (putClass s i x).own = s.own ∧ (putClass s i x).ports = s.ports ∧ (putClass s i x).bqm = s.bqm ∧
    (putClass s i x).cru = s.cru ∧ (putClass s i x).ciu = s.ciu ∧ (putClass s i x).tdu = s.tdu ∧
    (putClass s i x).llu = s.llu ∧ (putClass s i x).jcu = s.jcu ∧ (putClass s i x).sru = s.sru ∧
    (putClass s i x).snu = s.snu ∧ (putClass s i x).cmn = s.cmn ∧ (putClass s i x).mgu = s.mgu ∧
    (putClass s i x).pending = s.pending ∧ (putClass s i x).free = s.free := by
  simp [putClass]

@[simp] theorem putTag_keeps (s : State) (i x : Nat) :
    (putTag s i x).own = s.own ∧ (putTag s i x).ports = s.ports ∧ (putTag s i x).bqm = s.bqm ∧
    (putTag s i x).cru = s.cru ∧ (putTag s i x).ciu = s.ciu ∧ (putTag s i x).tdu = s.tdu ∧
    (putTag s i x).llu = s.llu ∧ (putTag s i x).jcu = s.jcu ∧ (putTag s i x).sru = s.sru ∧
    (putTag s i x).snu = s.snu ∧ (putTag s i x).cmn = s.cmn ∧ (putTag s i x).mgu = s.mgu ∧
    (putTag s i x).pending = s.pending ∧ (putTag s i x).free = s.free := by
  simp [putTag]

@[simp] theorem putWeight_keeps (s : State) (i x : Nat) :
    (putWeight s i x).own = s.own ∧ (putWeight s i x).ports = s.ports ∧
    (putWeight s i x).bqm = s.bqm ∧ (putWeight s i x).cru = s.cru ∧ (putWeight s i x).ciu = s.ciu ∧
    (putWeight s i x).tdu = s.tdu ∧ (putWeight s i x).llu = s.llu ∧ (putWeight s i x).jcu = s.jcu ∧
    (putWeight s i x).sru = s.sru ∧ (putWeight s i x).snu = s.snu ∧ (putWeight s i x).cmn = s.cmn ∧
    (putWeight s i x).mgu = s.mgu ∧ (putWeight s i x).pending = s.pending ∧
    (putWeight s i x).free = s.free := by
  simp [putWeight]

@[simp] theorem putPortConfig_keeps (s : State) (i : Nat) (c : PortConfig) :
    (putPortConfig s i c).own = s.own ∧ (putPortConfig s i c).fsw = s.fsw ∧
    (putPortConfig s i c).cru = s.cru ∧ (putPortConfig s i c).ciu = s.ciu ∧
    (putPortConfig s i c).tdu = s.tdu ∧ (putPortConfig s i c).llu = s.llu ∧
    (putPortConfig s i c).jcu = s.jcu ∧ (putPortConfig s i c).sru = s.sru ∧
    (putPortConfig s i c).snu = s.snu ∧ (putPortConfig s i c).cmn = s.cmn ∧
    (putPortConfig s i c).mgu = s.mgu ∧ (putPortConfig s i c).pending = s.pending ∧
    (putPortConfig s i c).free = s.free := by
  unfold putPortConfig; (repeat' split) <;> simp

@[simp] theorem putQueueMap_keeps (s : State) (i : Nat) (m : Tab Nat 8) :
    (putQueueMap s i m).own = s.own ∧ (putQueueMap s i m).ports = s.ports ∧
    (putQueueMap s i m).fsw = s.fsw ∧ (putQueueMap s i m).cru = s.cru ∧
    (putQueueMap s i m).ciu = s.ciu ∧ (putQueueMap s i m).tdu = s.tdu ∧
    (putQueueMap s i m).llu = s.llu ∧ (putQueueMap s i m).jcu = s.jcu ∧
    (putQueueMap s i m).sru = s.sru ∧ (putQueueMap s i m).snu = s.snu ∧
    (putQueueMap s i m).cmn = s.cmn ∧ (putQueueMap s i m).mgu = s.mgu ∧
    (putQueueMap s i m).pending = s.pending ∧ (putQueueMap s i m).free = s.free := by
  simp [putQueueMap]

@[simp] theorem putHeader_keeps (s : State) (k : Nat) (h : RouteHeader) :
    (putHeader s k h).own = s.own ∧ (putHeader s k h).ports = s.ports ∧
    (putHeader s k h).fsw = s.fsw ∧ (putHeader s k h).bqm = s.bqm ∧ (putHeader s k h).cru = s.cru ∧
    (putHeader s k h).ciu = s.ciu ∧ (putHeader s k h).tdu = s.tdu ∧ (putHeader s k h).llu = s.llu ∧
    (putHeader s k h).sru = s.sru ∧ (putHeader s k h).snu = s.snu ∧ (putHeader s k h).cmn = s.cmn ∧
    (putHeader s k h).mgu = s.mgu ∧ (putHeader s k h).pending = s.pending ∧
    (putHeader s k h).free = s.free := by
  simp [putHeader]

@[simp] theorem putRoute_keeps (s : State) (i : Nat) (e : RouteEntry) :
    (putRoute s i e).own = s.own ∧ (putRoute s i e).ports = s.ports ∧ (putRoute s i e).fsw = s.fsw ∧
    (putRoute s i e).bqm = s.bqm ∧ (putRoute s i e).cru = s.cru ∧ (putRoute s i e).ciu = s.ciu ∧
    (putRoute s i e).tdu = s.tdu ∧ (putRoute s i e).llu = s.llu ∧ (putRoute s i e).sru = s.sru ∧
    (putRoute s i e).snu = s.snu ∧ (putRoute s i e).cmn = s.cmn ∧ (putRoute s i e).mgu = s.mgu ∧
    (putRoute s i e).pending = s.pending ∧ (putRoute s i e).free = s.free := by
  simp [putRoute]

@[simp] theorem putField_keeps (s : State) (i : Nat) (v : Int) :
    (putField s i v).own = s.own ∧ (putField s i v).ports = s.ports ∧ (putField s i v).fsw = s.fsw ∧
    (putField s i v).bqm = s.bqm ∧ (putField s i v).cru = s.cru ∧ (putField s i v).ciu = s.ciu ∧
    (putField s i v).llu = s.llu ∧ (putField s i v).jcu = s.jcu ∧ (putField s i v).sru = s.sru ∧
    (putField s i v).snu = s.snu ∧ (putField s i v).cmn = s.cmn ∧ (putField s i v).mgu = s.mgu ∧
    (putField s i v).pending = s.pending ∧ (putField s i v).free = s.free := by
  simp [putField]

@[simp] theorem putPattern_keeps (s : State) (i : Nat) (x : List Step) :
    (putPattern s i x).own = s.own ∧ (putPattern s i x).ports = s.ports ∧
    (putPattern s i x).fsw = s.fsw ∧ (putPattern s i x).bqm = s.bqm ∧
    (putPattern s i x).cru = s.cru ∧ (putPattern s i x).ciu = s.ciu ∧
    (putPattern s i x).tdu = s.tdu ∧ (putPattern s i x).llu = s.llu ∧
    (putPattern s i x).jcu = s.jcu ∧ (putPattern s i x).sru = s.sru ∧
    (putPattern s i x).cmn = s.cmn ∧ (putPattern s i x).mgu = s.mgu ∧
    (putPattern s i x).pending = s.pending ∧ (putPattern s i x).free = s.free := by
  simp [putPattern]

@[simp] theorem putTone_keeps (s : State) (i x : Nat) :
    (putTone s i x).own = s.own ∧ (putTone s i x).ports = s.ports ∧ (putTone s i x).fsw = s.fsw ∧
    (putTone s i x).bqm = s.bqm ∧ (putTone s i x).cru = s.cru ∧ (putTone s i x).ciu = s.ciu ∧
    (putTone s i x).tdu = s.tdu ∧ (putTone s i x).llu = s.llu ∧ (putTone s i x).jcu = s.jcu ∧
    (putTone s i x).sru = s.sru ∧ (putTone s i x).cmn = s.cmn ∧ (putTone s i x).mgu = s.mgu ∧
    (putTone s i x).pending = s.pending ∧ (putTone s i x).free = s.free := by
  simp [putTone]

@[simp] theorem putSoundMap_keeps (s : State) (k : Nat) (m : Tab Nat 7) :
    (putSoundMap s k m).own = s.own ∧ (putSoundMap s k m).ports = s.ports ∧
    (putSoundMap s k m).fsw = s.fsw ∧ (putSoundMap s k m).bqm = s.bqm ∧
    (putSoundMap s k m).cru = s.cru ∧ (putSoundMap s k m).ciu = s.ciu ∧
    (putSoundMap s k m).tdu = s.tdu ∧ (putSoundMap s k m).llu = s.llu ∧
    (putSoundMap s k m).jcu = s.jcu ∧ (putSoundMap s k m).sru = s.sru ∧
    (putSoundMap s k m).cmn = s.cmn ∧ (putSoundMap s k m).mgu = s.mgu ∧
    (putSoundMap s k m).pending = s.pending ∧ (putSoundMap s k m).free = s.free := by
  simp [putSoundMap]

@[simp] theorem putAttr_keeps (s : State) (i : Nat) (g : AttrConfig) :
    (putAttr s i g).own = s.own ∧ (putAttr s i g).ports = s.ports ∧ (putAttr s i g).fsw = s.fsw ∧
    (putAttr s i g).bqm = s.bqm ∧ (putAttr s i g).cru = s.cru ∧ (putAttr s i g).ciu = s.ciu ∧
    (putAttr s i g).tdu = s.tdu ∧ (putAttr s i g).llu = s.llu ∧ (putAttr s i g).jcu = s.jcu ∧
    (putAttr s i g).sru = s.sru ∧ (putAttr s i g).snu = s.snu ∧ (putAttr s i g).mgu = s.mgu ∧
    (putAttr s i g).pending = s.pending ∧ (putAttr s i g).free = s.free := by
  simp [putAttr]

/-! ### Readout -/

@[simp] theorem State.sendReport_keeps (s : State) :
    (s.sendReport).own = s.own ∧ (s.sendReport).ports = s.ports ∧ (s.sendReport).fsw = s.fsw ∧
    (s.sendReport).cru = s.cru ∧ (s.sendReport).ciu = s.ciu ∧ (s.sendReport).tdu = s.tdu ∧
    (s.sendReport).llu = s.llu ∧ (s.sendReport).jcu = s.jcu ∧ (s.sendReport).sru = s.sru ∧
    (s.sendReport).snu = s.snu ∧ (s.sendReport).pending = s.pending ∧ (s.sendReport).free = s.free := by
  unfold State.sendReport; split <;> simp

/-! ### Control -/

@[simp] theorem State.drawCode_keeps (s : State) (f : Frame) :
    (s.drawCode f).own = s.own ∧ (s.drawCode f).ports = s.ports ∧ (s.drawCode f).fsw = s.fsw ∧
    (s.drawCode f).bqm = s.bqm ∧ (s.drawCode f).cru = s.cru ∧ (s.drawCode f).ciu = s.ciu ∧
    (s.drawCode f).tdu = s.tdu ∧ (s.drawCode f).llu = s.llu ∧ (s.drawCode f).jcu = s.jcu ∧
    (s.drawCode f).sru = s.sru ∧ (s.drawCode f).snu = s.snu ∧ (s.drawCode f).cmn = s.cmn ∧
    (s.drawCode f).mgu = s.mgu ∧ (s.drawCode f).pending = s.pending := by
  unfold State.drawCode; split <;> simp

@[simp] theorem State.mark_keeps (s : State) (f : Frame) :
    (s.mark f).own = s.own ∧ (s.mark f).ports = s.ports ∧ (s.mark f).fsw = s.fsw ∧
    (s.mark f).cru = s.cru ∧ (s.mark f).ciu = s.ciu ∧ (s.mark f).tdu = s.tdu ∧
    (s.mark f).llu = s.llu ∧ (s.mark f).jcu = s.jcu ∧ (s.mark f).sru = s.sru ∧
    (s.mark f).snu = s.snu ∧ (s.mark f).cmn = s.cmn ∧ (s.mark f).mgu = s.mgu ∧
    (s.mark f).pending = s.pending ∧ (s.mark f).free = s.free := by
  unfold State.mark; split <;> simp

@[simp] theorem State.reply_keeps (s : State) (f : Frame) (a : Answer) :
    (s.reply f a).own = s.own ∧ (s.reply f a).ports = s.ports ∧ (s.reply f a).fsw = s.fsw ∧
    (s.reply f a).cru = s.cru ∧ (s.reply f a).ciu = s.ciu ∧ (s.reply f a).tdu = s.tdu ∧
    (s.reply f a).llu = s.llu ∧ (s.reply f a).jcu = s.jcu ∧ (s.reply f a).sru = s.sru ∧
    (s.reply f a).snu = s.snu ∧ (s.reply f a).mgu = s.mgu ∧ (s.reply f a).pending = s.pending := by
  simp [State.reply]

@[simp] theorem State.clearLatches_keeps (s : State) :
    (s.clearLatches).own = s.own ∧ (s.clearLatches).fsw = s.fsw ∧ (s.clearLatches).bqm = s.bqm ∧
    (s.clearLatches).cru = s.cru ∧ (s.clearLatches).ciu = s.ciu ∧ (s.clearLatches).tdu = s.tdu ∧
    (s.clearLatches).llu = s.llu ∧ (s.clearLatches).jcu = s.jcu ∧ (s.clearLatches).sru = s.sru ∧
    (s.clearLatches).snu = s.snu ∧ (s.clearLatches).cmn = s.cmn ∧ (s.clearLatches).mgu = s.mgu ∧
    (s.clearLatches).pending = s.pending ∧ (s.clearLatches).free = s.free := by
  simp [State.clearLatches]

@[simp] theorem State.clearCounters_keeps (s : State) :
    (s.clearCounters).own = s.own ∧ (s.clearCounters).ciu = s.ciu ∧ (s.clearCounters).cmn = s.cmn ∧
    (s.clearCounters).pending = s.pending ∧ (s.clearCounters).free = s.free := by
  simp [State.clearCounters]

/-! ### LineEvents -/

@[simp] theorem State.beginFrame_keeps (s : State) (p : Port) (b : Nat) :
    (s.beginFrame p b).own = s.own ∧ (s.beginFrame p b).fsw = s.fsw ∧
    (s.beginFrame p b).cru = s.cru ∧ (s.beginFrame p b).ciu = s.ciu ∧
    (s.beginFrame p b).tdu = s.tdu ∧ (s.beginFrame p b).llu = s.llu ∧
    (s.beginFrame p b).jcu = s.jcu ∧ (s.beginFrame p b).sru = s.sru ∧
    (s.beginFrame p b).snu = s.snu ∧ (s.beginFrame p b).cmn = s.cmn ∧
    (s.beginFrame p b).mgu = s.mgu ∧ (s.beginFrame p b).pending = s.pending ∧
    (s.beginFrame p b).free = s.free := by
  simp [State.beginFrame]

@[simp] theorem State.beginSkip_keeps (s : State) (p : Port) :
    (s.beginSkip p).own = s.own ∧ (s.beginSkip p).fsw = s.fsw ∧ (s.beginSkip p).bqm = s.bqm ∧
    (s.beginSkip p).cru = s.cru ∧ (s.beginSkip p).ciu = s.ciu ∧ (s.beginSkip p).tdu = s.tdu ∧
    (s.beginSkip p).llu = s.llu ∧ (s.beginSkip p).jcu = s.jcu ∧ (s.beginSkip p).sru = s.sru ∧
    (s.beginSkip p).snu = s.snu ∧ (s.beginSkip p).mgu = s.mgu ∧
    (s.beginSkip p).pending = s.pending ∧ (s.beginSkip p).free = s.free := by
  simp [State.beginSkip]

@[simp] theorem State.startFrame_keeps (s : State) (p : Port) :
    (s.startFrame p).own = s.own ∧ (s.startFrame p).fsw = s.fsw ∧ (s.startFrame p).cru = s.cru ∧
    (s.startFrame p).ciu = s.ciu ∧ (s.startFrame p).tdu = s.tdu ∧ (s.startFrame p).llu = s.llu ∧
    (s.startFrame p).jcu = s.jcu ∧ (s.startFrame p).sru = s.sru ∧ (s.startFrame p).snu = s.snu ∧
    (s.startFrame p).mgu = s.mgu ∧ (s.startFrame p).pending = s.pending ∧
    (s.startFrame p).free = s.free := by
  unfold State.startFrame; (repeat' split) <;> simp

@[simp] theorem State.returnFrame_keeps (s : State) (p : Port) (b : Nat) :
    (s.returnFrame p b).own = s.own ∧ (s.returnFrame p b).fsw = s.fsw ∧
    (s.returnFrame p b).cru = s.cru ∧ (s.returnFrame p b).ciu = s.ciu ∧
    (s.returnFrame p b).tdu = s.tdu ∧ (s.returnFrame p b).llu = s.llu ∧
    (s.returnFrame p b).jcu = s.jcu ∧ (s.returnFrame p b).sru = s.sru ∧
    (s.returnFrame p b).snu = s.snu ∧ (s.returnFrame p b).mgu = s.mgu ∧
    (s.returnFrame p b).pending = s.pending ∧ (s.returnFrame p b).free = s.free := by
  unfold State.returnFrame; split <;> simp

@[simp] theorem State.dispose_keeps (s : State) (p : Port) (b : Nat) (f : Frame) :
    (s.dispose p b f).own = s.own ∧ (s.dispose p b f).cru = s.cru ∧ (s.dispose p b f).ciu = s.ciu ∧
    (s.dispose p b f).tdu = s.tdu ∧ (s.dispose p b f).llu = s.llu ∧ (s.dispose p b f).jcu = s.jcu ∧
    (s.dispose p b f).sru = s.sru ∧ (s.dispose p b f).snu = s.snu ∧ (s.dispose p b f).mgu = s.mgu ∧
    (s.dispose p b f).pending = s.pending ∧ (s.dispose p b f).free = s.free := by
  unfold State.dispose; (repeat' split) <;> simp

@[simp] theorem State.goodFrame_keeps (s : State) (p : Port) (b : Nat) (f : Frame) :
    (s.goodFrame p b f).own = s.own ∧ (s.goodFrame p b f).cru = s.cru ∧
    (s.goodFrame p b f).ciu = s.ciu ∧ (s.goodFrame p b f).tdu = s.tdu ∧
    (s.goodFrame p b f).llu = s.llu ∧ (s.goodFrame p b f).jcu = s.jcu ∧
    (s.goodFrame p b f).sru = s.sru ∧ (s.goodFrame p b f).snu = s.snu ∧
    (s.goodFrame p b f).mgu = s.mgu ∧ (s.goodFrame p b f).pending = s.pending ∧
    (s.goodFrame p b f).free = s.free := by
  simp [State.goodFrame]

@[simp] theorem State.endFrame_keeps (s : State) (p : Port) (b : Nat) (f : Frame) :
    (s.endFrame p b f).own = s.own ∧ (s.endFrame p b f).cru = s.cru ∧
    (s.endFrame p b f).ciu = s.ciu ∧ (s.endFrame p b f).tdu = s.tdu ∧
    (s.endFrame p b f).llu = s.llu ∧ (s.endFrame p b f).jcu = s.jcu ∧
    (s.endFrame p b f).sru = s.sru ∧ (s.endFrame p b f).snu = s.snu ∧
    (s.endFrame p b f).mgu = s.mgu ∧ (s.endFrame p b f).pending = s.pending ∧
    (s.endFrame p b f).free = s.free := by
  unfold State.endFrame; split <;> simp

@[simp] theorem State.goDown_keeps (s : State) (p : Port) :
    (s.goDown p).own = s.own ∧ (s.goDown p).cru = s.cru ∧ (s.goDown p).ciu = s.ciu ∧
    (s.goDown p).tdu = s.tdu ∧ (s.goDown p).llu = s.llu ∧ (s.goDown p).jcu = s.jcu ∧
    (s.goDown p).sru = s.sru ∧ (s.goDown p).snu = s.snu ∧ (s.goDown p).mgu = s.mgu ∧
    (s.goDown p).pending = s.pending ∧ (s.goDown p).free = s.free := by
  unfold State.goDown; dsimp only; split <;> simp

@[simp] theorem State.completeFrame_keeps (s : State) (p : Port) (b : Nat) :
    (s.completeFrame p b).own = s.own ∧ (s.completeFrame p b).fsw = s.fsw ∧
    (s.completeFrame p b).cru = s.cru ∧ (s.completeFrame p b).ciu = s.ciu ∧
    (s.completeFrame p b).tdu = s.tdu ∧ (s.completeFrame p b).llu = s.llu ∧
    (s.completeFrame p b).jcu = s.jcu ∧ (s.completeFrame p b).sru = s.sru ∧
    (s.completeFrame p b).snu = s.snu ∧ (s.completeFrame p b).cmn = s.cmn ∧
    (s.completeFrame p b).mgu = s.mgu ∧ (s.completeFrame p b).pending = s.pending ∧
    (s.completeFrame p b).free = s.free := by
  simp [State.completeFrame]

/-! ### CabEvents -/

@[simp] theorem State.setLevel_keeps (s : State) (i : Input) (level : Bool) :
    (s.setLevel i level).own = s.own ∧ (s.setLevel i level).ports = s.ports ∧
    (s.setLevel i level).fsw = s.fsw ∧ (s.setLevel i level).bqm = s.bqm ∧
    (s.setLevel i level).cru = s.cru ∧ (s.setLevel i level).tdu = s.tdu ∧
    (s.setLevel i level).llu = s.llu ∧ (s.setLevel i level).jcu = s.jcu ∧
    (s.setLevel i level).sru = s.sru ∧ (s.setLevel i level).snu = s.snu ∧
    (s.setLevel i level).cmn = s.cmn ∧ (s.setLevel i level).mgu = s.mgu ∧
    (s.setLevel i level).pending = s.pending ∧ (s.setLevel i level).free = s.free := by
  simp [State.setLevel]

@[simp] theorem State.judgeHorn_keeps (s : State) :
    (s.judgeHorn).own = s.own ∧ (s.judgeHorn).ports = s.ports ∧ (s.judgeHorn).fsw = s.fsw ∧
    (s.judgeHorn).bqm = s.bqm ∧ (s.judgeHorn).cru = s.cru ∧ (s.judgeHorn).ciu = s.ciu ∧
    (s.judgeHorn).tdu = s.tdu ∧ (s.judgeHorn).llu = s.llu ∧ (s.judgeHorn).jcu = s.jcu ∧
    (s.judgeHorn).sru = s.sru ∧ (s.judgeHorn).cmn = s.cmn ∧ (s.judgeHorn).mgu = s.mgu ∧
    (s.judgeHorn).pending = s.pending ∧ (s.judgeHorn).free = s.free := by
  simp [State.judgeHorn]

@[simp] theorem State.deliverChange_keeps (s : State) (i : Input) (level : Bool) :
    (s.deliverChange i level).own = s.own ∧ (s.deliverChange i level).fsw = s.fsw ∧
    (s.deliverChange i level).ciu = s.ciu ∧ (s.deliverChange i level).mgu = s.mgu ∧
    (s.deliverChange i level).pending = s.pending ∧ (s.deliverChange i level).free = s.free := by
  unfold State.deliverChange; (repeat' split) <;> simp

@[simp] theorem State.takeSample_keeps (s : State) (sample : Nat) :
    (s.takeSample sample).own = s.own ∧ (s.takeSample sample).ports = s.ports ∧
    (s.takeSample sample).fsw = s.fsw ∧ (s.takeSample sample).bqm = s.bqm ∧
    (s.takeSample sample).cru = s.cru ∧ (s.takeSample sample).tdu = s.tdu ∧
    (s.takeSample sample).llu = s.llu ∧ (s.takeSample sample).jcu = s.jcu ∧
    (s.takeSample sample).sru = s.sru ∧ (s.takeSample sample).snu = s.snu ∧
    (s.takeSample sample).mgu = s.mgu ∧ (s.takeSample sample).pending = s.pending ∧
    (s.takeSample sample).free = s.free := by
  unfold State.takeSample; split <;> simp

@[simp] theorem State.period_keeps (s : State) :
    (s.period).own = s.own ∧ (s.period).fsw = s.fsw ∧ (s.period).ciu = s.ciu ∧
    (s.period).mgu = s.mgu ∧ (s.period).pending = s.pending := by
  simp [State.period]

/-! ### LoopEvents -/

@[simp] theorem State.endListening_keeps (s : State) :
    (s.endListening).own = s.own ∧ (s.endListening).ports = s.ports ∧ (s.endListening).fsw = s.fsw ∧
    (s.endListening).bqm = s.bqm ∧ (s.endListening).cru = s.cru ∧ (s.endListening).ciu = s.ciu ∧
    (s.endListening).tdu = s.tdu ∧ (s.endListening).sru = s.sru ∧ (s.endListening).mgu = s.mgu ∧
    (s.endListening).pending = s.pending ∧ (s.endListening).free = s.free := by
  simp [State.endListening]

@[simp] theorem State.acceptTelegram_keeps (s : State) (t : Telegram) :
    (s.acceptTelegram t).own = s.own ∧ (s.acceptTelegram t).ports = s.ports ∧
    (s.acceptTelegram t).fsw = s.fsw ∧ (s.acceptTelegram t).bqm = s.bqm ∧
    (s.acceptTelegram t).cru = s.cru ∧ (s.acceptTelegram t).ciu = s.ciu ∧
    (s.acceptTelegram t).tdu = s.tdu ∧ (s.acceptTelegram t).sru = s.sru ∧
    (s.acceptTelegram t).mgu = s.mgu ∧ (s.acceptTelegram t).pending = s.pending ∧
    (s.acceptTelegram t).free = s.free := by
  unfold State.acceptTelegram; split <;> simp

@[simp] theorem State.endTelegram_keeps (s : State) (t : Telegram) :
    (s.endTelegram t).own = s.own ∧ (s.endTelegram t).ports = s.ports ∧
    (s.endTelegram t).fsw = s.fsw ∧ (s.endTelegram t).bqm = s.bqm ∧ (s.endTelegram t).cru = s.cru ∧
    (s.endTelegram t).ciu = s.ciu ∧ (s.endTelegram t).tdu = s.tdu ∧ (s.endTelegram t).sru = s.sru ∧
    (s.endTelegram t).mgu = s.mgu ∧ (s.endTelegram t).pending = s.pending ∧
    (s.endTelegram t).free = s.free := by
  unfold State.endTelegram; split <;> simp

@[simp] theorem State.transmitRequest_keeps (s : State) (q : PointRequest) (l : List PointRequest) :
    (s.transmitRequest q l).own = s.own ∧ (s.transmitRequest q l).ports = s.ports ∧
    (s.transmitRequest q l).fsw = s.fsw ∧ (s.transmitRequest q l).bqm = s.bqm ∧
    (s.transmitRequest q l).cru = s.cru ∧ (s.transmitRequest q l).ciu = s.ciu ∧
    (s.transmitRequest q l).tdu = s.tdu ∧ (s.transmitRequest q l).jcu = s.jcu ∧
    (s.transmitRequest q l).sru = s.sru ∧ (s.transmitRequest q l).snu = s.snu ∧
    (s.transmitRequest q l).cmn = s.cmn ∧ (s.transmitRequest q l).mgu = s.mgu ∧
    (s.transmitRequest q l).pending = s.pending ∧ (s.transmitRequest q l).free = s.free := by
  unfold State.transmitRequest; split <;> simp

end Sys2Proof.Machine
end

