-- ==== Sys2Proof/Laws/Clock.lean ====
section
/-! SUPPORT. What one bit time can change: of a port only what it hears, its persistence timer, the line
and the place in its output; of the part only that, the loop line with its filter and front, the tone
outputs, the timers and the queue. -/

namespace Sys2Proof.Machine

/-- What the receive side of a port does in one bit time: its front, and its persistence timer. -/
theorem State.receiveBit_cases (s : State) (p : Port) :
    ∃ x r, (s.receiveBit p).1 = { s.port p with front := x, persistence := r } := by
  unfold State.receiveBit
  split
  · unfold State.hear State.huntBit LinePort.frameBit LinePort.finding
    dsimp only
    (repeat' split) <;> exact ⟨_, _, rfl⟩
  · exact ⟨_, _, rfl⟩

/-- What one bit time does at a port. -/
theorem State.clockPort_cases (s : State) (p : Port) :
    ∃ x r, s.clockPort p = { s with
      ports := s.ports.modify p fun u =>
        { u with front := x, persistence := r, line := u.line.tail, joined := u.nextJoined
                 pos := s.nextPos p }
      pending := s.pending ++ s.portEvents p } := by
  obtain ⟨x, r, h⟩ := s.receiveBit_cases p
  refine ⟨x, r, ?_⟩
  unfold State.clockPort
  rw [h]
  rfl

/-- The parts of a port that no bit time changes. -/
def LinePort.SameBody (u v : LinePort) : Prop :=
  u.rx = v.rx ∧ u.tx = v.tx ∧ u.fill = v.fill ∧ u.lead = v.lead ∧ u.mode = v.mode ∧
    u.loopCode = v.loopCode ∧ u.latches = v.latches ∧ u.good = v.good ∧ u.discarded = v.discarded ∧
    u.sent = v.sent ∧ u.returnList = v.returnList

theorem LinePort.SameBody.trans {u v w : LinePort} (h : u.SameBody v) (k : v.SameBody w) :
    u.SameBody w := by
  obtain ⟨a, b, c, d, e, f, g, i, j, l, m⟩ := h
  obtain ⟨a', b', c', d', e', f', g', i', j', l', m'⟩ := k
  exact ⟨a.trans a', b.trans b', c.trans c', d.trans d', e.trans e', f.trans f', g.trans g',
    i.trans i', j.trans j', l.trans l', m.trans m'⟩

/-- A bit time at one port leaves the body of both. -/
theorem State.clockPort_body (s : State) (p q : Port) :
    ((s.clockPort p).port q).SameBody (s.port q) := by
  obtain ⟨x, r, h⟩ := s.clockPort_cases p
  rw [h]
  cases p <;> cases q <;>
    simp [State.port, Both.modify, Both.get, Both.set, LinePort.SameBody]

@[simp] theorem State.clockPort_keeps (s : State) (p : Port) :
    (s.clockPort p).own = s.own ∧ (s.clockPort p).fsw = s.fsw ∧ (s.clockPort p).bqm = s.bqm ∧
    (s.clockPort p).cru = s.cru ∧ (s.clockPort p).ciu = s.ciu ∧ (s.clockPort p).tdu = s.tdu ∧
    (s.clockPort p).llu = s.llu ∧ (s.clockPort p).jcu = s.jcu ∧ (s.clockPort p).sru = s.sru ∧
    (s.clockPort p).snu = s.snu ∧ (s.clockPort p).cmn = s.cmn ∧ (s.clockPort p).mgu = s.mgu ∧
    (s.clockPort p).free = s.free :=
  ⟨rfl, rfl, rfl, rfl, rfl, rfl, rfl, rfl, rfl, rfl, rfl, rfl, rfl⟩

@[simp] theorem State.clockLoop_keeps (s : State) :
    s.clockLoop.own = s.own ∧ s.clockLoop.ports = s.ports ∧ s.clockLoop.fsw = s.fsw ∧
    s.clockLoop.bqm = s.bqm ∧ s.clockLoop.cru = s.cru ∧ s.clockLoop.ciu = s.ciu ∧
    s.clockLoop.tdu = s.tdu ∧ s.clockLoop.llu = s.llu.clock ∧ s.clockLoop.jcu = s.jcu ∧
    s.clockLoop.sru = s.sru ∧ s.clockLoop.snu = s.snu ∧ s.clockLoop.cmn = s.cmn ∧
    s.clockLoop.mgu = s.mgu ∧ s.clockLoop.free = s.free ∧
    s.clockLoop.pending = s.pending ++ s.loopEvents :=
  ⟨rfl, rfl, rfl, rfl, rfl, rfl, rfl, rfl, rfl, rfl, rfl, rfl, rfl, rfl, rfl⟩

/-- What one bit time keeps of the Loop Link Unit. -/
theorem Llu.clock_keeps (u : Llu) :
    u.clock.carrier = u.carrier ∧ u.clock.rx = u.rx ∧ u.clock.txen = u.txen ∧
    u.clock.sending = u.sending ∧ u.clock.queue = u.queue ∧ u.clock.test = u.test ∧
    u.clock.lastTest = u.lastTest ∧ u.clock.good = u.good ∧ u.clock.checkErrors = u.checkErrors ∧
    u.clock.lengthErrors = u.lengthErrors ∧ u.clock.rejected = u.rejected ∧
    u.clock.carrierDiscards = u.carrierDiscards ∧ u.clock.sent = u.sent ∧ u.clock.cutOff = u.cutOff :=
  ⟨rfl, rfl, rfl, rfl, rfl, rfl, rfl, rfl, rfl, rfl, rfl, rfl, rfl, rfl⟩

/-- A POINT_REQUEST takes 128 loop bits of 625 thirds of a microsecond. -/
theorem SendingRequest.thirds_eq (q : SendingRequest) : q.thirds = 80000 := by
  have h (b : Byte) : (octetBits b).length = 8 := by simp [octetBits]
  unfold SendingRequest.thirds telegramBits lineBits
  simp [preamble, loopStartPair, telegramBody, pointRequestTelegram, oct1, oct2, octS2, h]

/-- What the loop transmitter can come to in one bit time. -/
theorem State.transmitterEvent_cases (s : State) :
    s.transmitterEvent = [] ∨ (s.transmitterEvent = [.pointRequestSent] ∧ s.llu.requestSent = true) ∨
      (s.transmitterEvent = [.pointRequestTransmit] ∧ s.listening = true ∧
        s.llu.transmitterFree = true ∧ s.llu.queue ≠ []) := by
  unfold State.transmitterEvent
  split
  · exact .inr (.inl ⟨rfl, ‹_›⟩)
  · split
    · exact .inr (.inr ⟨rfl, ‹_›⟩)
    · exact .inl rfl

@[simp] theorem State.tick_ports (s : State) : s.tick.ports = s.ports := rfl

/-- The queue after the count of a microsecond: the commands due join it as a millisecond ends. -/
theorem State.countMicro_pending (s : State) :
    s.countMicro.pending = s.pending ++
      if s.cmn.micros + 1 < 1000 then []
      else (s.onCmn fun c => { c with micros := 0 }).tick.due := by
  unfold State.countMicro
  split
  · exact (List.append_nil _).symm
  · rfl

theorem State.countMicro_keeps (s : State) :
    s.countMicro.own = s.own ∧ s.countMicro.ports = s.ports ∧ s.countMicro.bqm = s.bqm ∧
    s.countMicro.free = s.free := by
  unfold State.countMicro
  split <;> exact ⟨rfl, rfl, rfl, rfl⟩

/-- What a bit time keeps of the part. -/
theorem State.clock_keeps (s : State) :
    s.clock.own = s.own ∧ s.clock.bqm = s.bqm ∧ s.clock.free = s.free := by
  unfold State.clock
  obtain ⟨h1, _, h3, h4⟩ :=
    State.countMicro_keeps (((s.clockPort .A).clockPort .B).clockLoop.onSnu Snu.clock)
  rw [h1, h3, h4]
  simp

/-- What a bit time keeps of a port. -/
theorem State.clock_body (s : State) (p : Port) : (s.clock.port p).SameBody (s.port p) := by
  have h : s.clock.port p = (((s.clockPort .A).clockPort .B)).port p := by
    unfold State.clock State.port
    rw [(State.countMicro_keeps _).2.1]
    rfl
  rw [h]
  exact (State.clockPort_body _ .B p).trans (State.clockPort_body s .A p)

/-- The millisecond of every unit but the ports and the Loop Link Unit ends exactly at the thousandth bit
time. -/
theorem State.clock_units (s : State) :
    s.clock.llu = s.llu.clock ∧
    (s.cmn.micros + 1 < 1000 →
      s.clock.cmn = { s.cmn with micros := s.cmn.micros + 1 } ∧ s.clock.fsw = s.fsw ∧
      s.clock.cru = s.cru ∧ s.clock.ciu = s.ciu ∧ s.clock.tdu = s.tdu ∧
      s.clock.jcu = s.jcu ∧ s.clock.sru = s.sru ∧ s.clock.snu = s.snu.clock ∧
      s.clock.mgu = s.mgu) ∧
    (1000 ≤ s.cmn.micros + 1 →
      s.clock.cmn = Cmn.tick { s.cmn with micros := 0 } ∧ s.clock.fsw = s.fsw.tick ∧
      s.clock.cru = s.cru.tick ∧ s.clock.ciu = s.ciu.tick ∧ s.clock.tdu = s.tdu.tick ∧
      s.clock.jcu = s.jcu.tick ∧ s.clock.sru = s.sru.tick ∧
      s.clock.snu = s.snu.clock.tick ∧ s.clock.mgu = s.mgu.tick) := by
  have e : s.clock = if s.cmn.micros + 1 < 1000 then
        (((s.clockPort .A).clockPort .B).clockLoop.onSnu Snu.clock).onCmn
          fun c => { c with micros := c.micros + 1 }
      else ((((s.clockPort .A).clockPort .B).clockLoop.onSnu Snu.clock).onCmn
        fun c => { c with micros := 0 }).endMilli := rfl
  refine ⟨?_, fun h => ?_, fun h => ?_⟩
  · rw [e]; split <;> rfl
  · rw [e, if_pos h]
    exact ⟨rfl, rfl, rfl, rfl, rfl, rfl, rfl, rfl, rfl⟩
  · rw [e, if_neg (Nat.not_lt.mpr h)]
    exact ⟨rfl, rfl, rfl, rfl, rfl, rfl, rfl, rfl, rfl⟩

end Sys2Proof.Machine
end

