-- ==== Sys2Proof/Laws/Commands.lean ====
section
/-! SUPPORT. One lemma for each shared shape of a command: what a command keeps that takes a frame from
the Local Dispatch Queue, and what a table write keeps. A property kept by each part of the shape is kept
by the whole. -/

namespace Sys2Proof.Machine

/-- A consumer keeps a property that the queue's head, its action and the release keep. -/
theorem State.consume_ind {P : State → Prop} {kind : Byte} {act : State → Frame → State}
    (take : ∀ s, P s → P s.takeHead) (acts : ∀ s f, P s → P (act s f))
    (release : ∀ s b, P s → P (s.consumed b)) {s : State} (h : P s) : P (s.consume kind act) := by
  unfold State.consume
  split
  · exact h
  · exact release _ _ (acts _ _ (take _ h))

/-- The judgements of R170 keep what the command's action keeps. -/
theorem State.obey_ind {P : State → Prop} {act : Act} (acts : ∀ s f, P s → P (act s f).1) {s : State}
    {f : Frame} (h : P s) : P (s.obey f act).1 := by
  unfold State.obey
  repeat' split
  · exact h
  · exact h
  · exact h
  · exact acts _ _ h

/-- A command of the Management Unit keeps a property that its parts keep: the head taken, the action,
the count, the reply, the release and the settling of a pending reset. -/
theorem State.control_ind {P : State → Prop} {row : Instr} {act : Act} (take : ∀ s, P s → P s.takeHead)
    (acts : ∀ s f, P s → P (act s f).1) (count : ∀ s f, P s → P (s.onMgu f))
    (reply : ∀ s f a, P s → P (s.reply f a)) (release : ∀ s b, P s → P (s.consumed b))
    (settle : ∀ s, P s → P s.settleReset) {s : State} (h : P s) : P (s.control row act) := by
  unfold State.control
  split
  · exact h
  · split
    · exact h
    · exact settle _ (release _ _ (reply _ _ _ (count _ _ (State.obey_ind acts (take _ h)))))

/-- A state without a pending reset that has acted on a command with a code answers it, and does no more. -/
theorem State.reply_answered (s : State) (b : Nat) (f : Frame) (a : Answer)
    (hp : s.mgu.pendingReset = none) (he : f.payload ≠ []) :
    (((s.onMgu fun u => u.tally a).reply f a).consumed b).settleReset = s.answered b f a := by
  have hm : (s.onMgu fun u => u.tally a).mgu.pendingReset = none := by
    simp only [State.onMgu_mgu, Mgu.tally]; split <;> exact hp
  obtain ⟨c, l, hc⟩ : ∃ c l, f.payload = c :: l := by
    cases h : f.payload with
    | nil => exact absurd h he
    | cons c l => exact ⟨c, l, rfl⟩
  have hr : (s.onMgu fun u => u.tally a).reply f a =
      (s.onMgu fun u => u.tally a).sendOwn priorityReply (s.replyFrame f a) := by
    unfold State.reply State.mark State.drawCode
    rw [hm, hc]; rfl
  have hf : s.replyFrame f a = ownFrame s.own f.src 0x71 3 f.seq
      (f.payload.take 1 ++ oct1 a.status ++ oct1 a.reason ++ oct2 a.figure ++ a.data) := by
    unfold State.replyFrame State.replyCode replyHead
    rw [hc]; rfl
  have hs : (((s.onMgu fun u => u.tally a).reply f a).consumed b).mgu.pendingReset = none := by
    rw [hr]; simpa using hm
  unfold State.settleReset
  rw [hs]
  simp only [State.answered, hr, hf]
  rfl

/-- The command at the head of the Local Dispatch Queue, from the manager and as long as its layout asks,
is acted on and answered (R170). -/
theorem State.control_answered {s : State} {b : Nat} {f : Frame} {row : Instr} {act : Act}
    (h : s.Commanded b f) (hr : rowOf f.payload = row) (hk : knownCode f.payload = true)
    (hl : lengthFits f.payload = true) (hn : (act s.takeHead f).1.mgu.pendingReset = none) :
    s.control row act = (act s.takeHead f).1.answered b f (act s.takeHead f).2 := by
  obtain ⟨h1, h2, h3⟩ := h
  have he : f.payload ≠ [] := by
    intro e; rw [e] at hk; simp [knownCode] at hk
  have ho : s.takeHead.obey f act = act s.takeHead f := by
    unfold State.obey
    rw [if_neg (by simpa using h3), if_neg (by simp [hk]), if_neg (by simp [hl])]
  unfold State.control
  rw [h1]
  simp only
  rw [if_neg (by simp [h2, hr]), ho]
  exact State.reply_answered _ _ _ _ hn he

/-- A command refused before its own checks changes nothing but what every answer does (R170). -/
theorem State.control_refused {s : State} {b : Nat} {f : Frame} {row : Instr} {act : Act} {a : Answer}
    (h1 : s.headOfKind kindControl = some (b, f)) (h2 : s.mgu.pendingReset = none)
    (hr : rowOf f.payload = row) (he : f.payload ≠ []) (ho : s.takeHead.obey f act = (s.takeHead, a)) :
    s.control row act = s.takeHead.answered b f a := by
  unfold State.control
  rw [h1]
  simp only
  rw [if_neg (by simp [h2, hr]), ho]
  exact State.reply_answered _ _ _ _ (by simpa using h2) he

/-- Entries written one after another keep what each write keeps. -/
theorem putAll_ind {P : State → Prop} {α : Type} {put : State → Nat → α → State}
    (puts : ∀ s i x, P s → P (put s i x)) (l : List (Option (Taken α))) (i : Nat) {s : State} (h : P s) :
    P (putAll put i l s) := by
  induction l generalizing i s with
  | nil => exact h
  | cons x l ih =>
    cases x with
    | none => exact ih _ h
    | some y => exact ih _ (puts _ _ _ h)

theorem State.writeTaken_ind {P : State → Prop} {α : Type} {put : State → Nat → α → State}
    (puts : ∀ s i x, P s → P (put s i x)) {i : Nat} {l : List (Option (Taken α))} {s : State} (h : P s) :
    P (s.writeTaken i l put).1 := by
  unfold State.writeTaken
  split
  · exact h
  · exact putAll_ind puts _ _ h

/-- A table write keeps what the write of one entry keeps (R171). -/
theorem State.writeEntries_ind {P : State → Prop} {α : Type} {put : State → Nat → α → State}
    (puts : ∀ s i x, P s → P (put s i x)) {lo hi size : Nat} {payload : List Byte}
    {parse : Nat → List Byte → Option (Taken α)} {s : State} (h : P s) :
    P (s.writeEntries lo hi size payload parse put).1 := by
  simp only [State.writeEntries]
  split
  · exact h
  · split
    · exact h
    · exact State.writeTaken_ind puts h

/-- A write of ROUTE keeps what the writes of the header and of an entry keep (R120, R171). -/
theorem State.writeRoute_ind {P : State → Prop} (header : ∀ s i x, P s → P (putHeader s i x))
    (entry : ∀ s i x, P s → P (putRoute s i x)) {payload : List Byte} {s : State} (h : P s) :
    P (s.writeRoute payload).1 := by
  unfold State.writeRoute
  repeat' split
  · exact h
  · exact State.writeTaken_ind header h
  · exact State.writeEntries_ind entry h

/-- A write of PATTERN keeps what the write of one pattern keeps (R151, R171). -/
theorem State.writePattern_ind {P : State → Prop} (puts : ∀ s i x, P s → P (putPattern s i x))
    {payload : List Byte} {s : State} (h : P s) : P (s.writePattern payload).1 := by
  simp only [State.writePattern]
  repeat' split
  · exact h
  · exact h
  · exact State.writeTaken_ind puts h

end Sys2Proof.Machine
end

