-- ==== Sys2Proof/Laws/Sending.lean ====
section
/-! SUPPORT. What the sending of an own frame reads and writes: the free buffer it takes, the queues it
joins, and that nothing outside the ports, the Frame Switch, the buffers and the monitor matters to it. -/

namespace Sys2Proof.Machine

/-- The buffer that the pool gives next exists and is free (R41). -/
theorem Bqm.firstFree_some {q : Bqm} {b : Nat} (h : q.firstFree = some b) :
    b < 96 ∧ (q.buffer b).refs = 0 := by
  simp only [Bqm.firstFree, List.findIdx?_eq_some_iff_getElem] at h
  obtain ⟨hlt, hz, -⟩ := h
  have hb : q.buffer b = q.pool.data[b] := by simp [Bqm.buffer, Tab.get, List.getD, hlt]
  exact ⟨q.pool.size ▸ hlt, by rw [hb]; simpa using hz⟩

/-- No buffer is given exactly when none is free (R41). -/
theorem Bqm.firstFree_none {q : Bqm} : q.firstFree = none ↔ q.freeCount = 0 := by
  simp [Bqm.firstFree, Bqm.freeCount, List.filter_eq_nil_iff]

/-- A frame that an offer queues stands at the tail of its queue with one more reference (R46). -/
theorem State.enqueue_queued {s : State} {p : Port} {priority b : Nat}
    (h : s.offerOutcome p priority = .queued) :
    s.enqueue p priority b =
      s.onBqm fun q => (q.onEgress p fun e => e.onQueue (s.bqm.queueFor p priority) fun x =>
        { x with entries := x.entries ++ [b] }).retain b := by
  simp only [State.enqueue, h]

/-- Two states that agree on all that the sending of a frame reads. -/
def State.SendsAlike (s t : State) : Prop :=
  s.ports = t.ports ∧ s.fsw = t.fsw ∧ s.bqm = t.bqm ∧ s.cmn = t.cmn

theorem State.SendsAlike.enqueue {s t : State} (h : s.SendsAlike t) (p : Port) (priority b : Nat) :
    (s.enqueue p priority b).SendsAlike (t.enqueue p priority b) := by
  obtain ⟨h1, h2, h3, h4⟩ := h
  have ho : s.offerOutcome p priority = t.offerOutcome p priority := by
    simp only [State.offerOutcome, State.port, h1, h3]; rfl
  unfold State.enqueue
  rw [ho]
  cases t.offerOutcome p priority <;> simp [State.SendsAlike, h1, h2, h3, h4, State.count, State.onCmn]

theorem State.SendsAlike.offerAt {s t : State} (h : s.SendsAlike t) (x : Both Bool) (priority b : Nat) :
    (s.offerAt x priority b).SendsAlike (t.offerAt x priority b) := by
  cases x with
  | mk x y =>
    cases x <;> cases y
    · exact h
    · exact h.enqueue _ _ _
    · exact h.enqueue _ _ _
    · exact (h.enqueue _ _ _).enqueue _ _ _

/-- States that agree on what sending reads agree after it. -/
theorem State.SendsAlike.sendOwn {s t : State} (h : s.SendsAlike t) (priority : Nat) (f : Frame) :
    (s.sendOwn priority f).SendsAlike (t.sendOwn priority f) := by
  obtain ⟨h1, h2, h3, h4⟩ := h
  have hr : s.routes (addrOf f.dest) = t.routes (addrOf f.dest) := by simp only [State.routes, h2]
  unfold State.sendOwn
  rw [h3, hr]
  cases t.bqm.firstFree with
  | none => simp [State.SendsAlike, h1, h2, h3, h4, State.ownFailure, State.count, State.onCmn]
  | some b =>
    have h0 : (s.onBqm fun q => (q.take b).write b f).SendsAlike (t.onBqm fun q => (q.take b).write b f) := by
      simp [State.SendsAlike, h1, h2, h3, h4]
    obtain ⟨k1, k2, k3, k4⟩ := h0.offerAt (t.routes (addrOf f.dest)) priority b
    exact ⟨by simpa using k1, by simpa using k2, by simp [k3], by simpa using k4⟩

end Sys2Proof.Machine
end

