-- ==== Sys2Proof/Laws/Roles.lean ====
section
/-! SUPPORT. What a change of role does to the Cab Role Unit, to the traction state and to the Stop
Request Record: one lemma for each unit (R58, R69, R90, R147). -/

namespace Sys2Proof.Machine

/-- An announce changes no more of the Cab Role Unit than its seq (R59). -/
theorem State.sendAnnounce_cru (s : State) : ∃ n, s.sendAnnounce.cru = { s.cru with seq := n } := by
  unfold State.sendAnnounce
  split
  · exact ⟨s.cru.seq, rfl⟩
  · simp only
    split
    · exact ⟨s.cru.seq + 1, by simp⟩
    · exact ⟨s.cru.seq, by simp⟩

/-- The Cab Role Unit after a change of role: entered, but for its seq. -/
theorem State.setRole_cru (s : State) (r : Role) : ∃ n, (s.setRole r).cru = { s.cru.enter r with seq := n } := by
  unfold State.setRole
  obtain ⟨n, h⟩ := State.sendAnnounce_cru
    (((if r = .active then ((s.onCru fun u => u.enter r).departFrom s.cru.role r).arriveActive s.cru.role
      else (s.onCru fun u => u.enter r).departFrom s.cru.role r)).onSnu fun u => u.setAlertRole r.alerts)
  refine ⟨n, ?_⟩
  rw [h]
  split <;> simp

@[simp] theorem State.setRole_role (s : State) (r : Role) : (s.setRole r).cru.role = r := by
  obtain ⟨n, h⟩ := s.setRole_cru r
  rw [h]; rfl

@[simp] theorem State.setRole_cabs (s : State) (r : Role) : (s.setRole r).cru.cabs = s.cru.cabs := by
  obtain ⟨n, h⟩ := s.setRole_cru r
  rw [h]; rfl

/-- OFF entered, on the unit alone (R90). -/
def Tdu.stopped (u : Tdu) : Tdu := if u.state = .off then u else u.enterOff

/-- RUN left for HOLD, on the unit alone (R90). -/
def Tdu.held (u : Tdu) : Tdu := if u.state = .run then { u with state := .hold, r := 0 } else u

/-- HOLD left for RUN, on the unit alone (R90). -/
def Tdu.freed (u : Tdu) : Tdu := if u.state = .hold then { u with state := .run } else u

/-- OFF left, on the unit alone (R90, R91). -/
def Tdu.started (u : Tdu) (estop : Bool) : Tdu :=
  if u.state ≠ .off then u
  else if estop then { u.leaveOff with state := .emergency, d := -1000, r := 0, grace := none }
  else { u.leaveOff with state := .run }

@[simp] theorem State.tractionOff_tdu (s : State) : s.tractionOff.tdu = s.tdu.stopped := by
  unfold State.tractionOff Tdu.stopped; split <;> rfl

@[simp] theorem State.tractionHold_tdu (s : State) : s.tractionHold.tdu = s.tdu.held := by
  unfold State.tractionHold Tdu.held; split <;> rfl

@[simp] theorem State.tractionRun_tdu (s : State) : s.tractionRun.tdu = s.tdu.freed := by
  unfold State.tractionRun Tdu.freed; split <;> rfl

@[simp] theorem State.tractionStart_tdu (s : State) :
    s.tractionStart.tdu = s.tdu.started (s.level .estop) := by
  unfold State.tractionStart Tdu.started
  split
  · rfl
  · split <;> rfl

/-- The traction unit after a change of the role from `old` to `new` (R90). -/
def Tdu.follow (u : Tdu) (old new : Role) (estop : Bool) : Tdu :=
  let left :=
    match old with
    | .active => if new = .conflict then u.held else u.stopped
    | .conflict => if new = .active then u else u.stopped
    | _ => u
  if new = .active then (if old = .conflict then left.freed else left.started estop) else left

theorem State.departFrom_tdu (s : State) (old new : Role) :
    (s.departFrom old new).tdu =
      match old with
      | .active => if new = .conflict then s.tdu.held else s.tdu.stopped
      | .conflict => if new = .active then s.tdu else s.tdu.stopped
      | _ => s.tdu := by
  cases old <;> simp only [State.departFrom] <;> (try split) <;> simp

theorem State.arriveActive_tdu (s : State) (old : Role) :
    (s.arriveActive old).tdu = if old = .conflict then s.tdu.freed else s.tdu.started (s.level .estop) := by
  unfold State.arriveActive
  have h : ∀ t : State, t.ciu = s.ciu → t.level .estop = s.level .estop := fun t h => by
    simp only [State.level, h]
  simp only
  split
  · simp
  · rw [(State.loopOn_keeps _).2.2.2.2.2.2.1, State.tractionStart_tdu, h _ (by simp)]
    simp

theorem State.setRole_tdu (s : State) (r : Role) :
    (s.setRole r).tdu = s.tdu.follow s.cru.role r (s.level .estop) := by
  have h : ∀ t : State, t.ciu = s.ciu → t.level .estop = s.level .estop := fun t h => by
    simp only [State.level, h]
  have h0 : (s.onCru fun u => u.enter r).tdu = s.tdu := rfl
  unfold State.setRole Tdu.follow
  simp only [State.sendAnnounce_keeps, State.onSnu_tdu]
  by_cases hr : r = .active
  · rw [if_pos hr, State.arriveActive_tdu, State.departFrom_tdu, h _ (by simp), h0, if_pos hr]
    cases s.cru.role <;> simp [hr]
  · rw [if_neg hr, State.departFrom_tdu, h0, if_neg hr]
    cases s.cru.role <;> simp [hr]

/-! ### The Stop Request Record -/

/-- A STOP_INDICATE changes no more of the Stop Request Unit than its seq (R145). -/
theorem State.indicate_sru (s : State) : ∃ n, s.indicate.sru = { s.sru with seq := n } := by
  unfold State.indicate
  simp only
  split
  · exact ⟨s.sru.seq + 1, by simp⟩
  · exact ⟨s.sru.seq, by simp⟩

/-- The unit after an entry into SERVING, but for its seq (R144). -/
def Sru.served (u : Sru) : Sru :=
  { u with record := { u.record with state := .serving }, lamp := false, refreshTimer := none
           inhibitTimer := none }

theorem State.serve_sru (s : State) : ∃ n, s.serve.sru = { s.sru.served with seq := n } := by
  obtain ⟨n, h⟩ := State.indicate_sru (s.onSru fun u =>
    { u with record := { u.record with state := .serving }, lamp := false
             refreshTimer := none, inhibitTimer := none })
  exact ⟨n, h⟩

theorem State.stopEnd_sru (s : State) : ∃ n, s.stopEnd.sru = { s.sru.emptied with seq := n } := by
  unfold State.stopEnd
  split
  · exact ⟨s.sru.seq, rfl⟩
  · obtain ⟨n, h⟩ := State.indicate_sru
      (s.onSru fun u => { u with record := { u.record with state := .inhibit } })
    exact ⟨n, by rw [State.onSru_sru, h]; rfl⟩

theorem State.stopStart_sru (s : State) :
    ∃ n, s.stopStart.sru =
      { (if s.level .doorRelease then s.sru.emptied.served else s.sru.emptied) with seq := n } := by
  unfold State.stopStart
  simp only
  have hl : (s.onSru Sru.emptied).level .doorRelease = s.level .doorRelease := rfl
  rw [hl]
  split
  · obtain ⟨n, h⟩ := State.serve_sru (s.onSru Sru.emptied)
    exact ⟨n, h⟩
  · exact ⟨s.sru.seq, rfl⟩

/-- The Stop Request Unit after a change of role, but for its seq (R147). -/
theorem State.setRole_sru (s : State) (r : Role) :
    ∃ n, (s.setRole r).sru =
      { (if r = .active then
            (if s.level .doorRelease then s.sru.emptied.served else s.sru.emptied)
          else if s.cru.role = .active then s.sru.emptied else s.sru) with seq := n } := by
  have hdep : ∃ n, ((s.onCru fun u => u.enter r).departFrom s.cru.role r).sru =
      { (if s.cru.role = .active then s.sru.emptied else s.sru) with seq := n } := by
    cases hro : s.cru.role <;> simp only [State.departFrom]
    case active =>
      obtain ⟨n, h⟩ := State.stopEnd_sru (s.onCru fun u => u.enter r).junctionEnd
      refine ⟨n, ?_⟩
      split <;> simp [h]
    case conflict => refine ⟨s.sru.seq, ?_⟩; split <;> simp
    all_goals exact ⟨s.sru.seq, by simp⟩
  unfold State.setRole
  simp only [State.sendAnnounce_keeps, State.onSnu_sru]
  obtain ⟨n, hn⟩ := hdep
  split
  · generalize hd : (s.onCru fun u => u.enter r).departFrom s.cru.role r = d at hn ⊢
    obtain ⟨m, hm⟩ := State.stopStart_sru d.junctionStart
    have hl : d.junctionStart.level .doorRelease = s.level .doorRelease := by
      simp only [State.level]; rw [← hd]; simp
    refine ⟨m, ?_⟩
    have he : d.junctionStart.sru.emptied = { s.sru.emptied with seq := n } := by
      rw [(State.junctionStart_keeps d).2.2.2.2.2.2.2.2.1, hn]; split <;> rfl
    have ha : (d.arriveActive s.cru.role).sru = d.junctionStart.stopStart.sru := by
      unfold State.arriveActive; simp only; split <;> simp
    rw [ha, hm, hl, he]
    split <;> rfl
  · exact ⟨n, hn⟩

/-! ### The list of contexts -/

/-- The list after a change of role: empty on entry to ACTIVE and on departure from it (R138). -/
theorem State.setRole_contexts (s : State) (r : Role) :
    (s.setRole r).jcu.contexts =
      if r = .active ∨ s.cru.role = .active then [] else s.jcu.contexts := by
  have hdep : ((s.onCru fun u => u.enter r).departFrom s.cru.role r).jcu.contexts =
      if s.cru.role = .active then [] else s.jcu.contexts := by
    cases s.cru.role <;> simp only [State.departFrom]
    case active => split <;> simp [State.junctionEnd, State.judgeJunctions]
    case conflict => split <;> simp
    all_goals simp
  unfold State.setRole
  simp only [State.sendAnnounce_keeps, State.onSnu_jcu]
  by_cases hr : r = .active
  · rw [if_pos hr, if_pos (.inl hr)]
    unfold State.arriveActive
    simp only
    split <;> simp [State.junctionStart, State.judgeJunctions]
  · rw [if_neg hr, hdep]
    simp [hr]

end Sys2Proof.Machine
end

