-- ==== Sys2Proof/WellFormed.lean ====
section
/-! DEFINITION. Which command terms name an event the part can meet: the operand lies in the range
the spec gives it. -/

namespace Sys2Proof

/-- A command whose operand lies in its stated range: a frame's payload has at most 240 octets
(R3), a telegram's fields at most 16 (R110), the Node Table has entries 0..62 (section 2.1), a
Cab Table entry names a cab's address 0..62 (R3), a junction is 1..4095 (R112). -/
def Instr.wellFormed : Instr → Bool
  | .frameEnd _ f => decide (f.payload.length ≤ 240)
  | .telegramReceived t => decide (t.fields.length ≤ 16)
  | .learningTimerExpiry a => decide (a.toNat ≤ 62)
  | .cabEntryTimeout a => decide (a.toNat ≤ 62)
  | .retryTimerExpiry j => decide (1 ≤ j ∧ j ≤ 4095)
  | _ => true

end Sys2Proof
end

