-- ==== Sys2Proof/Tests/Slice0.lean ====
section
/-! SUPPORT. The model's own tests: the operand ranges, the worked figures of the spec, and for each
statement that has hypotheses a concrete state and operands that meet them. -/

namespace Sys2Proof.Tests

open Sys2Proof.Machine

/- The kernel evaluates these theorems one after another: side by side, each would wait in a thread of
its own. -/
set_option Elab.async false

/-! ### States to test on -/

/-- Inputs with every pin and every level inactive. -/
def quiet : Ciu := Ciu.unwired

/-- The part of address 5 right after power-on. -/
def part : State := State.powerOn 5 quiet (Llu.powerOn false LoopLine.quiet 0)

/-- The part in a role. -/
def inRole (r : Role) : State := part.onCru fun u => { u with role := r }

/-- The part in command, driving in RUN with the power-on profile live. -/
def driving : State :=
  ((inRole .active).onTdu fun u =>
    { u with state := .run, periodTimer := some 0, live := some Profile.powerOn }).onCiu fun u =>
      { u with handle := some 600 }

/-- One input at a level. -/
def withLevel (s : State) (i : Input) : State :=
  s.onCiu fun u =>
    { u with inputs := u.inputs.set (inputIndex i) { pin := true, level := true, stability := none } }

/-- One input whose pin has read at `on` for 10 ms, against its debounced level. -/
def steady (s : State) (i : Input) (on : Bool) : State :=
  s.onCiu fun u =>
    { u with inputs := u.inputs.set (inputIndex i) { pin := on, level := !on, stability := some 10 } }

/-- The speed known at V. -/
def atSpeed (s : State) (v : Int) : State := s.onTdu fun u => { u with facts := { v := some v, s := some 0 } }

/-- One port's receiver in a state. -/
def withRx (s : State) (p : Port) (x : RxState) : State := s.onPort p fun u => { u with rx := x }

/-- The first n buffers in use. -/
def withUsed (s : State) (n : Nat) : State :=
  s.onBqm fun q =>
    { q with pool := (List.range n).foldl (fun t i => t.set i { refs := 1, frame := Frame.blank }) q.pool }

/-- A sealed frame from an address. -/
def frameFrom (src dest kind : Byte) (payload : List Byte) : Frame :=
  sealFrame { dest := dest, src := src, kind := kind, tagHop := 0x3F, seq := 9, payload := payload
              check := 0 }

/-- A frame in buffer 0, held by the Local Dispatch Queue alone. -/
def received (s : State) (f : Frame) : State :=
  s.onBqm fun q => { q with pool := q.pool.set 0 { refs := 1, frame := f }, ldq := [0] }

/-- A command of the manager, address 1. -/
def command (payload : List Byte) : Frame := frameFrom 1 5 0x70 payload

/-- A command of the manager at the head of the Local Dispatch Queue. -/
def told (s : State) (payload : List Byte) : State := received s (command payload)

/-- Port A in REMOTE_LOOPBACK and port B in DISABLED, and so on. -/
def inMode (s : State) (p : Port) (m : PortMode) : State := s.onPort p fun u => { u with mode := m }

/-- A frame of 3 payload octets waiting in buffer 7 in a queue of port A. -/
def waiting (s : State) (n : Nat) : State :=
  s.onBqm fun q =>
    let r := q.onEgress .A fun e => e.onQueue n fun x => { x with entries := [7] }
    { r with pool := q.pool.set 7 { refs := 1, frame := frameFrom 1 5 0x55 [1, 2, 3] } }

/-- A sealed telegram. -/
def telegram (kind : Byte) (fields : List Byte) : Telegram :=
  let t : Telegram := { kind := kind, fields := fields, check := 0 }
  { t with check := telegramCheck t }

/-- A LOOP_IDENT of junction 300 in a kind and with a point status, locked for run 2. -/
def identTelegram (kind status : Byte) : Telegram := telegram 1 [kind, 0x2C, 1, status, 2, 0]

/-- A live Route Table of run 2 with one entry, for junction 300. -/
def routed (s : State) : State :=
  s.onJcu fun u =>
    { u with
      live := some
        { header := { RouteHeader.powerOn with run := 2 }
          entries := [{ junction := 300, direction := .left, straightCap := none, divergingCap := none
                        junctionLength := none }] } }

/-- A context of junction 300 in a state. -/
def context (st : CtxState) : Ctx :=
  { junction := 300, tabled := true, direction := some .left, source := some .table, state := st, attempt := 1
    status := none, requestSent := none, wasSet := false, straightCap := 250, divergingCap := 150
    unconfirmedCap := 100, junctionLength := 30, odoCreated := 0, movingCreated := 0
    odoCleared := none, movingCleared := none, trainLength := none, retry := some 0 }

/-- The part in command under a live Route Table, listening in TELEGRAM with one context. -/
def atJunction (st : CtxState) : State :=
  ((routed driving).onJcu fun u => { u with contexts := [context st] }).onLlu fun u =>
    { u with carrier := true, cdPin := true, rx := .telegram }

/-- A context of another junction. -/
def other (j : Nat) : Ctx := { context .set with junction := j }

/-! ### Operand ranges: an ill-formed term for each check -/

theorem test_wellFormed_payload : (Instr.frameEnd .A
      { Frame.blank with payload := List.replicate 241 0 }).wellFormed = false ∧
    (Instr.frameEnd .A { Frame.blank with payload := List.replicate 240 0 }).wellFormed = true := by
  decide +kernel

theorem test_wellFormed_fields :
    (Instr.telegramReceived { kind := 1, fields := List.replicate 17 0, check := 0 }).wellFormed = false ∧
    (Instr.telegramReceived { kind := 1, fields := List.replicate 16 0, check := 0 }).wellFormed = true := by
  decide +kernel

theorem test_wellFormed_node : (Instr.learningTimerExpiry 63).wellFormed = false ∧
    (Instr.learningTimerExpiry 62).wellFormed = true := by decide

theorem test_wellFormed_cab : (Instr.cabEntryTimeout 63).wellFormed = false ∧
    (Instr.cabEntryTimeout 62).wellFormed = true := by decide

theorem test_wellFormed_junction : (Instr.retryTimerExpiry 0).wellFormed = false ∧
    (Instr.retryTimerExpiry 4096).wellFormed = false ∧ (Instr.retryTimerExpiry 4095).wellFormed = true := by
  decide

/-! ### The hypotheses of the statements are met -/

theorem witness_EmptyQueuePassesABitTime :
    let s := (driving.onCmn fun c => { c with micros := 999 }).onCru fun u =>
      { u with announceTimer := some 1, claimWindow := some 1 }
    driving.pending = [] ∧ driving.cmn.micros < 999 ∧ 999 ≤ s.cmn.micros ∧ s.pending = [] ∧
      s.cru.announceTimer = some 1 ∧ s.cru.claimWindow = some 1 ∧
      (s.onTdu fun u => { u with periodTimer := some 1, grace := some 1 }).tdu.periodTimer = some 1 ∧
      (s.onSru fun u => { u with refreshTimer := some 1 }).sru.refreshTimer = some 1 ∧
      (s.onMgu fun u => { u with reportTimer := some 1 }).mgu.reportTimer = some 1 := by decide +kernel

/-- One port with bits heard and bit times still to come. -/
def hearing (s : State) (p : Port) (bits : List Bool) (line : List (Bool × Bool)) : State :=
  s.onPort p fun u => { u with line := line, front := { u.front with bits := bits } }

theorem witness_FramesStartWithABufferOrAreSkipped :
    (((withRx (withUsed part 87) .A .hunt).port .A).rx = .hunt ∧
      ((withRx (withUsed part 87) .A .hunt).port .A).mode ≠ .localLoopback ∧
      8 < (withRx (withUsed part 87) .A .hunt).bqm.freeCount) ∧
    (((withRx (withUsed part 88) .A .hunt).port .A).rx = .hunt ∧
      ((withRx (withUsed part 88) .A .hunt).port .A).mode ≠ .localLoopback ∧
      (withRx (withUsed part 88) .A .hunt).bqm.freeCount ≤ 8) ∧
    (((withRx part .B (.frame none)).port .B).rx = .frame none ∧
      ((withRx part .B (.frame none)).port .B).mode ≠ .localLoopback) ∧
    (((inMode part .A .localLoopback).port .A).mode = .localLoopback ∧
      ((inMode part .A .localLoopback).port .A).front.found ≠ some (.frameStart .A)) ∧
    (let s := hearing (withRx part .A .hunt) .A ((lineBits [0xC7, 0x1E]).take 15) [(false, true)];
      s.pending = [] ∧ (s.port .A).rx = .hunt ∧ (s.port .A).mode = .normal ∧
      (s.port .A).front.bits = (lineBits [0xC7, 0x1E]).take 15 ∧
      (s.port .A).line.head? = some (false, true)) := by decide +kernel

/-- A part receiving at port A in buffer 4. -/
def receiving : State :=
  (withRx part .A (.frame (some 4))).onBqm fun q => q.take 4

theorem witness_LineErrorsDiscardTheFrame :
    (receiving.port .A).inFrame = true ∧ (receiving.port .A).rx = .frame (some 4) ∧
      (receiving.port .A).mode = .normal ∧ receiving.pending = [] ∧
      (receiving.port .A).front.silent < 999 ∧
      ((hearing receiving .A [] [(true, true)]).port .A).line.head? = some (true, true) ∧
      (command []).payload.length ≤ 240 ∧
      ({ command [] with check := 0 } : Frame).check ≠ frameCheck { command [] with check := 0 } := by
  decide +kernel

/-- A port in LOCAL_LOOPBACK that has just found an event in the looped stream. -/
def looped (s : State) (p : Port) (c : Instr) : State :=
  s.onPort p fun u => { u with mode := .localLoopback, front := { u.front with found := some c } }

theorem witness_OwnSourceFramesAreDropped :
    ((receiving.port .A).rx = .frame (some 4) ∧ (receiving.port .A).mode = .normal ∧
      (frameFrom 5 1 0x55 []).payload.length ≤ 240 ∧
      (frameFrom 5 1 0x55 []).check = frameCheck (frameFrom 5 1 0x55 []) ∧
      addrOf (frameFrom 5 1 0x55 []).src = receiving.own ∧ receiving.own ≠ broadcast ∧
      (receiving.fsw.stats.get .A).hold = none ∧
      ((receiving.onFsw fun w => w.onStats .A fun x => { x with hold := some 3 }).fsw.stats.get .A).hold =
        some 3) ∧
    (let s := looped receiving .A (.frameEnd .A (frameFrom 5 1 0x55 []));
      (s.port .A).rx = .frame (some 4) ∧ (s.port .A).mode = .localLoopback ∧
      (s.port .A).front.found = some (.frameEnd .A (frameFrom 5 1 0x55 [])) ∧
      addrOf (frameFrom 5 1 0x55 []).src = s.own) ∧
    (addrOf (frameFrom 63 1 0x55 []).src = broadcast ∧
      (frameFrom 63 1 0x55 []).check = frameCheck (frameFrom 63 1 0x55 [])) ∧
    (let s := receiving.onFsw fun w => w.onNode 2 fun e => { e with role := .none };
      addrOf (frameFrom 2 1 0x55 []).src ≠ broadcast ∧ addrOf (frameFrom 2 1 0x55 []).src ≠ s.own ∧
      (s.fsw.node (addrOf (frameFrom 2 1 0x55 []).src)).role = .none) ∧
    (let s := receiving.onFsw fun w =>
        { w with classes := w.classes.set 0x55 { w.class 0x55 with maxPayload := 2 } }
      let f := frameFrom 2 1 0x55 [1, 2, 3]
      (s.fsw.node (addrOf f.src)).role ≠ .none ∧ addrOf f.dest ≠ s.own ∧
      f.check = frameCheck f ∧ (s.fsw.class f.kind).maxPayload < f.payload.length) := by
  decide +kernel

theorem witness_ForwardedFramesLoseOneHop :
    let s := withRx receiving .B .hunt
    let f := frameFrom 1 2 0x55 (List.replicate 6 7)
    let g := frameFrom 1 63 0x10 [4, 1, 1, 0]
    let act (a : Action) := receiving.onFsw fun w =>
      { w with classes := w.classes.set 0x10 { w.class 0x10 with passive := a } }
    (((s.port .A).rx = .frame (some 4) ∧ (s.port .A).mode = .normal ∧ f.payload.length ≤ 240 ∧
      f.check = frameCheck f ∧ addrOf f.src ≠ broadcast ∧ addrOf f.src ≠ s.own ∧
      (s.fsw.node (addrOf f.src)).role ≠ .none ∧ (s.own = broadcast ∨ addrOf f.dest ≠ s.own) ∧
      f.payload.length ≤ (s.fsw.class f.kind).maxPayload ∧
      (s.fsw.class f.kind).action s.cru.role = .forward ∧ frameHop f ≠ 0 ∧
      (addrOf f.dest = broadcast ∨
        (addrOf f.dest ≠ addrOf f.src ∧ s.fsw.side (addrOf f.dest) ≠ some .A)) ∧
      (s.port Port.A.other).mode.closed = false ∧ (s.port Port.A.other).rx ≠ .down ∧
      s.offerOutcome Port.A.other (s.internalPriority .A f) = .queued ∧
      s.bqm.queueFor Port.A.other (s.internalPriority .A f) < 4) ∧
      (((looped s .A (.frameEnd .A f)).port .A).mode = .localLoopback ∧
        ((looped s .A (.frameEnd .A f)).port .A).front.found = some (.frameEnd .A f))) ∧
    ((s.fsw.class g.kind).action s.cru.role = .snoop ∧ s.own ≠ broadcast ∧ g.kind ≠ kindControl ∧
      s.bqm.ldq.length < 16 ∧ consumerRole g.kind = some .cab ∧
      (s.fsw.node (addrOf g.src)).role = .any ∧ g.check = frameCheck g ∧ frameHop g ≠ 0 ∧
      addrOf g.dest = broadcast ∧
      s.offerOutcome Port.A.other (s.internalPriority .A g) = .queued) ∧
    (((act .absorb).fsw.class g.kind).action (act .absorb).cru.role = .absorb ∧
      0 < ((act .absorb).bqm.buffer 4).refs) ∧
    ((act .drop).fsw.class g.kind).action (act .drop).cru.role = .drop ∧
    frameHop { f with tagHop := 0 } = 0 := by decide +kernel

/-- The last clause at its edges: one copy dropped by a full queue and the other made, the other port
DOWN, and a destination learned on the receiving side. -/
theorem witness_ForwardedFramesEdges :
    let s := withRx receiving .B .hunt
    let g := frameFrom 1 63 0x10 [4, 1, 1, 0]
    let full := s.onBqm fun q => { q with ldq := List.replicate 16 9 }
    let tail := s.onBqm fun q =>
      { q with egress := q.egress.modify .B fun e => { e with queues := e.queues.map fun x =>
          { x with entries := List.replicate 32 9 } } }
    ((s.port .A).rx = .frame (some 4) ∧ 0 < (s.bqm.buffer 4).refs ∧ (s.port .A).mode = .normal ∧
      g.payload.length ≤ 240 ∧ g.check = frameCheck g ∧ addrOf g.src ≠ broadcast ∧
      addrOf g.src ≠ s.own ∧ (s.fsw.node (addrOf g.src)).role = .any ∧ addrOf g.dest ≠ s.own ∧
      g.payload.length ≤ (s.fsw.class g.kind).maxPayload ∧
      (s.fsw.class g.kind).action s.cru.role = .snoop ∧ s.own ≠ broadcast ∧ g.kind ≠ kindControl ∧
      consumerRole g.kind = some .cab ∧ frameHop g ≠ 0 ∧ addrOf g.dest = broadcast ∧
      (s.port Port.A.other).mode.closed = false ∧ (s.port Port.A.other).rx ≠ .down ∧
      s.bqm.queueFor Port.A.other (s.internalPriority .A g) < 4) ∧
    (16 ≤ full.bqm.ldq.length ∧ full.offerOutcome Port.A.other (full.internalPriority .A g) = .queued) ∧
    (tail.bqm.ldq.length < 16 ∧
      tail.offerOutcome Port.A.other (tail.internalPriority .A g) = .tailDrop) ∧
    (receiving.port Port.A.other).rx = .down ∧
    (s.onFsw fun w => w.learn 20 .A).fsw.side 20 = some .A := by decide +kernel

theorem witness_FramesForThisPartAreDelivered :
    let s := receiving
    let f := command [5, 1]
    (s.port .A).rx = .frame (some 4) ∧ 0 < (s.bqm.buffer 4).refs ∧ (s.port .A).mode = .normal ∧
    f.payload.length ≤ 240 ∧ f.check = frameCheck f ∧ addrOf f.src ≠ broadcast ∧
    addrOf f.src ≠ s.own ∧ s.own ≠ broadcast ∧ addrOf f.dest = s.own ∧
    consumerRole f.kind = some .vcu ∧
    ((s.fsw.node (addrOf f.src)).role = .vcu ∨ (s.fsw.node (addrOf f.src)).role = .any) ∧
    (consumerRole 0x55 = none ∧ (s.fsw.node (addrOf f.src)).role ≠ .none ∧
      (frameFrom 1 5 0x55 []).check = frameCheck (frameFrom 1 5 0x55 [])) := by decide +kernel

theorem witness_ReceiverDownAndUp :
    let s := (withRx part .A .hunt).onPort .A fun u => { u with front := { u.front with silent := 999 } }
    let v := part.onPort .A fun u =>
      { u with line := [(true, false)], front := { u.front with valid := 15 } }
    ((withRx part .A .hunt).port .A).rx = .hunt ∧ (part.port .A).mode ≠ .localLoopback ∧
      (receiving.port .A).inFrame = true ∧ (receiving.port .A).mode ≠ .localLoopback ∧
      (part.port .A).rx = .down ∧ (part.port .A).mode ≠ .disabled ∧
      (v.pending = [] ∧ (v.port .A).mode = .normal ∧ (v.port .A).rx = .down ∧
        (v.port .A).front.valid = 15 ∧ (v.port .A).line.head? = some (true, !true)) ∧
      (s.pending = [] ∧ (s.port .A).mode = .normal ∧ (s.port .A).rx ≠ .down ∧
        (s.port .A).front.silent = 999 ∧ (s.port .A).line = []) := by decide +kernel

theorem witness_AutomaticLoopback :
    let permit (s : State) := s.onBqm fun q =>
      q.onEgress .A fun e => { e with config := { e.config with autoloop := true } }
    let run (s : State) (c : LoopCode) (n : Nat) := s.onPort .A fun u =>
      { u with persistence := some { code := c, micros := n } }
    let s := run (permit (withRx part .A .hunt)) .loopup 500000
    let u := run (inMode (withRx part .A .hunt) .A .remoteLoopback) .loopdown 500000
    let h := hearing (run (permit (withRx part .A .hunt)) .loopup 499984) .A
      ((lineBits [0xCC, 0xCC]).take 15) [(true, false)]
    let r (x : Both Bool) := { (waiting s 2).bqm with resetReply := some { buffer := 7, undone := x } }
    ((s.port .A).mode = .normal ∧ (s.bqm.egress.get .A).config.autoloop = true ∧
      s.cru.role = .inactive ∧ (s.port .A).rx = .hunt ∧ s.mgu.pendingReset = none ∧
      (s.port .A).persistence = some { code := .loopup, micros := 500000 }) ∧
    ((r { a := true, b := true }).flush .A).replyDone = false ∧
    (r { a := true, b := true }).resetReply.isSome = true ∧
    7 ∈ (((r { a := true, b := true }).egress.get .A).queue 2).entries ∧
    (∀ n, n < 4 → 7 ∉ (((r { a := true, b := true }).egress.get .B).queue n).entries) ∧
    ((u.port .A).mode = .remoteLoopback ∧ (u.port .A).rx = .hunt ∧
      (u.port .A).persistence = some { code := .loopdown, micros := 500000 }) ∧
    (h.pending = [] ∧ (h.port .A).mode = .normal ∧ (h.port .A).rx = .hunt ∧
      (h.port .A).front.silent < 999 ∧ (h.bqm.egress.get .A).config.autoloop = true ∧
      h.cru.role = .inactive ∧ (h.port .A).front.bits = (lineBits [0xCC, 0xCC]).take 15 ∧
      (h.port .A).persistence = some { code := .loopup, micros := 499984 } ∧
      (h.port .A).line.head? = some (true, false) ∧
      ((hearing s .A [] [(true, true)]).port .A).line.head? = some (true, true)) := by
  decide +kernel

theorem witness_SwitchTimersForget :
    let s (n : Nat) := part.onFsw fun w =>
      (w.onNode 62 fun e => { e with learned := some { side := .A, left := n } }).onStats .B
        fun x => { x with hold := some n }
    (62 : Addr) ≠ broadcast ∧ ((s 0).fsw.node 62).learned = some { side := .A, left := 0 } ∧
      ((s 0).fsw.stats.get .B).hold = some 0 ∧
      ((s 1).fsw.node 62).learned = some { side := .A, left := 0 + 1 } ∧
      ((s 1).fsw.stats.get .B).hold = some (0 + 1) := by decide +kernel

theorem witness_FillAndSentFrames :
    let send (s : State) := s.onPort .A fun u => { u with tx := .sending 9 }
    let list (l : List Nat) := (inMode part .A .remoteLoopback).onPort .A fun u => { u with returnList := l }
    let f := frameFrom 1 2 0x55 [7]
    ((part.port .A).tx = .fill ∧ (part.port .A).mode = .normal ∧
      (∀ n, n < 4 → ((part.bqm.egress.get .A).queue n).entries = []) ∧
      ((list []).port .A).tx = .fill ∧ ((list []).port .A).mode = .remoteLoopback ∧
      ((list []).port .A).returnList = []) ∧
    (((send part).port .A).tx = .sending 9 ∧ (send part).mgu.pendingReset = none ∧
      ((send part).port .A).mode = .normal ∧
      (∀ n, n < 4 → (((send part).bqm.egress.get .A).queue n).entries = []) ∧
      ((send (list [])).port .A).tx = .sending 9 ∧ ((send (list [])).port .A).returnList = []) ∧
    (((send (inMode part .A .disabled)).port .A).tx = .sending 9 ∧
      ((send (inMode part .A .disabled)).port .A).mode = .disabled) ∧
    (((send (waiting part 3)).port .A).tx = .sending 9 ∧ (send (waiting part 3)).mgu.pendingReset = none ∧
      ((send (waiting part 3)).port .A).mode = .normal ∧
      (((send (waiting part 3)).bqm.egress.get .A).queueConfig 3).type = .strict ∧
      (((send (waiting part 3)).bqm.egress.get .A).queue 3).entries = 7 :: [] ∧
      (∀ m, m < 4 → 3 < m →
        (((send (waiting part 3)).bqm.egress.get .A).queueConfig m).type = .strict →
        (((send (waiting part 3)).bqm.egress.get .A).queue m).entries = [])) ∧
    (((list [6, 7]).port .A).mode = .remoteLoopback ∧ ((list [6, 7]).port .A).returnList = 6 :: [7] ∧
      ((list [6, 7]).port .A).tx = .fill ∧ ((send (list [6, 7])).port .A).returnList = 6 :: [7] ∧
      ((send (list [6, 7])).port .A).tx = .sending 9 ∧ (send (list [6, 7])).mgu.pendingReset = none) ∧
    (((inMode receiving .A .remoteLoopback).port .A).rx = .frame (some 4) ∧
      ((inMode receiving .A .remoteLoopback).port .A).mode = .remoteLoopback ∧
      f.payload.length ≤ 240 ∧ f.check = frameCheck f ∧
      ((list [6, 7, 8]).port .A).returnList.length < 4 ∧
      ¬ ((list [6, 7, 8, 9]).port .A).returnList.length < 4) ∧
    (part.pending = [] ∧ ((part.onPort .A fun u => { u with pos := 15 }).port .A).pos = 15 ∧
      ((part.onPort .A fun u => { u with pos := 15 }).port .A).tx = .fill) := by decide +kernel

theorem witness_StrictQueuesAreServedFirst :
    ((waiting part 3).port .A).tx = .fill ∧ ((waiting part 3).port .A).mode = .normal ∧
      (((waiting part 3).bqm.egress.get .A).queueConfig 3).type = .strict ∧
      (((waiting part 3).bqm.egress.get .A).queue 3).entries = 7 :: [] ∧
      (∀ m, m < 4 → 3 < m → (((waiting part 3).bqm.egress.get .A).queueConfig m).type = .strict →
        (((waiting part 3).bqm.egress.get .A).queue m).entries = []) ∧
      (((waiting part 2).bqm.egress.get .A).queueConfig 2).type = .strict ∧
      (((waiting part 2).bqm.egress.get .A).queue 2).entries = 7 :: [] ∧
      (∀ m, m < 4 → 2 < m → (((waiting part 2).bqm.egress.get .A).queueConfig m).type = .strict →
        (((waiting part 2).bqm.egress.get .A).queue m).entries = []) := by decide +kernel

/-- The state of a port whose WEIGHTED queue 1 holds a frame of 13 octets, with a pointer and a deficit. -/
def turn (pointer : Option Nat) (deficit : Nat) : State :=
  (waiting part 1).onBqm fun q => q.onEgress .A fun e =>
    { e.onQueue 1 fun x => { x with deficit := deficit } with pointer := pointer }

theorem witness_WeightedQueuesTakeTurns :
    (∀ s ∈ [turn (some 1) 13, turn (some 1) 12, turn (some 0) 12, turn none 0],
      (s.port .A).tx = .fill ∧ (s.port .A).mode = .normal ∧ s.bqm.sizeOf 7 = 13 ∧
      ((s.bqm.egress.get .A).queue 1).entries = 7 :: [] ∧
      ((s.bqm.egress.get .A).queue 0).entries = [] ∧
      (∀ m, m < 4 → 1 ≤ ((s.bqm.egress.get .A).queueConfig m).weight) ∧
      (∀ m, m < 4 → ∀ b ∈ ((s.bqm.egress.get .A).queue m).entries, s.bqm.sizeOf b ≤ 250) ∧
      (∀ m, m < 4 → ((s.bqm.egress.get .A).queueConfig m).type = .strict →
        ((s.bqm.egress.get .A).queue m).entries = []) ∧
      (∀ m, m < 4 → (((s.bqm.egress.get .A).queueConfig m).type = .weighted ↔ m < 2))) ∧
    ((turn (some 1) 13).bqm.egress.get .A).pointer = some 1 ∧
    (((turn (some 1) 13).bqm.egress.get .A).queue 1).deficit = 13 ∧
    (((turn (some 1) 12).bqm.egress.get .A).queue 1).deficit < 13 ∧
    ((turn (some 0) 12).bqm.egress.get .A).pointer = some 0 ∧
    ((turn none 0).bqm.egress.get .A).pointer = none ∧
    (∀ k, k < 4 → (1 + 3 - 0) % 4 ≤ (1 + 3 - k) % 4) ∧
    (∀ k, k < 2 → (0 + 3 - 1) % 4 ≤ (0 + 3 - k) % 4) := by decide +kernel

theorem witness_SchedulerNeverIdlesOverAFrame :
    ((waiting part 0).port .A).tx = .fill ∧ ((waiting part 0).port .A).mode = .normal ∧
      (∀ n, n < 4 → 1 ≤ (((waiting part 0).bqm.egress.get .A).queueConfig n).weight) ∧
      (∀ n, n < 4 → ∀ b ∈ (((waiting part 0).bqm.egress.get .A).queue n).entries,
        (waiting part 0).bqm.sizeOf b ≤ 250) ∧
      (((waiting part 0).bqm.egress.get .A).queue 0).entries ≠ [] := by decide +kernel

theorem witness_OwnBroadcastsAreQueuedAtBothPorts :
    let f := ownFrame 5 63 0x10 6 0 []
    addrOf f.dest = broadcast ∧ part.bqm.firstFree = some 0 ∧ part.offerOutcome .A 6 = .queued ∧
      part.offerOutcome .B 6 = .queued ∧ (withUsed part 96).bqm.freeCount = 0 := by decide +kernel

/-- A CAB_ANNOUNCE from cab 2 at the head of the Local Dispatch Queue. -/
def announced (s : State) (role : Byte) : State := received s (frameFrom 2 63 0x10 [role, 1, 1, 0])

/-- Four other cabs in the table. -/
def crowded (s : State) : State :=
  s.onCru fun u =>
    { u with cabs := [10, 11, 12, 13].map fun a => { cab := a, role := .claiming, time := 0, left := 0 } }

theorem witness_CabAnnounceDecidesTheRole :
    (announced part 4).headOfKind kindCabAnnounce = some (0, frameFrom 2 63 0x10 [4, 1, 1, 0]) ∧
      announceRole [4, 1, 1, 0] = some .active ∧ (announced part 4).cru.TableLaw ∧
      (announced part 4).cru.cabs.length < 4 := by
  unfold Cru.TableLaw; decide +kernel

theorem witness_CabAnnounceMakesConflict :
    ∀ s ∈ [announced driving 4, (announced driving 6).onLlu fun u => { u with carrier := true }],
      (s.headOfKind kindCabAnnounce).isSome = true ∧
      (announceRole [4, 1, 1, 0] = some .active ∧ announceRole [6, 1, 1, 0] = some .conflict) ∧
      s.cru.cabs.length < 4 ∧ s.cru.role = .active ∧ s.tdu.live = some Profile.powerOn ∧
      s.sru.record.state = .idle ∧
      (s.onSru fun u => { u with record := { u.record with state := .requested } }).sru.record.state ≠ .idle ∧
      s.cru.releasing = false ∧ s.tdu.state ≠ .off ∧
      (s.onCru fun u => { u with releasing := true }).cru.releasing = true := by decide +kernel

theorem witness_QuietCabAnnounces :
    (announced part 2).headOfKind kindCabAnnounce = some (0, frameFrom 2 63 0x10 [2, 1, 1, 0]) ∧
      announceRole [2, 1, 1, 0] = none ∧
      (crowded (announced part 3)).headOfKind kindCabAnnounce =
        some (0, frameFrom 2 63 0x10 [3, 1, 1, 0]) ∧
      announceRole [3, 1, 1, 0] = some .claiming ∧
      (crowded (announced part 3)).cru.holdsCab (addrOf 2) = false ∧
      4 ≤ (crowded (announced part 3)).cru.cabs.length ∧
      (crowded (announced part 3)).cru.tableFull = false ∧
      ((crowded (announced part 3)).onCru fun u => { u with tableFull := true }).cru.tableFull = true ∧
      (announced part 3).cru.holdsCab (addrOf 2) = false ∧ (announced part 3).cru.cabs.length < 4 ∧
      (announced part 3).cru.role = .inactive ∧ (announced part 3).cru.hearsActive = false := by
  decide +kernel

theorem witness_InverterReportsFillTheTable :
    let f := frameFrom 2 5 0x21 [0xE8, 3, 0x18, 0xFC, 2]
    let g := frameFrom 2 5 0x21 [0xE9, 3, 0, 0, 1]
    (received part f).headOfKind kindInverterStatus = some (0, f) ∧
      inverterReport f.payload = some (1000, -1000, .fault) ∧
      (received part f).tdu.slotOf (addrOf f.src) = none ∧ (received part f).tdu.freeSlot = some 0 ∧
      (received part g).headOfKind kindInverterStatus = some (0, g) ∧
      inverterReport g.payload = none ∧
      (let s := (received part f).onTdu fun u =>
        { u with slots := Tab.fill 6 (some { node := 9, speed := 0, effort := 0, state := .ready, time := 0 }) }
      s.headOfKind kindInverterStatus = some (0, f) ∧ s.tdu.slotOf (addrOf f.src) = none ∧
      s.tdu.freeSlot = none ∧ s.tdu.inverterOverflow = false) := by decide +kernel

/-- A STOP_PRESS at the head of the Local Dispatch Queue. -/
def pressFrame (door button : Byte) : Frame := frameFrom 2 63 0x30 [door, button]

/-- The stop record in a state, in command. -/
def stopIn (st : StopState) : State :=
  driving.onSru fun u => { u with record := { u.record with state := st } }

theorem witness_StopPressesAreTaken :
    let s := received driving (pressFrame 8 2)
    let r := received (stopIn .requested) (pressFrame 1 1)
    let v := received (stopIn .serving) (pressFrame 1 1)
    let w := received driving (pressFrame 9 1)
    (s.headOfKind kindStopPress = some (0, pressFrame 8 2) ∧ s.cru.role = .active ∧
      stopPress (pressFrame 8 2).payload = some (8, true) ∧ s.tdu.live = some Profile.powerOn ∧
      ((8 : Nat) : Int) ≤ Profile.powerOn.doorCount ∧ s.sru.record.state = .idle) ∧
    (v.headOfKind kindStopPress = some (0, pressFrame 1 1) ∧ v.cru.role = .active ∧
      stopPress (pressFrame 1 1).payload = some (1, false) ∧ v.tdu.live = some Profile.powerOn ∧
      v.sru.record.state = .serving) ∧
    (r.headOfKind kindStopPress = some (0, pressFrame 1 1) ∧ r.cru.role = .active ∧
      r.tdu.live = some Profile.powerOn ∧ r.sru.record.state = .requested) ∧
    (w.headOfKind kindStopPress = some (0, pressFrame 9 1) ∧ w.cru.role = .active ∧
      stopPress (pressFrame 9 1).payload = some (9, false) ∧ w.tdu.live = some Profile.powerOn ∧
      Profile.powerOn.doorCount < ((9 : Nat) : Int)) ∧
    ((received part (pressFrame 1 1)).headOfKind kindStopPress = some (0, pressFrame 1 1) ∧
      (received part (pressFrame 1 1)).cru.role ≠ .active) ∧
    ((received driving (pressFrame 1 3)).headOfKind kindStopPress = some (0, pressFrame 1 3) ∧
      (received driving (pressFrame 1 3)).cru.role = .active ∧
      stopPress (pressFrame 1 3).payload = none) ∧
    ((received (stopIn .requested) (pressFrame 8 2)).headOfKind kindStopPress = some (0, pressFrame 8 2) ∧
      (received (stopIn .requested) (pressFrame 8 2)).sru.record.state = .requested ∧
      (received (stopIn .requested) (pressFrame 8 2)).sru.record.accessible = false) := by
  decide +kernel

/-- The Cab Role Unit with every timer running. -/
def timing (s : State) : State :=
  s.onCru fun u =>
    { u with announceTimer := some 0, claimWindow := some 0, clearTimer := some 0
             releasingTimer := some 0, flashTimer := some 0 }

theorem witness_AnnouncesAreSent :
    (timing driving).cru.announceTimer = some 0 ∧
      announcedRole (timing driving).cru.role = some .active ∧
      (timing driving).tdu.live = some Profile.powerOn := by decide +kernel

theorem witness_ClaimWindowGivesCommand :
    (timing (inRole .claiming)).cru.role = .claiming ∧
      (timing (inRole .claiming)).cru.claimWindow = some 0 ∧
      (timing (inRole .claiming)).tdu.state = .off ∧
      (timing (inRole .claiming)).level .estop = false ∧
      (withLevel (timing (inRole .claiming)) .estop).level .estop = true := by decide +kernel

theorem witness_BlockedClaimsAndReleasingEnds :
    let s := (timing (inRole .blocked)).onTdu fun u => { u with live := some Profile.powerOn }
    let r := (timing driving).onCru fun u => { u with releasing := true }
    s.cru.role = .blocked ∧ s.cru.clearTimer = some 0 ∧ s.tdu.live = some Profile.powerOn ∧
      r.cru.role = .active ∧ r.cru.releasing = true ∧ r.cru.releasingTimer = some 0 ∧
      r.sru.record.state = .idle := by decide +kernel

theorem witness_CabEntriesTimeOut :
    (∃ e ∈ (crowded part).cru.cabs, e.cab = 10 ∧ e.left = 0) ∧ (crowded part).cru.role = .inactive ∧
      (crowded (inRole .conflict)).cru.role = .conflict ∧ (crowded (inRole .blocked)).cru.role = .blocked ∧
      (crowded (inRole .passive)).cru.role = .passive ∧ (timing part).cru.flashTimer = some 0 := by
  decide +kernel

theorem witness_KeySwitchDecidesTheRole :
    let k (s : State) := steady s .key true
    let s := k ((inRole .passive).onTdu fun u => { u with live := some Profile.powerOn })
    let r := steady driving .key false
    ((k part).addressed = true ∧ ((k part).ciu.input .key).due true = true ∧ (k part).cru.role = .inactive ∧
      (∀ p, ((k part).port p).mode = .normal) ∧ (k part).tdu.live = none) ∧
    (s.addressed = true ∧ (s.ciu.input .key).due true = true ∧ s.cru.role = .passive ∧
      s.tdu.live = some Profile.powerOn) ∧
    ((atSpeed r 5).addressed = true ∧ ((atSpeed r 5).ciu.input .key).due false = true ∧
      (atSpeed r 5).cru.role = .active ∧ (atSpeed r 5).cru.releasing = false ∧
      (atSpeed r 5).standing = true) ∧
    (((atSpeed r 6).ciu.input .key).due false = true ∧ (atSpeed r 6).cru.role = .active ∧
      (atSpeed r 6).standing = false ∧ r.standing = false) ∧
    (((k (inMode part .A .remoteLoopback)).port .A).mode = .remoteLoopback ∧
      ((k (inMode part .A .remoteLoopback)).port Port.A.other).mode = .normal ∧
      ((k (inMode part .B .localLoopback)).port .B).mode = .localLoopback ∧
      ((k (inMode part .B .localLoopback)).port Port.B.other).mode = .normal) ∧
    (((k (driving.onCru fun u => { u with releasing := true })).ciu.input .key).due true = true ∧
      (k (driving.onCru fun u => { u with releasing := true })).cru.releasing = true) ∧
    (((steady (inRole .claiming) .key false).ciu.input .key).due false = true ∧
      (steady (inRole .blocked) .key false).cru.role = .blocked ∧
      (steady (inRole .conflict) .key false).cru.role = .conflict) ∧
    (((steady part .key false).ciu.input .key).due false = true ∧
      (steady part .key false).cru.role = .inactive ∧
      ((steady (inRole .passive) .key false).ciu.input .key).due false = true ∧
      ((steady (driving.onCru fun u => { u with releasing := true }) .key false).ciu.input .key).due
        false = true ∧
      ((steady { State.reset with own := broadcast } .key false).ciu.input .key).due false = true ∧
      ((k { State.reset with own := broadcast }).ciu.input .key).due true = true ∧
      (k { State.reset with own := broadcast }).addressed = false ∧
      ((k (inRole .claiming)).ciu.input .key).due true = true ∧ (k driving).cru.role = .active ∧
      (k driving).cru.releasing = false) := by
  refine ⟨⟨?_, ?_, ?_, fun p => by cases p <;> decide +kernel, ?_⟩, ?_⟩ <;> decide +kernel

theorem witness_EmergencyStopBrakes :
    (steady driving .estop true).tdu.state = .run ∧
      ((steady driving .estop true).ciu.input .estop).due true = true ∧
      (driving.onTdu fun u => { u with grace := some 0 }).tdu.grace = some 0 ∧
      driving.tdu.state = .run ∧ (steady part .estop true).tdu.state = .off ∧
      ((steady part .estop true).ciu.input .estop).due true = true := by decide +kernel

/-- A demand waiting in buffer 2 at port A, with what has become of it at port B. -/
def slotted (x : SlotState) : State :=
  driving.onBqm fun q =>
    { q with
      pool := q.pool.set 2 { refs := 1, frame := frameFrom 5 63 0x20 [] }
      egress := { q.egress with a := q.egress.a.onQueue 3 fun y => { y with entries := [0, 2] } }
      slot := { a := .waiting 2, b := x } }

theorem witness_DemandSequenceCountsFrames :
    (driving.bqm.firstFree.isSome = true ∧ (withUsed driving 96).bqm.rewritable = none ∧
      (withUsed driving 96).bqm.firstFree = none) ∧
    ((slotted .flushed).bqm.slot.get .A = .waiting 2 ∧ (slotted .flushed).bqm.slot.get .B = .flushed ∧
      (slotted .notQueued).bqm.slot.get .B = .notQueued ∧
      (slotted .flushed).offerOutcome .B 7 = .queued ∧
      (inMode (slotted .flushed) .B .disabled).offerOutcome .B 7 ≠ .queued) ∧
    ((slotted .taken).bqm.slot.get .A = .waiting 2 ∧
      (slotted .taken).bqm.slot.get Port.A.other = .taken ∧
      ((slotted .taken).bqm.buffer 2).refs ≠ 0 ∧ (slotted .taken).bqm.firstFree = some 0 ∧
      (slotted .taken).offerOutcome Port.A.other 7 = .queued ∧
      (inMode (slotted .taken) .B .disabled).offerOutcome Port.A.other 7 ≠ .queued) := by decide +kernel

theorem witness_DeadmanStartsTheGraceTimer :
    let s := steady driving .deadman false
    (s.ciu.input .deadman).due false = true ∧ s.tdu.state = .run ∧ s.tdu.grace = none ∧
      s.standing = false ∧ s.tdu.live = some Profile.powerOn ∧
      ((atSpeed s 5).ciu.input .deadman).due false = true ∧
      (atSpeed s 5).tdu.periodD ≤ 0 ∧ (atSpeed s 5).standing = true ∧
      ((steady driving .deadman true).ciu.input .deadman).due true = true := by decide +kernel

theorem witness_DoorReleaseServesTheStop :
    let s := steady driving .doorRelease true
    let r := steady (stopIn .serving) .doorRelease false
    let u := steady part .doorRelease true
    (s.ciu.input .doorRelease).due true = true ∧ s.cru.role = .active ∧ s.sru.record.state ≠ .serving ∧
      (r.ciu.input .doorRelease).due false = true ∧ r.cru.role = .active ∧
      r.sru.record.state = .serving ∧
      (u.ciu.input .doorRelease).due true = true ∧ u.cru.role ≠ .active := by decide +kernel

theorem witness_HornBellAndRouteButtons :
    let b := steady (withLevel part .key) .bell true
    let r := steady driving .routeLeft true
    let u := steady part .routeRight true
    ((steady part .horn true).ciu.input .horn).due true = true ∧
      ((b.ciu.input .bell).due true = true ∧ b.addressed = true ∧ b.level .key = true ∧
        b.snu.bell = false ∧ b.snu.patternOf .bell ≠ []) ∧
      ((r.ciu.input .routeLeft).due true = true ∧ r.cru.role = .active ∧ r.pressTarget = none) ∧
      (u.ciu.input .routeRight).due true = true ∧ u.cru.role ≠ .active := by decide +kernel

/-- Junction 300 under the antenna, its context in a state. -/
def overLoop (st : CtxState) : State :=
  (atJunction st).onJcu fun u => { u with lastIdent := some (300, 0) }

/-- Junction 300 under the antenna, its context created before the Route Table was live. -/
def untabled : State :=
  (overLoop .noRoute).onJcu fun u => { u with contexts := [{ context .noRoute with tabled := false }] }

theorem test_pressCannotActOnAContextCreatedWithoutATable :
    ∃ t, exec (.debouncedChange .routeRight true) (steady untabled .routeRight true) = .next t ∧
      t.jcu = { untabled.jcu with preselection := some .right } ∧
      t.llu.queue = untabled.llu.queue := ⟨_, rfl, by decide +kernel⟩

theorem test_contextCreatedWithoutATable :
    (driving.createCtx 300).jcu.contexts.map (·.tabled) = [false] ∧
      ((routed driving).createCtx 300).jcu.contexts.map (·.tabled) = [true] := by decide +kernel

theorem witness_PressesOnAContextCreatedWithoutATable :
    let x := { context .noRoute with tabled := false }
    ((steady untabled .routeRight true).ciu.input .routeRight).due true = true ∧
      untabled.cru.role = .active ∧ untabled.llu.carrier = true ∧ untabled.jcu.live.isSome = true ∧
      untabled.jcu.lastIdent = some (x.junction, 0) ∧ (untabled.cmn.partTime - 0).toNat < 500 ∧
      untabled.jcu.find x.junction = some x ∧ x.tabled = false ∧
      (told untabled [10, 3]).Commanded 0 (command [10, 3]) ∧ (told untabled [10, 3]).cru.role = .active ∧
      (told untabled [10, 3]).jcu.lastIdent = some (x.junction, 0) ∧
      (told untabled [10, 3]).jcu.find x.junction = some x ∧ (context .accepted).tabled = true := by
  unfold State.Commanded; decide +kernel

theorem witness_PressesAndPreselectsAtAJunction :
    (((steady (overLoop .set) .routeRight true).ciu.input .routeRight).due true = true ∧
      (steady (overLoop .set) .routeRight true).pressTarget = some (context .set) ∧
      (overLoop .set).cru.role = .active ∧
      (overLoop .set).llu.carrier = true ∧ (overLoop .set).jcu.live.isSome = true ∧
      (overLoop .set).jcu.lastIdent = some ((context .set).junction, 0) ∧
      ((overLoop .set).cmn.partTime - 0).toNat < 500 ∧
      (overLoop .set).jcu.find (context .set).junction = some (context .set) ∧
      (overLoop .accepted).jcu.find (context .accepted).junction = some (context .accepted)) ∧
    ((told (overLoop .accepted) [10, 3]).Commanded 0 (command [10, 3]) ∧ directionOf 3 = some .right ∧
      (told driving [10, 3]).Commanded 0 (command [10, 3]) ∧
      (told driving [10, 3]).cru.role = .active ∧ (told driving [10, 3]).pressTarget = none) ∧
    ((told part [10, 4]).Commanded 0 (command [10, 4]) ∧ (told part [10, 4]).cru.role ≠ .active ∧
      (told driving [10, 4]).Commanded 0 (command [10, 4]) ∧ directionOf 4 = none) := by
  unfold State.Commanded; decide +kernel

theorem witness_CabInputsAreSampledAndDebounced :
    let faulty := part.onCiu fun u => { u with fault := true, inRange := some 100 }
    let s := (part.onCmn fun c => { c with micros := 999 }).onCiu fun u =>
      { u with ahead := [Tab.fill 9 true]
               inputs := u.inputs.set 0 { pin := true, level := false, stability := some 9 } }
    (part.ciu.fault = false ∧ 8 ≤ (List.replicate 8 8).sum / 8 ∧ (List.replicate 8 1015).sum / 8 ≤ 1015 ∧
      ((List.replicate 8 7).sum / 8 < 8 ∧ 1015 < (List.replicate 8 1016).sum / 8) ∧
      faulty.ciu.fault = true ∧ 100 ≤ faulty.ciu.inRange.getD 0) ∧
    (s.pending = [] ∧ s.cmn.micros = 999 ∧ (Tab.fill 9 true).get (inputIndex .key) false = true ∧
      s.level .key = false ∧ 9 ≤ (s.ciu.input .key).stability.getD 0) ∧
    (quiet.ahead = [] ∧ (part.ciu.input .key).due true = false ∧
      ((steady part .key true).ciu.input .key).due true = true) := by decide +kernel

theorem witness_HandleTargetFollowsTheCalibration :
    Profile.powerOn.hb < Profile.powerOn.hn1 ∧ Profile.powerOn.hn1 ≤ Profile.powerOn.hn2 ∧
      Profile.powerOn.hn2 < Profile.powerOn.hp := by decide

theorem witness_DoorInterlockCutsPower :
    0 < ({ dt := 5, d := 1, r := 3, cut := false } : Work).d ∧
      ({ dt := 5, d := 0, r := 3, cut := false } : Work).d ≤ 0 := by decide

theorem witness_RampKeepsItsLaw :
    1 ≤ Profile.powerOn.rateLimit ∧ Profile.powerOn.rateLimit ≤ 200 ∧ 1 ≤ Profile.powerOn.jerk ∧
      Profile.powerOn.jerk ≤ Profile.powerOn.rateLimit ∧
      (∀ d ∈ [-100, 0, 100], ({ dt := 100, d := d, r := 5, cut := false } : Work).cut = false ∧
        ({ dt := 100, d := d, r := 5, cut := true } : Work).cut = true) := by decide

theorem witness_NoPowerUnderTheBar :
    let s := withLevel driving .doorRelease
    s.tdu.state ≠ .off ∧ s.tdu.periodTimer = some 0 ∧ (∃ t, exec .demandPeriod s = .next t) ∧
      s.level .doorRelease = true :=
  ⟨by decide +kernel, by decide +kernel, ⟨_, rfl⟩, by decide +kernel⟩

/-- A PASSED context cleared long ago, and one that has run past its distance. -/
def stale : List Ctx :=
  [{ context .passed with movingCleared := some 0 }, { context .set with junction := 301, odoCreated := 1 }]

/-- In command with an inverter at a standstill, 200 s of moving time gone, and two contexts. -/
def closing : State :=
  ((withLevel driving .deadman).onTdu fun u =>
    { u with
      facts := { v := some 0, s := none }, movingTime := 200000, odometer := 200000
      slots := u.slots.set 0 (some { node := 2, speed := 0, effort := 0, state := .ready, time := 0 })
    }).onJcu fun u => { u with contexts := stale }

theorem witness_DemandPeriodDrives :
    let s := withLevel driving .deadman
    let r := closing.onCru fun u => { u with releasing := true }
    let opened (s : State) := ((s.onTdu fun x => { x with periodTimer := some 20 }).findSpeed).judgeClosures
    (s.tdu.state = .run ∧ s.tdu.periodTimer = some 0 ∧ s.tdu.live = some Profile.powerOn ∧
      s.ciu.handle = some 600 ∧ s.cru.releasing = false ∧ s.level .deadman = true ∧
      driving.level .deadman = false ∧ driving.tdu.grace = none ∧ driving.tdu.state = .run) ∧
    (r.cru.role = .active ∧ r.cru.releasing = true ∧ (opened r).standing = true ∧
      r.sru.record.state = .idle ∧
      (opened ((withLevel driving .deadman).onCru fun u => { u with releasing := true })).standing = false) ∧
    (s.tdu.facts.v = none ∧ closing.tdu.facts.v.isSome = true ∧
      (closing.jcu.contexts.map fun x => x.junction).Nodup ∧
      (closing.jcu.contexts.map fun x =>
        (x.closure closing.tdu.odometer closing.tdu.movingTime).isNone) = [false, false]) ∧
    ((context .passed).state = .passed ∧ (context .set).state ≠ .passed) ∧
    ({ part.jcu with overflow := true } : Jcu).overflow = true ∧
    (0 < ({ dt := 5, d := 1, r := 3, cut := false } : Work).d ∧ (700 : Int) - Profile.powerOn.taperBand < 690) := by
  decide +kernel

/-- The part in command in EMERGENCY at a handle in neutral, with an inverter at a standstill. -/
def braking : State :=
  driving.onTdu fun u =>
    { u with
      state := .emergency
      slots := u.slots.set 0 (some { node := 2, speed := 0, effort := 0, state := .ready, time := 0 }) }

theorem witness_EmergencyHoldsUntilReleased :
    braking.tdu.state = .emergency ∧ braking.tdu.periodTimer = some 0 ∧
      braking.tdu.live = some Profile.powerOn ∧ braking.ciu.handle = some 600 ∧
      braking.cru.releasing = false ∧ braking.level .deadman = false ∧
      (withLevel braking .deadman).level .deadman = true ∧
      (withLevel braking .deadman).level .estop = false ∧
      ((braking.onTdu fun x => { x with periodTimer := some 20 }).findSpeed.judgeClosures).standing = true ∧
      handleTarget Profile.powerOn false 550 ≤ 0 := by decide +kernel

theorem witness_SpeedFactsAndReadingsAreFound :
    let slot (v : Int) : Option Slot := some { node := 2, speed := v, effort := 0, state := .ready, time := 0 }
    let speeds (t : Tab (Option Slot) 6) := t.data.filterMap fun x => x.bind fun y =>
      if (part.cmn.partTime - y.time).toNat < 100 ∧ y.state = .ready then some y.speed else none
    (Tdu.powerOn.facts.v = none ∧ ({ Tdu.powerOn with facts := { v := some 150, s := none } } : Tdu).facts.v =
      some ((150 : Nat) : Int)) ∧
    speeds part.tdu.slots = [] ∧ speeds (part.tdu.slots.set 0 (slot 150)) = [150] ∧
    speeds ((part.tdu.slots.set 0 (slot 150)).set 3 (slot 160)) = [150, 160] := by decide +kernel

/-- The part in command, listening in HUNT. -/
def listeningPart : State := driving.onLlu fun u => { u with carrier := true, cdPin := true, rx := .hunt }

/-- A depot test with `n` bits in its delay and 9 in its history. -/
def depotTest (n : Nat) : DepotTest :=
  { loop := 300, inSync := true, checked := 4095, errors := 4, delay := List.replicate n true
    history := List.replicate 9 true, window := [] }

/-- The part listening with a depot test open. -/
def testing (n : Nat) : State := listeningPart.onLlu fun u => { u with test := some (depotTest n) }

/-- LOOP_CD has held a level for 5 ms, against the carrier presence. -/
def filtered (s : State) (on : Bool) : State :=
  s.onLlu fun u => { u with cdPin := on, carrier := !on, filter := some 5000 }

theorem witness_CarrierChangesAreTaken :
    let r := filtered (atJunction .requesting) false
    ((filtered driving true).llu.carrierDue true = true ∧ (filtered driving true).cru.role = .active ∧
      (filtered driving true).llu.rx = .idle ∧ (filtered part true).llu.carrierDue true = true ∧
      (filtered part true).cru.role ≠ .active ∧ (filtered part false).llu.carrierDue false = true) ∧
    (r.llu.carrierDue false = true ∧ r.cru.role = .active ∧
      (r.jcu.contexts.map fun x => x.junction).Nodup ∧ r.llu.test = none ∧
      (∃ x ∈ r.jcu.contexts, x.state = .requesting) ∧
      (∀ x ∈ (atJunction .set).jcu.contexts, x.state ≠ .requesting)) ∧
    ((testing 3).llu.test = some (depotTest 3) ∧ (depotTest 3).checked < 4096 ∧
      ({ depotTest 3 with checked := 4096 } : DepotTest).errors ≤
        (driving.cmn.attrConfig .loopLink).testLimit) ∧
    (part.llu.carrierDue true = false ∧ part.llu.carrierDue false = false ∧ part.pending = [] ∧
      part.llu.line.cd = [] ∧
      4999 ≤ (part.onLlu fun u => { u with cdPin := true, filter := some 4999 }).llu.filter.getD 0) := by
  decide +kernel

/-- The last 27 bits of a preamble and a loop start pair but for the last one, heard in HUNT. -/
def started (s : State) : State :=
  s.onLlu fun u =>
    { u with front := { u.front with heard := (preamble.drop 4 ++ lineBits loopStartPair).take 27 } }

/-- A loop bit that ends in the next bit time. -/
def presented (s : State) (b : Bool) : State :=
  s.onLlu fun u => { u with line := { cd := [], bits := [b], phase := 622 } }

theorem witness_TelegramsAreReceived :
    let r := listeningPart.onLlu fun u => { u with rx := .telegram }
    let octets := telegramBody (identTelegram 1 1) ++ oct2 (identTelegram 1 1).check.toNat
    (listeningPart.llu.rx = .hunt ∧ listeningPart.llu.test = none ∧
      telegramStartAt (listeningPart.llu.front.heard ++ [true]) = false ∧
      telegramStartAt ((started listeningPart).llu.front.heard ++ [true]) = true) ∧
    ((testing 31).llu.rx = .hunt ∧ (testing 31).llu.test = some (depotTest 31) ∧
      telegramStartAt ((started (testing 31)).llu.front.heard ++ [true]) = true ∧
      (depotTest 31).delay.length < 32) ∧
    ((presented listeningPart true).pending = [] ∧ (presented listeningPart true).llu.line.bits = [true] ∧
      622 ≤ (presented listeningPart true).llu.line.phase ∧
      (presented listeningPart true).llu.line.phase < 625 ∧ (presented r true).llu.rx = .telegram ∧
      (presented part true).llu.rx = .idle ∧ part.llu.line.phase < 622 ∧
      octets.dropLast ++ [octets.getLastD 0] = [(identTelegram 1 1).kind,
        BitVec.ofNat 8 (identTelegram 1 1).fields.length] ++ (identTelegram 1 1).fields ++
          oct2 (identTelegram 1 1).check.toNat ∧
      (octetBits 17).take 7 ++ [false] = octetBits 17 ∧ 16 < (17 : Byte).toNat) ∧
    (r.llu.rx = .telegram ∧ (identTelegram 1 1).fields.length ≤ 16 ∧
      ({ identTelegram 1 1 with check := 0 } : Telegram).check ≠
        telegramCheck { identTelegram 1 1 with check := 0 }) ∧
    ((identTelegram 4 1).check = telegramCheck (identTelegram 4 1) ∧
      loopMessage (identTelegram 4 1) = none) ∧
    ((identTelegram 3 1).check = telegramCheck (identTelegram 3 1) ∧
      loopMessage (identTelegram 3 1) = some (.ident .test 300 .none 2) ∧
      (identTelegram 3 1).fields.length ≤ 16) ∧
    ((testing 32).llu.test = some (depotTest 32) ∧
      telegramStartAt ((testing 32).llu.front.heard ++ [true]) = false ∧
      (depotTest 32).delay = true :: List.replicate 31 true ∧
      (List.replicate 31 true).length = 31 ∧ (depotTest 32).history.length = 9 ∧
      (depotTest 32).inSync = true) :=
  ⟨by decide +kernel, by decide +kernel, by decide +kernel, by decide +kernel, by decide +kernel,
    by decide +kernel, by decide +kernel⟩

/-- The depot test's clauses at their edges: the start that finds 32 bits held, a history of 8, the window
that becomes full with 2 mismatches, and the sixteenth mismatch. -/
theorem witness_DepotTestIsJudged :
    let x := depotTest 32
    let y : DepotTest := { x with inSync := false, window := List.replicate 61 false ++ [true, true] }
    let z : DepotTest := { x with history := List.replicate 9 false, window := List.replicate 15 true }
    let w := (z.window ++ [true]).drop (z.window.length - 63)
    (telegramStartAt ((started (testing 32)).llu.front.heard ++ [true]) = true ∧
      (started (testing 32)).llu.rx = .hunt ∧ (started (testing 32)).llu.test = some x ∧
      x.history.length ≤ 9 ∧ x.delay.length = 32) ∧
    ({ x with history := x.history.take 8 } : DepotTest).history.length < 9 ∧
    (y.inSync = false ∧
      ((y.window ++ [false]).drop (y.window.length - 63)).length = 64 ∧
      (((y.window ++ [false]).drop (y.window.length - 63)).filter id).length ≤ 2) ∧
    (z.inSync = true ∧ (∀ k ∈ z.history, k = false) ∧ z.history.length = 9 ∧
      (w.filter id).length = 16) := by decide +kernel

/-- A request of junction 300. -/
def request : PointRequest := { junction := 300, direction := .left, attempt := 1 }

theorem witness_PointRequestsAreSentAndRetried :
    let s := (routed listeningPart).onLlu fun u => { u with queue := [request], txHeld := 625 }
    let low (n : Nat) := s.onLlu fun u => { u with txHeld := n }
    let high (n : Nat) := s.onLlu fun u =>
      { u with queue := [], txen := true, txHeld := n
               sending := some { request := request, run := 2, vehicle := 1 } }
    let x : Ctx := { context .requesting with attempt := 5 }
    (s.cru.role = .active ∧ s.llu.carrier = true ∧ s.llu.queue = [request] ∧ s.llu.sending = none ∧
      s.jcu.live.isSome = true ∧ s.tdu.live = some Profile.powerOn) ∧
    (s.llu.txen = false ∧ 625 ≤ s.llu.txHeld ∧ (low 624).llu.txHeld < 625 ∧ (low 622).pending = [] ∧
      622 ≤ (low 622).llu.txHeld ∧ (low 622).listening = true ∧ (low 622).llu.queue ≠ [] ∧
      (low 622).llu.txen = (low 622).llu.sending.isSome) ∧
    ((high 80000).llu.sending = some { request := request, run := 2, vehicle := 1 } ∧
      80000 ≤ (high 80000).llu.txHeld ∧ (high 79999).llu.txHeld < 80000 ∧ (high 79997).pending = [] ∧
      79997 ≤ (high 79997).llu.txHeld ∧ (high 79997).llu.txen = (high 79997).llu.sending.isSome) ∧
    ((atJunction .requesting).jcu.find 300 = some (context .requesting) ∧
      (context .requesting).state = .requesting ∧ (context .requesting).retry = some 0 ∧
      (context .requesting).direction = some .left ∧ (context .requesting).attempt < 5 ∧
      (atJunction .requesting).listening = true ∧
      ((routed driving).onJcu fun u => { u with contexts := [x] }).listening = false) ∧
    (((routed driving).onJcu fun u => { u with contexts := [x] }).jcu.find 300 = some x ∧
      x.state = .requesting ∧ x.retry = some 0 ∧ x.direction = some .left ∧ x.attempt = 5) := by
  decide +kernel

/-- The part listening in TELEGRAM with `n` contexts of other junctions. -/
def besides (n : Nat) : State :=
  (listeningPart.onLlu fun u => { u with rx := .telegram }).onJcu fun u =>
    { u with contexts := (List.range n).map fun i => other (i + 1) }

theorem witness_IdentsOpenContexts :
    (besides 7).llu.rx = .telegram ∧ (identTelegram 1 2).fields.length ≤ 16 ∧
      (identTelegram 1 2).check = telegramCheck (identTelegram 1 2) ∧
      loopMessage (identTelegram 1 2) = some (.ident .request 300 .moving 2) ∧
      (∀ x ∈ (besides 7).jcu.contexts, x.junction ≠ 300) ∧ (besides 7).jcu.contexts.length < 8 ∧
      (routed (besides 7)).jcu.live.isSome = true ∧ (besides 7).jcu.live = none ∧
      (∀ x ∈ (besides 8).jcu.contexts, x.junction ≠ 300) ∧ 8 ≤ (besides 8).jcu.contexts.length ∧
      (besides 8).jcu.overflow = false ∧ (besides 8).llu.rx = .telegram ∧
      (routed (besides 7)).cru.role = .active ∧ (routed (besides 7)).llu.carrier = true ∧
      (routed (besides 7)).llu.queue.length < 8 ∧
      (∀ q ∈ (routed (besides 7)).llu.queue, q.junction ≠ 300) := by decide +kernel

/-- The clauses for points that are set or faulty as the context is created, for a listening part with a
request that waits, and for an ident while the overflow flag is set. -/
theorem witness_IdentsOpenContextsEdges :
    let s := routed (besides 7)
    let l : LiveRoute := s.jcu.live.getD { header := RouteHeader.powerOn, entries := [] }
    let full := (besides 8).onJcu fun u => { u with overflow := true }
    (s.listening = true ∧ (besides 7).listening = true ∧ l.header.run = 2 ∧
      (l.entries.find? fun x => x.junction == 300).map (fun x => x.direction) = some .left ∧
      s.jcu.preselection = none ∧
      (∃ y ∈ (s.onLlu fun u => { u with queue := [⟨300, .right, 1⟩] }).llu.queue, y.junction = 300)) ∧
    ((identTelegram 1 3).fields.length ≤ 16 ∧
      (identTelegram 1 3).check = telegramCheck (identTelegram 1 3) ∧
      loopMessage (identTelegram 1 3) = some (.ident .request 300 (.set .left) 2) ∧
      loopMessage (identTelegram 1 5) = some (.ident .request 300 (.set .right) 2) ∧
      (identTelegram 1 6).check = telegramCheck (identTelegram 1 6) ∧
      loopMessage (identTelegram 1 6) = some (.ident .request 300 .fault 2)) ∧
    (full.llu.rx = .telegram ∧ (∀ x ∈ full.jcu.contexts, x.junction ≠ 300) ∧
      8 ≤ full.jcu.contexts.length ∧ full.jcu.overflow = true) := by decide +kernel

theorem witness_IdentsUpdateContexts :
    let s := atJunction .accepted
    (s.llu.rx = .telegram ∧ s.jcu.find 300 = some (context .accepted) ∧
      (identTelegram 1 3).fields.length ≤ 16 ∧
      (identTelegram 1 3).check = telegramCheck (identTelegram 1 3)) ∧
    (loopMessage (identTelegram 1 3) = some (.ident .request 300 (.set .left) 2) ∧
      s.jcu.live.map (fun r => r.header.run) = some 2 ∧ (context .accepted).direction = some .left) ∧
    (loopMessage (identTelegram 1 5) = some (.ident .request 300 (.set .right) 2) ∧
      (context .accepted).direction ≠ some .right ∧ (context .accepted).state ≠ .mismatch) ∧
    loopMessage (identTelegram 1 6) = some (.ident .request 300 .fault 2) ∧
    loopMessage (identTelegram 1 1) = some (.ident .request 300 .none 2) ∧
    ((atJunction .mismatch).jcu.find 300 = some (context .mismatch)) ∧
    ((atJunction .passed).jcu.find 300 = some (context .passed)) ∧
    ((atJunction .requesting).jcu.find 300 = some (context .requesting) ∧
      (context .requesting).state = .requesting) := by decide +kernel

theorem witness_ClearIdentPassesItsContext :
    ((atJunction .set).llu.rx = .telegram ∧ (identTelegram 2 1).fields.length ≤ 16 ∧
      (identTelegram 2 1).check = telegramCheck (identTelegram 2 1) ∧
      loopMessage (identTelegram 2 1) = some (.ident .clear 300 .none 2) ∧
      (atJunction .set).jcu.find 300 = some (context .set) ∧ (context .set).state ≠ .passed) ∧
    (besides 7).jcu.find 300 = none ∧
    ((context .passed).state = .passed ∧
      (atJunction .passed).jcu.find (context .passed).junction = some (context .passed) ∧
      ((atJunction .passed).jcu.contexts.map fun y => y.junction).Nodup) ∧
    ({ context .passed with wasSet := true } : Ctx).wasSet = true :=
  ⟨by decide +kernel, by decide +kernel, by decide +kernel, rfl⟩

/-- A POINT_REPLY of junction 300 for a run, ACCEPTED, or REFUSED with its reason. -/
def replyTelegram (run : Byte) (result : List Byte) : Telegram := telegram 2 ([0x2C, 1, run, 0] ++ result)

theorem witness_RepliesMoveTheirContext :
    let s := atJunction .unanswered
    (s.llu.rx = .telegram ∧ (replyTelegram 2 [1]).fields.length ≤ 16 ∧
      (replyTelegram 2 [1]).check = telegramCheck (replyTelegram 2 [1]) ∧
      loopMessage (replyTelegram 2 [1]) = some (.reply 300 2 .accepted) ∧
      s.jcu.live.map (fun l => l.header.run) = some 2 ∧
      s.jcu.find 300 = some (context .unanswered) ∧ (context .unanswered).state = .unanswered) ∧
    (loopMessage (replyTelegram 2 [2, 3]) = some (.reply 300 2 (.refused 3)) ∧
      (atJunction .accepted).jcu.find 300 = some (context .accepted) ∧
      (atJunction .requesting).jcu.find 300 = some (context .requesting) ∧
      (atJunction .set).jcu.find 300 = some (context .set)) ∧
    (loopMessage (replyTelegram 3 [1]) = some (.reply 300 3 .accepted) ∧
      s.jcu.live.map (fun l => l.header.run) ≠ some 3) := by decide +kernel

/-- A channel playing a source, some milliseconds into a step. -/
def playing (s : State) (c : Channel) (x : Source) (n ms : Nat) : State :=
  s.onSnu fun u => u.setPlayer c { playing := some x, step := n, elapsed := ms, wave := none }

theorem witness_StopTimersAndSoundSteps :
    let r := (stopIn .requested).onSru fun u => { u with refreshTimer := some 0 }
    let i := (stopIn .inhibit).onSru fun u => { u with inhibitTimer := some 0 }
    let s := (playing part .interior .chime 1 500).onSnu fun u => { u with chime := true }
    let b := playing part .exterior .bell 2 80
    let h := playing part .exterior .horn 0 1000
    (r.sru.record.state = .requested ∧ r.sru.refreshTimer = some 0) ∧
    (i.sru.record.state = .inhibit ∧ i.sru.inhibitTimer = some 0) ∧
    ((b.snu.player .exterior).playing = some .bell ∧
      (b.snu.patternOf .bell)[(b.snu.player .exterior).step]? = some { tone := some 6, duration := 8 } ∧
      8 * 10 ≤ (b.snu.player .exterior).elapsed ∧
      (b.snu.player .exterior).step + 1 < (b.snu.patternOf .bell).length) ∧
    ((h.snu.player .exterior).playing = some .horn ∧
      (h.snu.patternOf .horn)[(h.snu.player .exterior).step]? = some { tone := some 0, duration := 100 } ∧
      100 * 10 ≤ (h.snu.player .exterior).elapsed ∧
      (h.snu.player .exterior).step + 1 = (h.snu.patternOf .horn).length ∧
      ((playing part .exterior .horn 0 999).snu.player .exterior).elapsed < 100 * 10) ∧
    (s.snu.interior.playing = some .chime ∧
      (s.snu.patternOf .chime)[s.snu.interior.step]? = some { tone := some 1, duration := 50 } ∧
      50 * 10 ≤ s.snu.interior.elapsed ∧
      s.snu.interior.step + 1 = (s.snu.patternOf .chime).length ∧ s.snu.alertRole = false ∧
      s.snu.alertJunction = false ∧ s.snu.accessChime = false ∧ s.snu.chime = true) ∧
    (part.snu.soundingTone .exterior = none ∧ h.snu.soundingTone .exterior = some 0 ∧
      (h.snu.player .exterior).wave = none ∧
      ∃ w, (h.snu.clock.player .exterior).wave = some w ∧ w.tone = 0 ∧
        w.phase + 2 * w.hz < 1000000) ∧
    (part.snu.requested .chime = false ∧ part.snu.patternOf .chime ≠ [] ∧
      (part.snu.alertRole || part.snu.alertJunction) = false ∧
      part.snu.patternOf .cabAlert ≠ [] ∧ s.snu.requested .chime = true) :=
  ⟨by decide +kernel, by decide +kernel, by decide +kernel, by decide +kernel, by decide +kernel,
    ⟨by decide +kernel, by decide +kernel, by decide +kernel, _, rfl, by decide +kernel,
      by decide +kernel⟩, by decide +kernel⟩

/-- The ends of a bell pattern with the button released or the key off, and of ACCESS_CHIME. -/
theorem witness_SoundPlayingsEnd :
    let b := (playing part .exterior .bell 3 400).onSnu fun u => { u with bell := true, warning := true }
    let a := (playing part .interior .accessChime 2 600).onSnu fun u => { u with accessChime := true }
    ((b.snu.player .exterior).playing = some .bell ∧
      (b.snu.patternOf .bell)[(b.snu.player .exterior).step]? = some { tone := none, duration := 40 } ∧
      40 * 10 ≤ (b.snu.player .exterior).elapsed ∧
      (b.snu.player .exterior).step + 1 = (b.snu.patternOf .bell).length ∧
      b.level .bell = false ∧ b.level .key = false ∧ b.snu.horn = false ∧ b.snu.emergency = false ∧
      b.snu.warning = true ∧ b.snu.patternOf .warning ≠ []) ∧
    ((a.snu.player .interior).playing = some .accessChime ∧
      (a.snu.patternOf .accessChime)[(a.snu.player .interior).step]? = some { tone := some 3, duration := 60 } ∧
      60 * 10 ≤ (a.snu.player .interior).elapsed ∧
      (a.snu.player .interior).step + 1 = (a.snu.patternOf .accessChime).length) := by decide +kernel

theorem witness_AttributesRecoverAndReportsAreSent :
    let timer (n : Nat) := part.onCmn fun c =>
      c.setAttr .buffer { c.attr .buffer with n := 95, recovery := some n }
    let report (n : Nat) := part.onMgu fun u => { u with reportTimer := some n }
    ((timer 0).cmn.attr .buffer).recovery = some 0 ∧ (report 0).mgu.reportTimer = some 0 ∧
      ((timer 1).cmn.attr .buffer).recovery = some (0 + 1) ∧ (report 1).mgu.reportTimer = some (0 + 1) ∧
      ((told part [8, 62]).Commanded 0 (command [8, 62]) ∧ (62 : Byte).toNat < 63 ∧
        (told part [9, 99, 0]).Commanded 0 (command [9, 99, 0])) := by
  unfold State.Commanded; decide +kernel

theorem witness_ControlFramesAreJudged :
    (Instr.readLog ∈ controlRows ∧
      (told part [5, 1]).headOfKind kindControl = some (0, command [5, 1]) ∧
      ((told part [5, 1]).onMgu fun u => { u with pendingReset := some 1 }).mgu.pendingReset.isSome = true ∧
      rowOf [5, 1] ≠ .readState ∧ rowOf [5, 1] = .readLog ∧ (told part [5, 1]).mgu.pendingReset = none ∧
      addrOf (command [5, 1]).src = (told part [5, 1]).mgu.manager ∧
      lengthFits [5, 1, 1] = false ∧ rowOf [5, 1, 1] = .readLog) ∧
    (rowOf [12] = .unknownCommand ∧ 11 < num1 [12] 0 ∧ rowOf [0] = .unknownCommand ∧ num1 [0] 0 = 0) ∧
    addrOf (frameFrom 2 5 0x70 [5, 1]).src ≠ part.mgu.manager ∧
    ((told part [2, 13, 0, 0, 0]).Commanded 0 (command [2, 13, 0, 0, 0]) ∧ 12 < (13 : Byte).toNat ∧
      (told part [3, 6]).Commanded 0 (command [3, 6]) ∧
      (told part [6, 5]).Commanded 0 (command [6, 5]) ∧
      (told part [7, 1, 8]).Commanded 0 (command [7, 1, 8])) := by
  unfold State.Commanded; decide +kernel

theorem witness_ReadsAnswerAndChangeNothing :
    let s := told part [1, 1, 61, 0, 2]
    (s.Commanded 0 (command [1, 1, 61, 0, 2]) ∧ s.tableReadable 1 = true ∧
      (List.range 2).map (fun k => s.tableEntry 1 (61 + k)) =
        [[1, 255, 255, 0], [1, 255, 255, 0]].map some) ∧
    ((told part [1, 3, 7, 0, 2]).Commanded 0 (command [1, 3, 7, 0, 2]) ∧
      (told part [1, 3, 7, 0, 2]).tableReadable 3 = true ∧
      ((told part [1, 3, 7, 0, 2]).tableEntry 3 (7 + 0)).isSome = true ∧
      (told part [1, 3, 7, 0, 2]).tableEntry 3 (7 + 1) = none) ∧
    ((told part [1, 1, 0, 0, 63]).Commanded 0 (command [1, 1, 0, 0, 63]) ∧
      (List.range 63).map (fun k => (told part [1, 1, 0, 0, 63]).tableEntry 1 (0 + k)) =
        (List.replicate 63 [1, 255, 255, 0]).map some ∧
      232 < (List.replicate 63 ([1, 255, 255, 0] : List Byte)).flatten.length) ∧
    ((told part [1, 15, 0, 0, 1]).Commanded 0 (command [1, 15, 0, 0, 1]) ∧
      (told part [1, 13, 0, 0, 1]).jcu.live = none) ∧
    ((told part [4, 1, 1]).Commanded 0 (command [4, 1, 1]) ∧
      ((told part [4, 1, 1]).takeHead.readItem 1 1).isSome = true ∧
      (told part [4, 1, 3]).takeHead.readItem 1 3 = none) ∧
    (told part [5, 9]).Commanded 0 (command [5, 9]) ∧
    (part.cmn.log.held ≤ 32 ∧ ∀ k, k < part.cmn.log.held → (part.cmn.log.back k).isSome = true) := by
  unfold State.Commanded; decide +kernel

/-- The entries and the items that stand or do not stand: a live route of one entry, a live profile, an open
context, a slot that is taken and one that is free. -/
theorem witness_ReadsOfLiveTablesAndItems :
    let s := atJunction .accepted
    let r : Slot := { node := 20, speed := 3, effort := 0, state := .ready, time := 0 }
    let u := s.onTdu fun x => { x with slots := x.slots.set 5 (some r) }
    ((s.jcu.live.bind fun r => r.entries[0]?).map (fun e => e.junction) = some 300 ∧
      (s.jcu.live.map fun r => r.entries.length) = some 1 ∧ s.tdu.live = some Profile.powerOn) ∧
    (s.jcu.contexts[0]? = some (context .accepted) ∧ u.tdu.slots.get 0 none = none ∧
      (u.tdu.slots.get 5 none).isSome = true) ∧
    (RouteEntry.junction <$> s.jcu.shadow.data[255]?) = some 1 := by decide +kernel

theorem witness_WritesAreWholeOrRefused :
    (3 < num2 [2, 4, 4, 0, 1] 2) ∧
      (1 ≤ 1 ∧ (∀ e ∈ ([[5], [9]] : List (List Byte)), e.length = 1) ∧ ([] : List Byte).length < 1 ∧
        2 + ([[5], [9]] : List (List Byte)).length ≤ 3 + 1 ∧
        (([[5], [9]] : List (List Byte)).mapIdx fun k e => parseOctet 15 (2 + k) e) =
          ([{ value := 5, clamps := 0 }, { value := 9, clamps := 0 }] : List (Taken Nat)).map some) ∧
      (parseNode 0 [8, 0, 0, 0]).isNone = true ∧
      (3 + 1 < 3 + ([[5], [9]] : List (List Byte)).length + 0) ∧ ([1] : List Byte).length < 4 := by
  decide +kernel

/-- A row's refusals at their edges: the index above the table, the second entry above it, a part entry, an
unsound entry and a sound one; and those of the ROUTE header and of a PATTERN. -/
theorem witness_WritesByTheirRows :
    ((told part [2, 1, 63, 0, 1, 0, 0, 0]).Commanded 0 (command [2, 1, 63, 0, 1, 0, 0, 0]) ∧
      (told part [2, 4, 3, 0, 1, 2]).Commanded 0 (command [2, 4, 3, 0, 1, 2]) ∧
      3 + 1 < 3 + ([1, 2] : List Byte).length ∧
      (told part [2, 10, 7, 0, 1]).Commanded 0 (command [2, 10, 7, 0, 1]) ∧
      ([1] : List Byte).length % 2 ≠ 0) ∧
    ((told part [2, 7, 0, 1, 1, 0, 4, 0, 0, 0, 0, 0]).Commanded 0
        (command [2, 7, 0, 1, 1, 0, 4, 0, 0, 0, 0, 0]) ∧
      3 < num1 [1, 0, 4, 0, 0, 0, 0, 0] 2 ∧ 5 ≤ (command [2, 7, 0, 1, 1, 0, 4, 0, 0, 0, 0, 0]).payload.length ∧
      num1 (command [2, 7, 0, 1, 1, 0, 4, 0, 0, 0, 0, 0]).payload 1 = 7 ∧
      num2 (command [2, 7, 0, 1, 1, 0, 4, 0, 0, 0, 0, 0]).payload 2 = 256) ∧
    ((told part [2, 2, 0, 0, 1, 4, 255, 9]).Commanded 0 (command [2, 2, 0, 0, 1, 4, 255, 9]) ∧
      num1 [1, 4, 255, 9] 0 = 1 ∧ num1 [1, 4, 255, 9] 1 = 4) ∧
    ((told part [2, 7, 0, 0, 9]).Commanded 0 (command [2, 7, 0, 0, 9]) ∧
      (told part [2, 9, 16, 0, 0]).Commanded 0 (command [2, 9, 16, 0, 0]) ∧
      (told part [2, 9, 15, 0, 1, 5]).Commanded 0 (command [2, 9, 15, 0, 1, 5]) ∧
      (told part ([2, 9, 15, 0, 13] ++ List.replicate 26 5)).Commanded 0
        (command ([2, 9, 15, 0, 13] ++ List.replicate 26 5))) := by
  unfold State.Commanded; decide +kernel

theorem witness_LiveTablesAreWritten :
    ((told part [2, 1, 62, 0, 3, 8, 0, 0]).Commanded 0 (command [2, 1, 62, 0, 3, 8, 0, 0]) ∧
      nodeRoleOf 3 = some .vcu) ∧
    ((told part [2, 2, 255, 0, 1, 4, 255, 241]).Commanded 0 (command [2, 2, 255, 0, 1, 4, 255, 241]) ∧
      actionOf 1 = some .forward ∧ actionOf 4 = some .drop) ∧
    (told part [2, 3, 7, 0, 8]).Commanded 0 (command [2, 3, 7, 0, 8]) ∧
    (told part [2, 4, 3, 0, 16]).Commanded 0 (command [2, 4, 3, 0, 16]) ∧
    ((told part [2, 5, 2, 0, 5, 8, 1, 1, 2, 1, 2, 0, 1, 2, 3, 65, 1, 2, 3]).Commanded 0
        (command [2, 5, 2, 0, 5, 8, 1, 1, 2, 1, 2, 0, 1, 2, 3, 65, 1, 2, 3]) ∧
      queueTypeOf 1 = some .strict ∧ queueTypeOf 2 = some .weighted) ∧
    (told part [2, 6, 4, 0, 4, 1, 1, 2, 2, 3, 3, 3]).Commanded 0
      (command [2, 6, 4, 0, 4, 1, 1, 2, 2, 3, 3, 3]) ∧
    (told part [2, 9, 15, 0, 1, 8, 0]).Commanded 0 (command [2, 9, 15, 0, 1, 8, 0]) ∧
    (told part [2, 10, 7, 0, 99, 0]).Commanded 0 (command [2, 10, 7, 0, 99, 0]) ∧
    (told part [2, 11, 0, 0, 16, 1, 2, 3, 4, 5, 6]).Commanded 0
      (command [2, 11, 0, 0, 16, 1, 2, 3, 4, 5, 6]) ∧
    (told part [2, 12, 8, 0, 96, 0, 0, 0xE9, 3]).Commanded 0
      (command [2, 12, 8, 0, 96, 0, 0, 0xE9, 3]) := by
  unfold State.Commanded; decide +kernel

theorem witness_WritesTouchWhatPlays :
    let s := (playing part .interior .chime 1 500).onSnu fun u => { u with chime := true }
    let h := playing part .exterior .horn 0 1000
    (s.snu.interior.playing = some .chime ∧ s.snu.mapped .chime = 6 ∧ s.snu.mapped .chime ≠ 1 ∧
      s.snu.requested .chime = true ∧ s.snu.exterior.playing = none) ∧
    (h.snu.exterior.playing = some .horn ∧ h.snu.mapped .horn = 1 ∧ h.snu.interior.playing = none ∧
      h.snu.soundingTone .exterior = some 0 ∧ h.snu.soundingTone .interior = none) := by decide +kernel

/-- The first two shadow entries with two junction numbers. -/
def shadowed (s : State) (x y : Nat) : State :=
  s.onJcu fun u =>
    { u with
      shadowHeader := { u.shadowHeader with count := 2 }
      shadow := (u.shadow.set 0 { RouteEntry.powerOn with junction := x }).set 1
        { RouteEntry.powerOn with junction := y } }

/-- The shadow profile with a jerk and a handle calibration. -/
def profiled (s : State) (jerk hb : Int) : State :=
  s.onTdu fun u => { u with shadow := { u.shadow with jerk := jerk, hb := hb } }

theorem witness_StagedTablesAreCommitted :
    (told part [2, 7, 0, 0, 0, 0, 0, 0, 0, 0, 0, 0, 0, 0, 4, 1, 1]).Commanded 0
      (command [2, 7, 0, 0, 0, 0, 0, 0, 0, 0, 0, 0, 0, 0, 4, 1, 1]) ∧
    ((told part [2, 7, 0, 1, 0, 16, 3, 255, 255, 0, 0, 255]).Commanded 0
        (command [2, 7, 0, 1, 0, 16, 3, 255, 255, 0, 0, 255]) ∧ directionOf 3 = some .right) ∧
    (told part [2, 8, 19, 0, 0xFF, 0xFF]).Commanded 0 (command [2, 8, 19, 0, 0xFF, 0xFF]) ∧
    ((told (shadowed part 3 4) [3, 7]).Commanded 0 (command [3, 7]) ∧
      (((shadowed part 3 4).jcu.shadow.data.take 2).map fun e => e.junction).Pairwise (· < ·) ∧
      (((shadowed part 3 3).jcu.shadow.data.take 2).map fun e => e.junction).getD 1 0 ≤
        (((shadowed part 3 3).jcu.shadow.data.take 2).map fun e => e.junction).getD 0 0) ∧
    ((told (profiled part 30 120) [3, 8]).Commanded 0 (command [3, 8]) ∧
      (profiled part 30 120).tdu.shadow.jerk ≤ (profiled part 30 120).tdu.shadow.rateLimit ∧
      (profiled part 31 120).tdu.shadow.rateLimit < (profiled part 31 120).tdu.shadow.jerk ∧
      ¬ (profiled part 5 470).tdu.shadow.hb < (profiled part 5 470).tdu.shadow.hn1) := by
  unfold State.Commanded; decide +kernel

theorem witness_ClearsTakeTheirGroup :
    (told part [6, 1]).Commanded 0 (command [6, 1]) ∧ (told part [6, 2]).Commanded 0 (command [6, 2]) ∧
      (told part [6, 3]).Commanded 0 (command [6, 3]) ∧
      (told part [6, 4]).Commanded 0 (command [6, 4]) := by
  unfold State.Commanded; decide +kernel

theorem witness_PortModesAreSet :
    ((told driving [7, 1, 2]).Commanded 0 (command [7, 1, 2]) ∧ (1 : Byte).toNat = codePort .A ∧
      (told driving [7, 1, 2]).cru.role ≠ .inactive ∧ (told part [7, 1, 1]).Commanded 0 (command [7, 1, 1]) ∧
      ((told part [7, 1, 1]).port .A).mode = .normal) ∧
    ((told (inMode part .B .disabled) [7, 2, 1]).Commanded 0 (command [7, 2, 1]) ∧
      (2 : Byte).toNat = codePort .B ∧ ((told (inMode part .B .disabled) [7, 2, 1]).port .B).mode = .disabled) ∧
    ((told part [7, 1, 2]).Commanded 0 (command [7, 1, 2]) ∧ ((told part [7, 1, 2]).port .A).mode = .normal ∧
      (told part [7, 1, 2]).cru.role = .inactive) ∧
    (told part [7, 1, 3]).Commanded 0 (command [7, 1, 3]) ∧
    ((told receiving [7, 1, 4]).Commanded 0 (command [7, 1, 4]) ∧
      ((told receiving [7, 1, 4]).port .A).mode = .normal ∧ ((told receiving [7, 1, 4]).port .A).rx ≠ .down) ∧
    ((told part [7, 1, 5]).Commanded 0 (command [7, 1, 5]) ∧
      ((told part [7, 1, 5]).port .A).mode ≠ .remoteLoopback) ∧
    ((told part [7, 3, 7]).Commanded 0 (command [7, 3, 7]) ∧
      (told part [7, 0, 1]).Commanded 0 (command [7, 0, 1])) := by
  unfold State.Commanded; decide +kernel

theorem witness_PortModesAreLeft :
    ((told (inMode part .A .remoteLoopback) [7, 1, 1]).Commanded 0 (command [7, 1, 1]) ∧
      ((told (inMode part .A .remoteLoopback) [7, 1, 1]).port .A).mode = .remoteLoopback ∧
      ((told (inMode part .A .localLoopback) [7, 1, 1]).port .A).mode = .localLoopback ∧
      (told (inMode part .A .remoteLoopback) [7, 1, 2]).Commanded 0 (command [7, 1, 2]) ∧
      (told (inMode part .A .remoteLoopback) [7, 1, 2]).cru.role = .inactive ∧
      (told (inMode part .A .remoteLoopback) [7, 1, 6]).Commanded 0 (command [7, 1, 6]) ∧
      ((told (inMode part .A .remoteLoopback) [7, 1, 6]).port .A).mode = .remoteLoopback) := by
  unfold State.Commanded; decide +kernel

theorem witness_PortModesAreEntered :
    ((told (inMode part .A .disabled) [7, 1, 2]).Commanded 0 (command [7, 1, 2]) ∧
      (told (inMode part .A .disabled) [7, 1, 2]).cru.role = .inactive ∧
      ((told (inMode part .A .disabled) [7, 1, 2]).port .A).mode = .disabled ∧
      (told (inMode part .A .disabled) [7, 1, 3]).Commanded 0 (command [7, 1, 3]) ∧
      (told (inMode part .A .localLoopback) [7, 1, 3]).Commanded 0 (command [7, 1, 3]) ∧
      ((told (inMode part .A .localLoopback) [7, 1, 3]).port .A).mode = .localLoopback) ∧
    ((told part [7, 1, 4]).Commanded 0 (command [7, 1, 4]) ∧
      ((told part [7, 1, 4]).port .A).mode = .normal ∧ ((told part [7, 1, 4]).port .A).rx = .down ∧
      (told (inMode part .A .remoteLoopback) [7, 1, 4]).Commanded 0 (command [7, 1, 4]) ∧
      ((told (inMode part .A .remoteLoopback) [7, 1, 4]).port .A).mode = .remoteLoopback ∧
      (told (inMode part .A .localLoopback) [7, 1, 4]).Commanded 0 (command [7, 1, 4]) ∧
      ((told (inMode part .A .localLoopback) [7, 1, 4]).port .A).mode = .localLoopback) := by
  unfold State.Commanded; decide +kernel

theorem witness_ResetPartWaitsForItsReply :
    ((told driving [11]).Commanded 0 (command [11]) ∧ (told driving [11]).cru.role = .active ∧
      (told driving [11]).standing = false) ∧
    ((told (withUsed part 96) [11]).Commanded 0 (command [11]) ∧
      (told (withUsed part 96) [11]).cru.role ≠ .active ∧
      (told (withUsed part 96) [11]).bqm.firstFree = none) ∧
    ((told part [11]).Commanded 0 (command [11]) ∧ (told part [11]).bqm.firstFree = some 1 ∧
      ((told part [11]).routes (addrOf (command [11]).src)).get .A = true ∧
      (told part [11]).offerOutcome .A 3 = .queued) ∧
    (let s := told (inMode part .A .disabled) [11];
      s.Commanded 0 (command [11]) ∧ s.offerOutcome .A 3 = .modeDrop ∧
      (s.routes (addrOf (command [11]).src)).get .B = true ∧ s.offerOutcome .B 3 = .queued) ∧
    (let s := told (inMode (inMode part .A .disabled) .B .remoteLoopback) [11];
      s.Commanded 0 (command [11]) ∧ s.bqm.firstFree = some 1 ∧ s.offerOutcome .A 3 = .modeDrop ∧
      s.offerOutcome .B 3 = .modeDrop) ∧
    (let s := (told part [11]).onFsw fun w => w.learn 1 .B
      let t := s.onBqm fun q => q.onEgress .B fun e =>
        e.onQueue (q.queueFor .B 3) fun x => { x with entries := List.replicate 32 9 }
      t.routes (addrOf (command [11]).src) = (Both.same false).set .B true ∧
      t.offerOutcome .B 3 = .tailDrop ∧ t.bqm.firstFree.isSome = true) := by
  unfold State.Commanded; decide +kernel

/-- Port A sends the REPLY of a reset that address 1 asked for. -/
def replying (s : State) : State :=
  ((s.onPort .A fun u => { u with tx := .sending 7 }).onMgu fun u => { u with pendingReset := some 1 }).onBqm
    fun q => { q with resetReply := some { buffer := 7, undone := { a := true, b := false } } }

theorem witness_ResetPartEndsWithItsReply :
    ((replying part).port .A).tx = .sending 7 ∧ (replying part).mgu.pendingReset = some 1 ∧
      (∃ r, (replying part).bqm.resetReply = some r ∧ r.buffer = 7 ∧ r.undone.get Port.A.other = false) ∧
      (replying part).cru.role ≠ .active ∧ (replying driving).cru.role = .active ∧
      (replying driving).standing = false ∧ (atSpeed (replying driving) 5).standing = true :=
  ⟨by decide +kernel, by decide +kernel, ⟨_, rfl, rfl, rfl⟩, by decide +kernel, by decide +kernel,
    by decide +kernel, by decide +kernel⟩

theorem witness_ResetPartEndsWithAFlush :
    let s := ((waiting (withRx part .A .hunt) 2).onPort .A fun u =>
      { u with persistence := some { code := .loopup, micros := 500000 } }).onBqm fun q =>
        { q.onEgress .A fun e => { e with config := { e.config with autoloop := true } } with
          resetReply := some { buffer := 7, undone := { a := true, b := false } } }
    let r := s.onMgu fun u => { u with pendingReset := some 1 }
    (r.port .A).mode = .normal ∧ (r.bqm.egress.get .A).config.autoloop = true ∧
      r.cru.role = .inactive ∧ (r.port .A).rx = .hunt ∧
      (r.port .A).persistence = some { code := .loopup, micros := 500000 } ∧
      r.mgu.pendingReset = some 1 ∧
      r.bqm.resetReply = some { buffer := 7, undone := { a := true, b := false } } ∧
      7 ∈ ((r.bqm.egress.get .A).queue 2).entries := by decide +kernel

/-! ### The laws hold of a state in the middle of things, and a step follows -/

/-- Port A receives in buffer 4 while a broadcast of its own waits in buffer 0 at both ports, a frame in
buffer 1 waits for dispatch, and a demand waits in buffer 2. -/
def busy : State :=
  { receiving with
    bqm := { receiving.bqm with
      pool := ((receiving.bqm.pool.set 0 { refs := 2, frame := frameFrom 5 63 0x10 [3, 1, 1, 0] }).set 1
        { refs := 1, frame := command [5, 1] }).set 2 { refs := 2, frame := frameFrom 5 63 0x20 [] }
      egress := Both.same (Egress.powerOn.onQueue 3 fun x => { x with entries := [0, 2] })
      ldq := [1]
      slot := Both.same (.waiting 2) }
    pending := [.frameEnd .A (frameFrom 1 2 0x55 [7])] }

theorem busy_pool : busy.PoolLaw := by unfold State.PoolLaw; decide +kernel

theorem busy_receiver : busy.ReceiverLaw := by
  intro p b h
  cases p with
  | A =>
    have e : (busy.port .A).receiving = some 4 := by decide +kernel
    rw [e] at h; cases h; decide +kernel
  | B =>
    have e : (busy.port .B).receiving = none := by decide +kernel
    rw [e] at h; cases h

theorem busy_slot : busy.SlotLaw := by
  intro p q b h
  have e : ∀ x : Port, busy.bqm.slot.get x = .waiting 2 := fun x => by cases x <;> decide +kernel
  rw [e p] at h
  injection h with h
  subst h
  rw [e q]
  refine ⟨?_, fun c hc => ?_⟩
  · rw [if_pos rfl]; cases q <;> decide +kernel
  · injection hc with hc; exact hc.symm

theorem witness_BufferReferencesAreKept : busy.BufferLaw ∧ ∃ t, step busy = .next t :=
  ⟨⟨busy_pool, busy_receiver, busy_slot, fun p _ => by cases p <;> decide +kernel,
    by intro k n hk hn; interval_cases k <;> interval_cases n <;> decide +kernel⟩, _, rfl⟩

/-- The loop-link attribute tripped by an event at its threshold, with the event command waiting. -/
def tripping : State :=
  { (listeningPart.onLlu fun u => { u with rx := .telegram }) with
    cmn := ((driving.cmn.count .loopLink).count .loopLink).count .loopLink
    pending := [.loopLengthError] }

theorem witness_ConditionLawsAreKept :
    (tripping.cmn.tripped .loopLink = true ∧ tripping.cmn.faultLamp = true ∧ 0 < tripping.cmn.log.held) ∧
      tripping.cmn.AttributeLaw ∧ tripping.cmn.LogLaw ∧ ∃ t, step tripping = .next t := by
  refine ⟨by decide +kernel, ?_, ?_, _, rfl⟩
  · unfold Cmn.AttributeLaw; decide +kernel
  · unfold Cmn.LogLaw; decide +kernel

/-- In command with the stop requested, the lamp lit, and a press waiting. -/
def requested : State :=
  { received ((stopIn .requested).onSru fun u => { u with lamp := true }) (pressFrame 2 1) with
    pending := [.takeStopPress] }

theorem witness_RoleLawsAreKept :
    requested.TractionLaw ∧ requested.StopLaw ∧ ∃ t, step requested = .next t := by
  refine ⟨?_, ?_, _, rfl⟩
  · unfold State.TractionLaw; decide +kernel
  · unfold State.StopLaw; decide +kernel

theorem witness_ListLawsAreKept :
    let s := { crowded (besides 8) with pending := [.telegramReceived (identTelegram 1 1)] }
    let r := (((atJunction .refused).onJcu fun u => { u with routeLamp := true }).onSnu fun u =>
      (u.setWarning true).setAlertJunction true)
    s.jcu.contexts.length = 8 ∧ s.cru.cabs.length = 4 ∧ s.jcu.ListLaw ∧ s.cru.TableLaw ∧
      (∃ t, step s = .next t) ∧ r.SignalLaw ∧
      ∃ t, step { r with pending := [.telegramReceived (identTelegram 1 3)] } = .next t := by
  refine ⟨by decide +kernel, by decide +kernel, ?_, ?_, ⟨_, rfl⟩, ?_, _, rfl⟩
  · unfold Jcu.ListLaw; decide +kernel
  · unfold Cru.TableLaw; decide +kernel
  · unfold State.SignalLaw Jcu.Warns Jcu.Alerts; decide +kernel

theorem witness_ResetMeetsTheLaws : ∃ t, exec (.powerOnReset 62) busy = .next t := ⟨_, rfl⟩

/-! ### The worked figures of the spec -/

/-- Chapter 1: the check of the nine ASCII digits (R3). -/
theorem test_check_of_the_nine_digits :
    checkOf [0x31, 0x32, 0x33, 0x34, 0x35, 0x36, 0x37, 0x38, 0x39] = 0x906E#16 := by decide +kernel

/-- R96's own figures under the power-on profile. -/
theorem test_handle_target : handleTarget Profile.powerOn false 295 = -500 ∧
    handleTarget Profile.powerOn false 725 = 500 ∧ handleTarget Profile.powerOn false 300 = -485 ∧
    handleTarget Profile.powerOn false 120 = -1000 ∧ handleTarget Profile.powerOn false 900 = 1000 ∧
    handleTarget Profile.powerOn true 725 = -1000 := by decide +kernel

/-- D and R over a number of periods with the target held. -/
def ramped (dt : Int) (bar : Bool) : Nat → Int × Int → List (Int × Int)
  | 0, _ => []
  | n + 1, x =>
    let w := stageRamp Profile.powerOn bar { dt := dt, d := x.1, r := x.2, cut := false }
    (w.r, w.d) :: ramped dt bar n (w.d, w.r)

/-- Worked case 6.5.1, the ramp from rest. -/
theorem test_ramp_from_rest : ramped 100 false 9 (0, 0) =
    [(5, 5), (10, 15), (15, 30), (20, 50), (20, 70), (15, 85), (10, 95), (5, 100), (0, 100)] := by
  decide +kernel

/-- Worked case 6.5.2, taper and adhesion: 300 after stage 4, 225 after stage 5, then R = −5. -/
theorem test_taper_and_adhesion :
    let w : Work := { dt := 0, d := 260, r := 0, cut := false }
    (stageCap Profile.powerOn 150 (some 135) false
      (stageDoor false (stageState Profile.powerOn false 600 w))).dt = 300 ∧
    nextFactor Profile.powerOn (findsSlip Profile.powerOn (some 22)) 850 = 750 ∧
    stageRamp Profile.powerOn false
      (stages Profile.powerOn false false false 600 150 (some 135) 750 w) =
        { dt := 225, d := 255, r := -5, cut := false } := by decide +kernel

/-- Worked case 6.5.3, overspeed at a mismatched junction: the cut, then the ramp of the brake. -/
theorem test_overspeed :
    let w := stages Profile.powerOn false false false 400 0 (some 25) 1000
      { dt := 0, d := 180, r := 10, cut := false }
    w = { dt := -300, d := 0, r := 0, cut := true } ∧
    stageRamp Profile.powerOn true w = { dt := -300, d := 0, r := 0, cut := true } ∧
    ramped (-300) true 3 (0, 0) = [(-5, -5), (-10, -15), (-15, -30)] := by decide +kernel

/-- Worked case of 5.6, the odometer at 15 km/h: nine periods advance 750 mm. -/
theorem test_odometer :
    let u : Tdu := { Tdu.powerOn with facts := { v := some 150, s := none } }
    let trace := (List.range 4).map fun n =>
      let x := Nat.repeat Tdu.advance n u
      (x.odometer.toNat, x.carry)
    trace = [(0, 0), (83, 3), (166, 6), (250, 0)] ∧
      (Nat.repeat Tdu.advance 9 u).movingTime = 180#32 := by decide +kernel

/-- Worked sequence of 5.6: V and S of periods 1, 2, 4, 6 and 7. -/
theorem test_speed_facts :
    findFacts [152, 148, 150] 200 = { v := some 148, s := some 4 } ∧
    findFacts [152, 190, 150] 220 = { v := some 150, s := some 40 } ∧
    findFacts [152, 153, 120] (-320) = { v := some 153, s := some 33 } ∧
    findFacts [153] (-300) = { v := some 153, s := none } ∧
    findFacts [] (-280) = { v := none, s := none } := by decide +kernel

/-- NOTE of 5.1: a single sample at 0 amid samples of 500 gives H = 437. -/
theorem test_handle_value : handleValue [500, 500, 500, 0, 500, 500, 500, 500] = 437 ∧
    handleInRange 437 = true ∧ handleInRange 7 = false ∧ handleInRange 1016 = false := by
  decide +kernel

/-- The port of the worked example of weighted service: six frames in queue 1, four in queue 0. -/
def weightedPort : Egress :=
  let put (e : Egress) (n : Nat) (l : List Nat) := e.onQueue n fun x => { x with entries := l }
  put (put Egress.powerOn 1 [11, 12, 13, 14, 15, 16]) 0 [1, 2, 3, 4]

/-- Frames 11 to 16 are of 60 octets, frames 1 to 4 of 30. -/
def exampleSize (b : Nat) : Nat := if 10 < b then 60 else 30

/-- A number of decisions: the frame named and the two deficits after each. -/
def decisions : Nat → Egress → List (Option Nat × Nat × Nat)
  | 0, _ => []
  | n + 1, e =>
    let r := e.decide exampleSize
    (r.2, (r.1.queue 1).deficit, (r.1.queue 0).deficit) :: decisions n r.1

/-- Worked example of Chapter 3, weighted service, all eleven decisions (R49). -/
theorem test_weighted_service : decisions 11 weightedPort =
    [(some 11, 36, 0), (some 1, 36, 2), (some 12, 72, 2), (some 13, 12, 2), (some 2, 12, 4),
     (some 14, 48, 4), (some 3, 48, 6), (some 15, 84, 6), (some 16, 0, 6), (some 4, 0, 0),
     (none, 0, 0)] := by decide +kernel

/-- The switch of the worked example of priority decisions. -/
def weighing : State :=
  let s := part.onFsw fun w =>
    { w with
      weights := (((w.weights.set 0 1).set 1 3).set 2 3).set 3 2
      classes := w.classes.set 0x40 { w.class 0x40 with priority := some 2 }
      nodes := w.nodes.set 20 { NodeEntry.powerOn with priority := some 5 } }
  let put (s : State) (p : Port) (n : Nat) := s.onBqm fun q => q.onEgress p fun e =>
    { e with config := { e.config with defaultPriority := n } }
  put (put s .A 1) .B 4

/-- A frame of a kind from a source with a tag and hop 31. -/
def tagged (kind src : Byte) (tag : Byte) : Frame :=
  { frameFrom src 63 kind [] with tagHop := tag <<< 5 ||| 0x1F }

/-- Worked example of Chapter 2, priority decisions (R37). -/
theorem test_priority :
    weighing.internalPriority .A (tagged 0x40 20 0) = 5 ∧
    weighing.internalPriority .A (tagged 0x40 33 7) = 2 ∧
    weighing.internalPriority .A (tagged 0x55 33 7) = 1 ∧
    weighing.internalPriority .B (tagged 0x55 33 7) = 4 ∧
    part.internalPriority .A (tagged 0x40 20 6) = 6 := by decide +kernel

/-- The bits of a sequence under the recurrence of R115, the last 9 bits held newest first. -/
def sequence : Nat → List Bool → List Bool
  | 0, _ => []
  | n + 1, l =>
    let b := l.getD 4 false != l.getD 8 false
    b :: sequence n ((b :: l).take 9)

/-- Worked sequence of Chapter 7: with 105 bits taken, bit 73 judged brings IN_SYNC; one flipped bit
gives three errors in sync. -/
theorem test_depot_test :
    let bits := sequence 200 [true, false, true, true, false, false, true, false, true]
    let run (l : List Bool) := l.foldl DepotTest.take (DepotTest.opened 9)
    (run (bits.take 104)).inSync = false ∧ (run (bits.take 105)).inSync = true ∧
    (run (bits.take 105)).checked = 0 ∧ (run (bits.take 106)).checked = 1 ∧
    (run (bits.set 120 (!bits.getD 120 false))).errors = 3 ∧
    (run (bits.set 120 (!bits.getD 120 false))).checked = 95 := by decide +kernel

/-- Worked sequence of Chapter 11: LOOP_LINK through four events and twenty-four rises. -/
theorem test_loop_link_week :
    let c := Nat.repeat (fun c => c.count .loopLink) 2 Cmn.powerOn
    let d := Nat.repeat (fun c => c.count .loopLink) 2 (c.recover .loopLink)
    let e := Nat.repeat (fun c => c.recover .loopLink) 24 d
    ((c.attr .loopLink).n, (d.attr .loopLink).n, (d.attr .loopLink).worst, (d.attr .loopLink).raw)
        = (60, 21, 21, 4) ∧
    (c.faultLamp, d.faultLamp, e.faultLamp) = (false, true, false) ∧
    ((e.attr .loopLink).n, (e.attr .loopLink).worst, (e.attr .loopLink).raw) = (45, 21, 4) ∧
    (d.log.held, e.log.held) = (1, 2) := by decide +kernel

/-- Worked case 6.5.4: the brake eases off by 5, then by 10. -/
theorem test_emergency_eases : ramped 0 false 2 (-1000, 0) = [(5, -995), (10, -985)] := by decide +kernel

/-- The state a command answers with; the state itself where it stops. -/
def after (i : Instr) (s : State) : State :=
  match exec i s with
  | .next t => t
  | _ => s

/-- R75: a key on at the pin is a change to on after 10 ms and not after 9, and a gap starts it afresh. -/
theorem test_debounce :
    let u : Ciu := { quiet with inputs := quiet.inputs.set 0 { pin := true, level := false, stability := none } }
    let gap : Ciu := { quiet with ahead := List.replicate 9 (Tab.fill 9 true) ++
      [Tab.fill 9 false] ++ List.replicate 10 (Tab.fill 9 true) }
    ((Nat.repeat Ciu.tick 9 u).input .key).due true = false ∧
    ((Nat.repeat Ciu.tick 10 u).input .key).due true = true ∧
    ((Nat.repeat Ciu.tick 19 gap).input .key).due true = false ∧
    ((Nat.repeat Ciu.tick 20 gap).input .key).due true = true := by decide +kernel

/-- R109: a preamble joined 4 bits late is enough for a telegram start, and one joined 5 bits late is not. -/
theorem test_telegram_start :
    let heard (n : Nat) := ((telegramBits (identTelegram 1 1)).drop n).take (32 - n)
    let run (l : List Bool) := l.foldl Llu.huntBit listeningPart.llu
    (run (heard 4)).rx = .telegram ∧ (run ((heard 4).dropLast)).rx = .hunt ∧
    (run (heard 5)).rx = .hunt := by decide +kernel

/-- What the loop port finds in one bit time. -/
def pendingAt (s : State) : List Instr := s.clockLoop.pending

/-- R114: the head of the queue is taken after one loop bit of LOOP_TXEN low, and its end found 128 loop bits
later, after 26 667 bit times. -/
theorem test_point_request_times :
    let s := (routed listeningPart).onLlu fun u => { u with queue := [request] }
    let low (n : Nat) := s.onLlu fun u => { u with txHeld := n }
    let high (n : Nat) := s.onLlu fun u =>
      { u with queue := [], txen := true, txHeld := n
               sending := some { request := request, run := 2, vehicle := 1 } }
    pendingAt (low 621) = [] ∧ pendingAt (low 622) = [.pointRequestTransmit] ∧
    pendingAt (high (3 * 26665)) = [] ∧ pendingAt (high (3 * 26666)) = [.pointRequestSent] ∧
    loopBit (high 0) = some true ∧ loopBit (high 625) = some false ∧ loopBit s = none := by
  decide +kernel

/-- R73: the level at the handle input waits to be taken as the millisecond ends, and the first sample forms
H. -/
theorem test_handle_sampled :
    let s := part.onCiu fun u => { u with wiperAhead := [512] }
    s.endMilli.pending.head? = some (.handleSample 512) ∧
    (match exec (.handleSample 512) s.endMilli with
      | .next t => t.ciu.handle
      | _ => none) = some 512 := by decide +kernel

/-- R150: a tone written as it begins to sound keeps its frequency to the end of the half-period. -/
theorem test_tone_written :
    let u := (playing part .exterior .horn 0 0).snu
    (u.writeTone 0 1000).toneOutput .exterior = some 392 ∧
    (u.writeTone 0 1000).clock.toneOutput .exterior = some 392 ∧
    ((u.setPlayer .exterior { u.exterior with
      wave := some { tone := 0, high := true, hz := 392, phase := 999990 } }).writeTone 0 1000).clock.toneOutput
        .exterior = some 1000 := by decide +kernel

/-- Worked case 6.5.4: the emergency stop operated in RUN. -/
theorem test_emergency_stop :
    let t := after (.debouncedChange .estop true)
      (steady ((atSpeed driving 200).onTdu fun u => { u with d := 300 }) .estop true)
    t.tdu.state = .emergency ∧ t.tdu.d = -1000 ∧ t.tdu.r = 0 ∧ t.snu.exterior.playing = some .emergency ∧
      (t.cmn.log.newest 1).map (fun e => (e.number, e.info)) =
        [(1, { kind := .emergencyBrake, block := .tdu, value := some 1 })] := by decide +kernel

/-- Worked sequence of Chapter 9, 1300 ms: door 3 pressed again, ACCESSIBLE, while REQUESTED. -/
theorem test_accessible_press :
    let s := (stopIn .requested).onSru fun u =>
      { u with record := { u.record with doors := 0x14, accessible := false, presses := 2 }
               refreshTimer := some 700 }
    let t := after .takeStopPress (received s (pressFrame 3 2))
    t.sru.record.state = .requested ∧ t.sru.record.doors = 0x14#16 ∧ t.sru.record.accessible = true ∧
      t.sru.record.presses = 3 ∧ t.sru.refreshTimer = some 1000 ∧ t.snu.accessChime = true := by
  decide +kernel

/-- Worked sequence of Chapter 10, 300 ms: the bell takes the channel from the warning. -/
theorem test_bell_preempts :
    let s := (withLevel part .key).onSnu fun u =>
      { u with warning := true, exterior := { playing := some .warning, step := 1, elapsed := 150, wave := none } }
    let t := after (.debouncedChange .bell true) (steady s .bell true)
    s.snu.toneOutput .exterior = none ∧ t.snu.exterior.playing = some .bell ∧
      t.snu.toneOutput .exterior = some 1318 ∧ t.snu.warning = true ∧ t.snu.discarded = 0 := by
  decide +kernel

/-- Worked sequence of Chapter 8: the status SET_LEFT of junction 300, locked for our run, lifts the
cap and darkens the ROUTE lamp. -/
theorem test_points_set :
    let t := after (.telegramReceived (identTelegram 1 3)) (atJunction .accepted)
    (t.jcu.contexts.map fun x => (x.state, x.wasSet)) = [(.set, true)] ∧ t.capC 700 = 150 ∧
      (atJunction .accepted).capC 700 = 100 ∧ t.jcu.routeLamp = false := by decide +kernel

/-- Tables of Chapter 1: a one goes high to low, the least significant bit of an octet goes first, and the
start pair C7 1E is told from the fill pairs. -/
theorem test_line_code :
    (lineBits startPair).map manchester =
      (([true, true, true, false, false, false, true, true, false, true, true, true, true, false, false,
        false].map fun b => (b, !b)) : List (Bool × Bool)) ∧
    recognise (lineBits [0xC7, 0x1E]) = .start ∧ recognise (lineBits [0xF0, 0x0F]) = .fill .none ∧
    recognise (lineBits [0x0F, 0xF0]) = .nothing ∧ recognise (lineBits [0xE0, 0xE0]) = .fill .loopdown := by
  decide +kernel

/-- R3, R6: the last bit of the last check octet ends the frame, its octets as they came. -/
theorem test_line_frame_end :
    let f := frameFrom 1 5 0x55 [7, 8]
    let l := frameBody f ++ oct2 f.check.toNat
    let s := receiving.onPort .A fun u =>
      { u with
        front := { u.front with octets := l.take 9, bits := (octetBits (l.getD 9 0)).take 7 }
        line := [manchester ((l.getD 9 0).getLsbD 7)] }
    l.length = 10 ∧ s.portEvents .A = [.frameEnd .A f] ∧
      (s.onPort .A fun u => { u with line := [] }).portEvents .A = [.syncLoss .A] := by decide +kernel

/-- R6, R7: a length octet of 241 ends the frame with LENGTH at its last bit. -/
theorem test_line_length :
    let s := receiving.onPort .A fun u =>
      { u with
        front := { u.front with octets := [5, 1, 0x55, 0x1F, 9], bits := (octetBits 241).take 7 }
        line := [(true, false)] }
    s.portEvents .A = [.lengthError .A] := by decide +kernel

/-- R15: the receiver takes the looped stream from the transmitter's next fill pair; the line is ignored. -/
theorem test_loop_joins :
    let s := (inMode part .A .localLoopback).onPort .A fun u =>
      { u with pos := 3, joined := false, line := [(true, false)] }
    let t := s.onPort .A fun u => { u with pos := 0 }
    (s.clock.port .A).joined = false ∧ (s.clock.port .A).front.valid = 0 ∧
      (t.clock.port .A).joined = true ∧ (t.clock.port .A).front.valid = 1 := by decide +kernel

end Sys2Proof.Tests
end

section
/-! SUPPORT. Rules about pairs, one port, the pool and one bit time, for the statements about the line
ports and the transmitters. -/

namespace Sys2Proof

/-! ### Pairs -/

theorem Both.modify_modify {α : Type} (t : Both α) (p : Port) (f g : α → α) :
    (t.modify p f).modify p g = t.modify p fun x => g (f x) := by
  cases p <;> rfl

theorem Both.get_modify_self {α : Type} (t : Both α) (p : Port) (f : α → α) :
    (t.modify p.other f).get p = t.get p := by
  cases p <;> rfl

/-- Two changes of one entry are the same where they agree on that entry. -/
theorem Both.modify_congr {α : Type} (t : Both α) (p : Port) {f g : α → α} (h : f (t.get p) = g (t.get p)) :
    t.modify p f = t.modify p g := by
  simp only [Both.modify, h]

/-- A change that leaves the entry as it stands changes nothing. -/
theorem Both.modify_eq_self {α : Type} (t : Both α) (p : Port) {f : α → α} (h : f (t.get p) = t.get p) :
    t.modify p f = t := by
  rw [Both.modify, h]; cases p <;> rfl

theorem Tab.ext {α : Type} {n : Nat} {t u : Tab α n} (h : t.data = u.data) : t = u := by
  cases t; cases u; cases h; rfl

theorem Tab.get_fill {α : Type} (n i : Nat) (x d : α) : (Tab.fill n x).get i d = if i < n then x else d := by
  simp only [Tab.get, Tab.fill, List.getD, List.getElem?_replicate]
  split <;> rfl

/-- An entry written as it stands changes nothing. -/
theorem Tab.set_get {α : Type} {n : Nat} (t : Tab α n) (i : Nat) (d : α) : t.set i (t.get i d) = t := by
  by_cases h : i < n
  · exact Tab.ext (by simp [Tab.set, Tab.get, t.size, h])
  · exact Tab.set_outside t i _ (Nat.le_of_not_lt h)

theorem Tab.set_set {α : Type} {n : Nat} (t : Tab α n) (i : Nat) (x y : α) :
    (t.set i x).set i y = t.set i y := by
  apply Tab.ext; simp [Tab.set]

end Sys2Proof

namespace Sys2Proof.Machine

/-! ### One port -/

theorem State.onPort_onPort (s : State) (p : Port) (f g : LinePort → LinePort) :
    (s.onPort p f).onPort p g = s.onPort p fun u => g (f u) := by
  simp only [State.onPort, Both.modify_modify]

/-- Two changes of a port are the same where they agree on the port as it stands. -/
theorem State.onPort_congr {s : State} {p : Port} {f g : LinePort → LinePort}
    (h : f (s.port p) = g (s.port p)) : s.onPort p f = s.onPort p g := by
  simp only [State.onPort, Both.modify_congr _ _ h]

theorem LinePort.receiving_frame {u : LinePort} {b : Option Nat} (h : u.rx = .frame b) : u.receiving = b := by
  simp only [LinePort.receiving, h]

theorem LinePort.receiving_hunt {u : LinePort} (h : u.rx = .hunt) : u.receiving = none := by
  simp only [LinePort.receiving, h]

theorem LinePort.inFrame_hunt {u : LinePort} (h : u.rx = .hunt) : u.inFrame = false := by
  simp only [LinePort.inFrame, h]

/-- A receiver in FRAME, with a buffer or without. -/
theorem LinePort.rx_of_inFrame {u : LinePort} (h : u.inFrame = true) : ∃ b, u.rx = .frame b := by
  cases hr : u.rx with
  | frame b => exact ⟨b, rfl⟩
  | down => simp [LinePort.inFrame, hr] at h
  | hunt => simp [LinePort.inFrame, hr] at h

/-- An event heard is admitted (R15). -/
theorem LinePort.admits_iff {u : LinePort} {c : Instr} : u.admits c = true ↔ u.Heard c := by
  simp only [LinePort.admits, LinePort.Heard, decide_eq_true_eq]

/-- Where the receiver hears the line, every event of it is admitted (R14). -/
theorem LinePort.heard_of_mode_ne {u : LinePort} {c : Instr} (h : u.mode ≠ .localLoopback) : u.Heard c :=
  fun k => absurd k h

theorem State.releaseReception_eq (s : State) (p : Port) :
    s.releaseReception p = { s with bqm := s.bqm.letGo (s.port p).receiving } := by
  unfold State.releaseReception Bqm.letGo
  cases (s.port p).receiving <;> rfl

/-! ### The pool -/

/-- A free buffer taken lowers the free count by one (R41). -/
theorem Bqm.freeCount_take {q : Bqm} {b : Nat} (hb : b < 96) (hf : (q.buffer b).refs = 0) :
    (q.take b).freeCount + 1 = q.freeCount := by
  have hlt : b < q.pool.data.length := by rw [q.pool.size]; exact hb
  have hget : q.pool.data[b].refs = 0 := by
    simpa [Bqm.buffer, Tab.get, List.getD, hlt] using hf
  have hpos : 0 < q.pool.data.countP fun x => x.refs == 0 :=
    List.countP_pos_iff.2 ⟨_, List.getElem_mem hlt, by simp [hget]⟩
  simp only [Bqm.freeCount, Bqm.take, Tab.set, ← List.countP_eq_length_filter, List.countP_set hlt, hget]
  simp only [BEq.rfl, if_true]
  have : ((1 : Nat) == 0) = false := rfl
  simp only [this]
  simp only [Bool.false_eq_true, if_false]
  omega

/-! ### What is found in one bit time -/

/-- What a port finds in one bit time does not depend on the bit time of the other port. -/
theorem State.portEvents_clockPort (s : State) : (s.clockPort .A).portEvents .B = s.portEvents .B := rfl

/-- What a port finds in a bit time waits to be taken behind it (log entry 24). -/
theorem step_finds {s : State} {p : Port} {c : Instr} (h : s.pending = []) (hc : c ∈ s.portEvents p) :
    ∃ t, step s = .next t ∧ c ∈ t.pending := by
  refine ⟨s.clock, by simp only [step, h], ?_⟩
  unfold State.clock
  rw [State.countMicro_pending]
  refine List.mem_append_left _ ?_
  change c ∈ (((s.clockPort .A).clockPort .B).pending ++ _)
  refine List.mem_append_left _ ?_
  change c ∈ (s.pending ++ s.portEvents .A) ++ (s.clockPort .A).portEvents .B
  rw [State.portEvents_clockPort]
  cases p
  · exact List.mem_append_left _ (List.mem_append_right _ hc)
  · exact List.mem_append_right _ hc

/-- In NORMAL and REMOTE_LOOPBACK the receiver hears the line (R14). -/
theorem State.receiveBit_line {s : State} {p : Port}
    (h : (s.port p).mode = .normal ∨ (s.port p).mode = .remoteLoopback) :
    s.receiveBit p = s.hear p (s.port p).lineNow := by
  have hi : s.receiverInput p = some (s.port p).lineNow := by
    unfold State.receiverInput
    rcases h with h | h <;> rw [h]
  simp only [State.receiveBit, hi]

theorem LinePort.lineNow_of_head {u : LinePort} {x : Bool × Bool} (h : u.line.head? = some x) :
    u.lineNow = x := by
  simp only [LinePort.lineNow, List.headD_eq_head?_getD, h, Option.getD_some]

/-- An event that the receiver finds on the line in a bit time waits to be taken behind it. -/
theorem step_hears {s : State} {p : Port} {c : Instr} {x : Bool × Bool} (h : s.pending = [])
    (hm : (s.port p).mode = .normal ∨ (s.port p).mode = .remoteLoopback)
    (hx : (s.port p).lineNow = x) (hc : (s.hear p x).2 = some c) :
    ∃ t, step s = .next t ∧ c ∈ t.pending := by
  refine step_finds h (p := p) ?_
  unfold State.portEvents
  rw [State.receiveBit_line hm, hx, hc]
  exact List.mem_append_left _ (List.mem_singleton.2 rfl)

/-- A receiver in DOWN finds its way up at the sixteenth valid bit time in a row (R4). -/
theorem State.hear_down {s : State} {p : Port} {x : Bool × Bool} (hr : (s.port p).rx = .down)
    (hv : ((s.port p).front.signal (validBitTime x)).valid = 16) : (s.hear p x).2 = some (.receiverUp p) := by
  simp only [State.hear, hr, if_true, hv, LinePort.finding]

/-- A receiver that is not in DOWN finds silence at the thousandth bit time without a valid one (R4). -/
theorem State.hear_silent {s : State} {p : Port} {x : Bool × Bool} (hr : (s.port p).rx ≠ .down)
    (hv : ((s.port p).front.signal (validBitTime x)).silent = 1000) :
    (s.hear p x).2 = some (.receiverDown p) := by
  simp only [State.hear, hr, if_false, hv, if_true, LinePort.finding]

/-- A receiver in FRAME finds SYNC_LOSS at a bit time with no transition at its middle (R1, R7). -/
theorem State.hear_violation {s : State} {p : Port} {h : Bool} (hf : (s.port p).inFrame = true)
    (hs : (s.port p).front.silent < 999) : (s.hear p (h, h)).2 = some (.syncLoss p) := by
  obtain ⟨b, hr⟩ := LinePort.rx_of_inFrame hf
  have hv : validBitTime (h, h) = false := by simp [validBitTime]
  have hsil : ((s.port p).front.signal false).silent ≠ 1000 := by
    simp only [Front.signal, Bool.false_eq_true, if_false]; omega
  simp only [State.hear, hv, hr, reduceCtorEq, if_false, hsil, hf, if_true, Bool.false_eq_true,
    LinePort.frameBit, LinePort.finding]

/-- A receiver in HUNT that hears a bit finds what its search finds (R5). -/
theorem State.hear_hunt {s : State} {p : Port} {b : Bool} (hr : (s.port p).rx = .hunt) :
    (s.hear p (b, !b)).2 = s.searchEvent p (some b) := by
  have hv : validBitTime (b, !b) = true := by cases b <;> rfl
  have hsil : ((s.port p).front.signal true).silent ≠ 1000 := by simp [Front.signal]
  simp only [State.hear, hv, hr, reduceCtorEq, if_false, hsil, LinePort.inFrame_hunt hr, Bool.false_eq_true,
    if_true, State.huntBit, LinePort.finding]

end Sys2Proof.Machine
end

section
/-! SUPPORT. What the commands of a receiver do, case by case, and the statements about them. -/

namespace Sys2Proof.Machine

/-! ### The start of a frame -/

theorem exec_frameStart {s : State} {p : Port} (hr : (s.port p).rx = .hunt)
    (hh : (s.port p).Heard (.frameStart p)) : exec (.frameStart p) s = .next (s.startFrame p) :=
  congrArg _ (if_pos ⟨hr, LinePort.admits_iff.2 hh⟩)

/-- While more than 8 buffers are free the pool has one to give (R42). -/
theorem Bqm.firstFree_of_pos {q : Bqm} (h : 0 < q.freeCount) : ∃ b, q.firstFree = some b := by
  cases hf : q.firstFree with
  | some b => exact ⟨b, rfl⟩
  | none => exact absurd (Bqm.firstFree_none.1 hf) (Nat.pos_iff_ne_zero.1 h)

theorem State.startFrame_given {s : State} {p : Port} {b : Nat} (h : 8 < s.bqm.freeCount)
    (hb : s.bqm.firstFree = some b) : s.startFrame p = s.beginFrame p b := by
  simp only [State.startFrame, h, if_true, hb]

theorem State.startFrame_skipped {s : State} {p : Port} (h : s.bqm.freeCount ≤ 8) :
    s.startFrame p = s.beginSkip p := by
  simp only [State.startFrame, Nat.not_lt.2 h, if_false]

theorem State.beginSkip_eq (s : State) (p : Port) :
    s.beginSkip p = { s with
      ports := s.ports.modify p fun u =>
        { u with rx := .frame none, persistence := none, front := u.front.restart
                 latches := { u.latches with overrun := true } }
      cmn := s.cmn.count .buffer } := by
  unfold State.beginSkip State.setRx
  rw [State.onPort_onPort]
  rfl

theorem exec_skippedFrameEnd {s : State} {p : Port} (hr : (s.port p).rx = .frame none)
    (hh : (s.port p).Heard (.skippedFrameEnd p)) :
    exec (.skippedFrameEnd p) s =
      .next ((s.setRx p .hunt).onPort p fun u => { u with discarded := bump u.discarded }) :=
  congrArg _ (if_pos ⟨hr, LinePort.admits_iff.2 hh⟩)

/-- An event that the looped stream has not brought about changes nothing (R15). -/
theorem exec_unheard {s : State} {p : Port} {c : Instr} (h : ¬ (s.port p).Heard c)
    (hc : c = .frameStart p ∨ c = .skippedFrameEnd p ∨ c = .lengthError p ∨ c = .syncLoss p ∨
      ∃ f, c = .frameEnd p f) : exec c s = .next s := by
  have hn : ¬ (s.port p).admits c = true := fun k => h (LinePort.admits_iff.1 k)
  rcases hc with rfl | rfl | rfl | rfl | ⟨f, rfl⟩
  · exact congrArg _ (if_neg fun k => hn k.2)
  · exact congrArg _ (if_neg fun k => hn k.2)
  · exact congrArg _ (if_neg fun k => hn k.2)
  · exact congrArg _ (if_neg fun k => hn k.2)
  · change execFrameEnd p f s = _
    unfold execFrameEnd
    cases (s.port p).receiving with
    | none => rfl
    | some b => exact congrArg _ (if_neg fun k => hn k.2)

/-- The last bit of the start pair, heard behind its other fifteen, is the start of a frame (R2, R5). -/
theorem State.searchEvent_start {s : State} {p : Port}
    (h : (s.port p).front.bits = (lineBits [0xC7, 0x1E]).take 15) :
    s.searchEvent p (some false) = some (.frameStart p) := by
  have hw : (s.port p).front.search (some false) = .start := by
    simp only [Front.search, Front.window, h]
    decide
  simp only [State.searchEvent, hw]

/-- Settles O5: each clause is the command's own case; the line's clause goes through the bit time. -/
theorem framesStartWithABufferOrAreSkipped : Obligations.FramesStartWithABufferOrAreSkipped := by
  refine ⟨?given, ?skipped, ?skipEnds, ?unheard, ?found⟩
  case given =>
    intro p s hr hh hfree
    obtain ⟨b, hb⟩ := Bqm.firstFree_of_pos (Nat.lt_of_le_of_lt (Nat.zero_le 8) hfree)
    obtain ⟨hlt, hz⟩ := Bqm.firstFree_some hb
    refine ⟨b, s.beginFrame p b, hlt, hz, ?_, rfl, Bqm.freeCount_take hlt hz⟩
    rw [exec_frameStart hr hh, State.startFrame_given hfree hb]
  case skipped =>
    intro p s hr hh hfree
    rw [exec_frameStart hr hh, State.startFrame_skipped hfree, State.beginSkip_eq]
  case skipEnds =>
    intro p s hr hh
    rw [exec_skippedFrameEnd hr hh, State.setRx, State.onPort_onPort]
    rfl
  case unheard =>
    intro p c s hm hf hc
    exact exec_unheard (fun k => hf (k hm)) hc
  case found =>
    intro p s hq hr hm hb hl
    refine step_hears hq hm (LinePort.lineNow_of_head hl) ?_
    rw [show (false, true) = (false, !false) from rfl, State.hear_hunt hr, State.searchEvent_start hb]

/-! ### Line errors -/

theorem State.lineError_hunt (s : State) (p : Port) (latch : Latches → Latches) :
    s.lineError p latch .hunt = { s with
      ports := s.ports.modify p fun u =>
        { u with rx := .hunt, persistence := none, front := u.front.restart, discarded := bump u.discarded
                 latches := latch u.latches }
      bqm := s.bqm.letGo (s.port p).receiving
      cmn := s.cmn.count (lineAttr p) } := by
  unfold State.lineError State.setRx
  rw [State.onPort_onPort, State.releaseReception_eq]
  rfl

theorem exec_lengthError {s : State} {p : Port} (hf : (s.port p).inFrame = true)
    (hh : (s.port p).Heard (.lengthError p)) :
    exec (.lengthError p) s = .next (s.lineError p (fun l => { l with length := true }) .hunt) :=
  congrArg _ (if_pos ⟨hf, LinePort.admits_iff.2 hh⟩)

theorem exec_syncLoss {s : State} {p : Port} (hf : (s.port p).inFrame = true)
    (hh : (s.port p).Heard (.syncLoss p)) :
    exec (.syncLoss p) s = .next (s.lineError p (fun l => { l with syncLoss := true }) .hunt) :=
  congrArg _ (if_pos ⟨hf, LinePort.admits_iff.2 hh⟩)

theorem exec_frameEnd {s : State} {p : Port} {f : Frame} {b : Nat} (hr : (s.port p).rx = .frame (some b))
    (hh : (s.port p).Heard (.frameEnd p f)) (hl : f.payload.length ≤ 240) :
    exec (.frameEnd p f) s = .next (s.endFrame p b f) := by
  change execFrameEnd p f s = _
  unfold execFrameEnd
  rw [LinePort.receiving_frame hr]
  exact congrArg _ (if_pos ⟨hl, LinePort.admits_iff.2 hh⟩)

/-- Settles O6: the three errors are one operation with three latches. -/
theorem lineErrorsDiscardTheFrame : Obligations.LineErrorsDiscardTheFrame := by
  refine ⟨?length, ?sync, ?check, ?found⟩
  case length =>
    intro p s hf hh
    rw [exec_lengthError hf hh, State.lineError_hunt]
  case sync =>
    intro p s hf hh
    rw [exec_syncLoss hf hh, State.lineError_hunt]
  case check =>
    intro p f s b hr hh hl hc
    have hrec : ((s.onBqm fun q => q.write b f).port p).receiving = some b :=
      LinePort.receiving_frame (u := s.port p) hr
    rw [exec_frameEnd hr hh hl, State.endFrame, if_neg hc, State.lineError_hunt, hrec]
    rfl
  case found =>
    intro p s h hq hf hs hm hl
    exact step_hears hq hm (LinePort.lineNow_of_head hl) (State.hear_violation hf hs)

/-! ### The receiver down and up -/

theorem exec_receiverDown {s : State} {p : Port} (hr : (s.port p).rx ≠ .down)
    (hm : (s.port p).mode ≠ .localLoopback) : exec (.receiverDown p) s = .next (s.goDown p) :=
  congrArg _ (if_pos ⟨hr, hm⟩)

theorem exec_receiverUp {s : State} {p : Port} (hr : (s.port p).rx = .down)
    (hm : (s.port p).mode ≠ .disabled) (hh : (s.port p).Heard (.receiverUp p)) :
    exec (.receiverUp p) s = .next ((s.setRx p .hunt).log (portEntry .portUp p)) :=
  congrArg _ (if_pos ⟨hr, hm, LinePort.admits_iff.2 hh⟩)

/-- The receiver's way down, with the events counted where a frame is lost (R4, R7, R163). -/
theorem State.goDown_eq (s : State) (p : Port) :
    s.goDown p = { s with
      ports := s.ports.modify p fun u =>
        { u with rx := .down, persistence := none, front := Front.start
                 latches := { u.latches with downSeen := true }
                 discarded := if (s.port p).inFrame then bump u.discarded else u.discarded }
      fsw := s.fsw.forget p
      bqm := s.bqm.letGo (s.port p).receiving
      cmn :=
        if (s.port p).inFrame then
          (s.cmn.note { kind := .portDown, block := portBlock p, port := some p }).count (lineAttr p)
        else s.cmn.note { kind := .portDown, block := portBlock p, port := some p } } := by
  unfold State.goDown State.setRx
  simp only
  rw [State.onPort_onPort, State.releaseReception_eq]
  cases (s.port p).inFrame <;> rfl

/-- The sides that name a port are forgotten, and no other (R4, R23). -/
theorem Fsw.side_forget (w : Fsw) (p : Port) (a : Addr) :
    (w.forget p).side a = if w.side a = some p then none else w.side a := by
  have hn : (w.forget p).node a =
      if (w.node a).learned.map (fun l => l.side) = some p then { w.node a with learned := none }
      else w.node a :=
    Tab.get_map (fun e : NodeEntry =>
      if e.learned.map (fun l => l.side) = some p then ({ e with learned := none } : NodeEntry) else e)
      w.nodes a.toNat NodeEntry.powerOn
  unfold Fsw.side
  rw [hn]
  split <;> simp_all

/-- Settles O10: RECEIVER_DOWN by the way down, RECEIVER_UP by its one case, both found by a bit time. -/
theorem receiverDownAndUp : Obligations.ReceiverDownAndUp := by
  refine ⟨?hunt, ?frame, Fsw.side_forget, ?up, ?found⟩
  case hunt =>
    intro p s hr hm
    rw [exec_receiverDown (by simp [hr]) hm, State.goDown_eq, LinePort.inFrame_hunt hr,
      LinePort.receiving_hunt hr]
    rfl
  case frame =>
    intro p s hf hm
    obtain ⟨b, hr⟩ := LinePort.rx_of_inFrame hf
    rw [exec_receiverDown (by simp [hr]) hm, State.goDown_eq, hf]
    rfl
  case up =>
    intro p s hr hm hh
    rw [exec_receiverUp hr hm hh]
    rfl
  case found =>
    intro p s hq hm
    refine ⟨fun b hr hv hl => ?_, fun hr hs hl => ?_⟩
    · refine step_hears hq hm (LinePort.lineNow_of_head hl) (State.hear_down hr ?_)
      have hb : validBitTime (b, !b) = true := by cases b <;> rfl
      simp [Front.signal, hb, hv]
    · have hn : (s.port p).lineNow = (false, false) := by simp [LinePort.lineNow, hl]
      exact step_hears hq hm hn (State.hear_silent hr (by simp [Front.signal, validBitTime, hs]))

end Sys2Proof.Machine
end

section
/-! SUPPORT. What a good frame brings about: its acceptance, the screen and the classification of R29, and
the statements about the frames that are dropped. -/

namespace Sys2Proof.Machine

/-! ### A good frame accepted -/

/-- The part once a good frame has been counted, its octets in its buffer, and before it is disposed of. -/
def State.accepted (s : State) (p : Port) (b : Nat) (f : Frame) : State :=
  { s with
    ports := s.ports.modify p fun u =>
      { u with rx := .hunt, persistence := none, front := u.front.restart, good := bump u.good }
    bqm := s.bqm.write b f }

/-- The frame `f` ends good in buffer `b` at port `p`, heard there. -/
def State.EndsGood (s : State) (p : Port) (b : Nat) (f : Frame) : Prop :=
  (s.port p).rx = .frame (some b) ∧ (s.port p).Heard (.frameEnd p f) ∧ f.payload.length ≤ 240 ∧
    f.check = frameCheck f

theorem State.endFrame_good {s : State} {p : Port} {b : Nat} {f : Frame} (hc : f.check = frameCheck f) :
    s.endFrame p b f = (s.accepted p b f).dispose p b f := by
  unfold State.endFrame State.goodFrame State.setRx
  simp only [if_pos hc]
  rw [State.onPort_onPort]
  rfl

theorem exec_frameEnd_good {s : State} {p : Port} {b : Nat} {f : Frame} (h : s.EndsGood p b f) :
    exec (.frameEnd p f) s = .next ((s.accepted p b f).dispose p b f) := by
  obtain ⟨hr, hh, hl, hc⟩ := h
  rw [exec_frameEnd hr hh hl, State.endFrame_good hc]

/-- What a good frame changes at its port. -/
theorem State.accepted_port (s : State) (p : Port) (b : Nat) (f : Frame) :
    (s.accepted p b f).port p =
      { s.port p with rx := .hunt, persistence := none, front := (s.port p).front.restart
                      good := bump (s.port p).good } :=
  Both.get_modify_same _ _ _

theorem State.accepted_port_other (s : State) (p : Port) (b : Nat) (f : Frame) :
    (s.accepted p b f).port p.other = s.port p.other :=
  Both.get_modify_other _ _ _

theorem State.accepted_mode (s : State) (p : Port) (b : Nat) (f : Frame) :
    ((s.accepted p b f).port p).mode = (s.port p).mode := by
  rw [State.accepted_port]

/-- The frame goes to the Frame Switch: in NORMAL, and in LOCAL_LOOPBACK where another part sent it (R10,
R15). -/
def State.Switches (s : State) (p : Port) (f : Frame) : Prop :=
  (s.port p).mode = .normal ∨ ((s.port p).mode = .localLoopback ∧ addrOf f.src ≠ s.own)

theorem exec_frameEnd_switched {s : State} {p : Port} {b : Nat} {f : Frame} (h : s.EndsGood p b f)
    (hm : s.Switches p f) : exec (.frameEnd p f) s = .next ((s.accepted p b f).classify p b f) := by
  rw [exec_frameEnd_good h]
  unfold State.dispose
  rw [State.accepted_mode]
  rcases hm with hm | ⟨hm, ho⟩
  · rw [hm]
  · rw [hm]
    exact congrArg _ (if_neg ho)

/-! ### The screen (R29, steps 1 to 3) -/

theorem State.screen_broadcast {s : State} {f : Frame} (h : addrOf f.src = broadcast) :
    s.screen f = some .malformed :=
  if_pos h

theorem State.screen_own {s : State} {f : Frame} (hb : addrOf f.src ≠ broadcast) (ho : addrOf f.src = s.own) :
    s.screen f = some .ownSource := by
  rw [State.screen, if_neg hb, if_pos ho]

theorem State.screen_refused {s : State} {f : Frame} (hb : addrOf f.src ≠ broadcast)
    (ho : addrOf f.src ≠ s.own) (hn : (s.fsw.node (addrOf f.src)).role = .none) :
    s.screen f = some .refused := by
  rw [State.screen, if_neg hb, if_neg ho, if_pos hn]

theorem State.screen_passes {s : State} {f : Frame} (hb : addrOf f.src ≠ broadcast)
    (ho : addrOf f.src ≠ s.own) (hn : (s.fsw.node (addrOf f.src)).role ≠ .none) : s.screen f = none := by
  rw [State.screen, if_neg hb, if_neg ho, if_neg hn]

/-! ### The destinations (R29, steps 5 to 7) -/

theorem State.addressed_iff {s : State} : s.addressed = true ↔ s.own ≠ broadcast := by
  simp only [State.addressed, decide_eq_true_eq]

theorem State.destinations_self {s : State} {p : Port} {f : Frame} (ha : s.own ≠ broadcast)
    (hd : addrOf f.dest = s.own) : s.destinations p f = .pass (s.acceptsLocal f) false :=
  if_pos ⟨State.addressed_iff.2 ha, hd⟩

/-- A frame that is not addressed to this part. -/
theorem not_forThisPart {s : State} {f : Frame} (hd : s.own = broadcast ∨ addrOf f.dest ≠ s.own) :
    ¬ (s.addressed = true ∧ addrOf f.dest = s.own) := by
  rintro ⟨ha, h⟩
  exact hd.elim (State.addressed_iff.1 ha) fun k => k h

theorem State.destinations_tooLong {s : State} {p : Port} {f : Frame}
    (hd : s.own = broadcast ∨ addrOf f.dest ≠ s.own)
    (hl : (s.fsw.class f.kind).maxPayload < f.payload.length) : s.destinations p f = .tooLong := by
  rw [State.destinations, if_neg (not_forThisPart hd), if_pos hl]

theorem State.destinations_class {s : State} {p : Port} {f : Frame}
    (hd : s.own = broadcast ∨ addrOf f.dest ≠ s.own)
    (hl : f.payload.length ≤ (s.fsw.class f.kind).maxPayload) :
    s.destinations p f =
      .pass (((s.fsw.class f.kind).action s.cru.role).copies && s.acceptsLocal f)
        (((s.fsw.class f.kind).action s.cru.role).forwards && s.mayForward p f) := by
  rw [State.destinations, if_neg (not_forThisPart hd), if_neg (Nat.not_lt.2 hl)]

/-! ### The learning of a source (R22) -/

theorem Addr.toNat_lt_iff (a : Addr) : a.toNat < 63 ↔ a ≠ broadcast := by
  have h : a = broadcast ↔ a.toNat = 63 := by
    rw [← BitVec.toNat_inj]; rfl
  have := a.isLt
  rw [ne_eq, h]
  omega

/-- Of the Node Table a change of one node changes that node's entry alone. -/
theorem Fsw.node_onNode (w : Fsw) (a c : Addr) (g : NodeEntry → NodeEntry) :
    (w.onNode a g).node c = if c = a ∧ a ≠ broadcast then g (w.node a) else w.node c := by
  unfold Fsw.node Fsw.onNode
  simp only
  by_cases hb : a = broadcast
  · have hlt : ¬ a.toNat < 63 := fun k => (Addr.toNat_lt_iff a).1 k hb
    rw [if_neg (fun k => k.2 hb), Tab.set_outside _ _ _ (Nat.le_of_not_lt hlt)]
  · by_cases hc : c = a
    · rw [if_pos ⟨hc, hb⟩, hc, Tab.get_set_same _ _ _ _ ((Addr.toNat_lt_iff a).2 hb)]
      rfl
    · rw [if_neg (fun k => hc k.1), Tab.get_set_ne]
      exact fun k => hc (BitVec.toNat_inj.1 k).symm

theorem Fsw.learn_role (w : Fsw) (a c : Addr) (p : Port) : ((w.learn a p).node c).role = (w.node c).role := by
  rw [Fsw.learn, Fsw.node_onNode]
  split
  · next h => rw [h.1]
  · rfl

theorem Fsw.learn_priority (w : Fsw) (a c : Addr) (p : Port) :
    ((w.learn a p).node c).priority = (w.node c).priority := by
  rw [Fsw.learn, Fsw.node_onNode]
  split
  · next h => rw [h.1]
  · rfl

theorem Fsw.side_learn_self {w : Fsw} {a : Addr} {p : Port} (h : a ≠ broadcast) :
    (w.learn a p).side a = some p := by
  rw [Fsw.side, Fsw.learn, Fsw.node_onNode, if_pos ⟨rfl, h⟩]
  rfl

theorem Fsw.side_learn_ne {w : Fsw} {a c : Addr} {p : Port} (h : c ≠ a) :
    (w.learn a p).side c = w.side c := by
  rw [Fsw.side, Fsw.learn, Fsw.node_onNode, if_neg fun k => h k.1]
  rfl

/-! ### Classification -/

/-- The part once a good frame has been counted and its source learned. -/
def State.learned (s : State) (p : Port) (b : Nat) (f : Frame) : State :=
  (s.accepted p b f).onFsw fun w => w.learn (addrOf f.src) p

/-- A frame that passes the screen and is not too long is handed on to its destinations (R29, R33). -/
theorem State.classify_passed {s : State} {p : Port} {b : Nat} {f : Frame} {l g : Bool}
    (hs : s.screen f = none)
    (hd : (s.onFsw fun w => w.learn (addrOf f.src) p).destinations p f = .pass l g) :
    s.classify p b f =
      ((s.onFsw fun w => w.learn (addrOf f.src) p).handOn p b f l g).onBqm fun q => q.release b := by
  simp only [State.classify, hs, hd]

theorem State.classify_malformed {s : State} {p : Port} {b : Nat} {f : Frame}
    (hs : s.screen f = some .malformed) :
    s.classify p b f =
      (s.onFsw fun w => w.onStats p fun x => { x with malformed := bump x.malformed }).onBqm
        fun q => q.release b := by
  simp only [State.classify, hs]

theorem State.classify_refused {s : State} {p : Port} {b : Nat} {f : Frame}
    (hs : s.screen f = some .refused) :
    s.classify p b f =
      (s.onFsw fun w => w.onStats p fun x => { x with refused := bump x.refused }).onBqm
        fun q => q.release b := by
  simp only [State.classify, hs]

theorem State.classify_ownSource {s : State} {p : Port} {b : Nat} {f : Frame}
    (hs : s.screen f = some .ownSource) :
    s.classify p b f = (s.ownSourceSeen p).onBqm fun q => q.release b := by
  simp only [State.classify, hs]

theorem State.classify_tooLong {s : State} {p : Port} {b : Nat} {f : Frame} (hs : s.screen f = none)
    (hd : (s.onFsw fun w => w.learn (addrOf f.src) p).destinations p f = .tooLong) :
    s.classify p b f =
      ((s.onFsw fun w => w.learn (addrOf f.src) p).onFsw
        fun w => w.onStats p fun x => { x with malformed := bump x.malformed }).onBqm
          fun q => q.release b := by
  simp only [State.classify, hs, hd]

/-- An own-source frame outside a hold is counted and logged, and a hold begins (R30). -/
theorem State.ownSourceSeen_logged {s : State} {p : Port} (h : (s.fsw.stats.get p).hold = none) :
    s.ownSourceSeen p = { s with
      fsw := { s.fsw with
        stats := s.fsw.stats.modify p fun x =>
          { x with ownSource := bump x.ownSource, hold := some 10000 } }
      cmn := s.cmn.note
        { kind := .loopDetected, block := .fsw, node := some s.own, port := some p } } := by
  unfold State.ownSourceSeen State.onFsw Fsw.onStats
  simp only [h, Option.isSome_none, Bool.false_eq_true, if_false, Both.modify_modify]
  rfl

/-- An own-source frame in a hold is counted alone (R30). -/
theorem State.ownSourceSeen_held {s : State} {p : Port} {n : Nat} (h : (s.fsw.stats.get p).hold = some n) :
    s.ownSourceSeen p =
      s.onFsw fun w => w.onStats p fun x => { x with ownSource := bump x.ownSource } := by
  simp only [State.ownSourceSeen, h, Option.isSome_some, if_true]

/-- Settles O7: each drop is one verdict of the screen, the looped own frame one of the mode. -/
theorem ownSourceFramesAreDropped : Obligations.OwnSourceFramesAreDropped := by
  refine ⟨?own, ?looped, ?others⟩
  case own =>
    intro p f s b hr hm hl hc ho hb
    have hg : s.EndsGood p b f := ⟨hr, LinePort.heard_of_mode_ne (by simp [hm]), hl, hc⟩
    have hs : (s.accepted p b f).screen f = some .ownSource :=
      State.screen_own (by rw [ho]; exact hb) ho
    rw [exec_frameEnd_switched hg (.inl hm), State.classify_ownSource hs]
    refine ⟨fun hh => ?_, fun n hh => ?_⟩
    · rw [State.ownSourceSeen_logged (s := s.accepted p b f) hh]
      rfl
    · rw [State.ownSourceSeen_held (s := s.accepted p b f) hh]
      rfl
  case looped =>
    intro p f s b hr hm hf hl hc ho
    rw [exec_frameEnd_good ⟨hr, fun _ => hf, hl, hc⟩, State.dispose, State.accepted_mode, hm]
    exact congrArg _ (if_pos ho)
  case others =>
    rintro p f s t b hr hm hl hc rfl
    have hg : s.EndsGood p b f := ⟨hr, LinePort.heard_of_mode_ne (by simp [hm]), hl, hc⟩
    rw [exec_frameEnd_switched hg (.inl hm)]
    refine ⟨fun hb => ?_, fun hb ho hn => ?_, fun hb ho hn hd hx => ?_⟩
    · rw [State.classify_malformed (State.screen_broadcast hb)]
      rfl
    · rw [State.classify_refused (State.screen_refused (s := s.accepted p b f) hb ho hn)]
      rfl
    · rw [State.classify_tooLong (State.screen_passes (s := s.accepted p b f) hb ho hn)
        (State.destinations_tooLong (s := s.learned p b f) hd hx)]
      rfl

end Sys2Proof.Machine
end

section
/-! SUPPORT. The copies of a frame that the Frame Switch makes: which of the two it makes, and what each
of them leaves in the Buffer and Queue Manager. -/

namespace Sys2Proof.Machine

/-! ### The buffers -/

theorem Bqm.buffer_write_same {q : Bqm} {b : Nat} {f : Frame} (h : b < 96) :
    (q.write b f).buffer b = { q.buffer b with frame := f } :=
  Tab.get_set_same _ b _ _ h

theorem Bqm.buffer_retain_same {q : Bqm} {b : Nat} (h : b < 96) :
    (q.retain b).buffer b = { q.buffer b with refs := (q.buffer b).refs + 1 } :=
  Tab.get_set_same _ b _ _ h

/-- A reference given and released again leaves the pool as it was (R41). -/
theorem Bqm.release_retain {q : Bqm} {b : Nat} (h : b < 96) : (q.retain b).release b = q := by
  have hb : { (q.retain b).buffer b with refs := ((q.retain b).buffer b).refs - 1 } = q.buffer b := by
    rw [Bqm.buffer_retain_same h]; rfl
  unfold Bqm.release
  rw [hb]
  simp only [Bqm.retain, Tab.set_set]
  simp only [Bqm.buffer, Tab.set_get]

/-! ### One queue -/

theorem Egress.queue_onQueue_same {e : Egress} {n : Nat} {g : EgressQueue → EgressQueue} (h : n < 4) :
    (e.onQueue n g).queue n = g (e.queue n) :=
  Tab.get_set_same _ n _ _ h

theorem Egress.queue_onQueue_ne {e : Egress} {n m : Nat} {g : EgressQueue → EgressQueue} (h : m ≠ n) :
    (e.onQueue n g).queue m = e.queue m :=
  Tab.get_set_ne _ n m _ _ h.symm

/-- What a change of one queue leaves in each of the four. -/
theorem Egress.queue_onQueue {e : Egress} {n m : Nat} {g : EgressQueue → EgressQueue} (h : m < 4) :
    (e.onQueue n g).queue m = if m = n then g (e.queue m) else e.queue m := by
  split
  · next k => rw [k] at h ⊢; exact Egress.queue_onQueue_same h
  · next k => exact Egress.queue_onQueue_ne k

/-! ### Which copies are made -/

/-- What a consumer asks of a frame: an addressed part, a CONTROL frame only to this part, and a source of the
consumer's role or ANY (R31, R34). -/
theorem State.acceptsLocal_iff {s : State} {f : Frame} :
    s.acceptsLocal f = true ↔ s.own ≠ broadcast ∧ (f.kind ≠ kindControl ∨ addrOf f.dest = s.own) ∧
      ∃ r, consumerRole f.kind = some r ∧
        ((s.fsw.node (addrOf f.src)).role = r ∨ (s.fsw.node (addrOf f.src)).role = .any) := by
  unfold State.acceptsLocal
  cases consumerRole f.kind with
  | none => simp
  | some r =>
    simp only [Bool.and_eq_true, Bool.or_eq_true, decide_eq_true_eq, State.addressed_iff, Option.some.injEq,
      exists_eq_left']
    constructor
    · rintro ⟨⟨ha, hr⟩, hk⟩; exact ⟨ha, hk, hr⟩
    · rintro ⟨ha, hk, hr⟩; exact ⟨⟨ha, hr⟩, hk⟩

/-- The conditions of a forwarded copy (R32). -/
theorem State.mayForward_iff {s : State} {p : Port} {f : Frame} :
    s.mayForward p f = true ↔ frameHop f ≠ 0 ∧
      (addrOf f.dest = broadcast ∨ s.fsw.side (addrOf f.dest) ≠ some p) ∧
      (s.port p.other).mode.closed = false ∧ (s.port p.other).rx ≠ .down := by
  unfold State.mayForward
  simp only [Bool.and_eq_true, decide_eq_true_eq, Bool.not_eq_true', Bool.and_eq_false_iff,
    decide_eq_false_iff_not, ne_eq, not_not]
  tauto

/-- The acceptance of a frame and the learning of its source do not touch whether a consumer accepts it. -/
theorem State.acceptsLocal_learned (s : State) (p : Port) (b : Nat) (f : Frame) :
    (s.learned p b f).acceptsLocal f = s.acceptsLocal f := by
  rw [Bool.eq_iff_iff, State.acceptsLocal_iff, State.acceptsLocal_iff]
  have h : ((s.learned p b f).fsw.node (addrOf f.src)).role = (s.fsw.node (addrOf f.src)).role :=
    Fsw.learn_role _ _ _ _
  rw [h]
  rfl

/-- Once the source has been learned on the receiving side, a frame back to it is not forwarded (R32). -/
theorem State.mayForward_learned {s : State} {p : Port} {b : Nat} {f : Frame}
    (hb : addrOf f.src ≠ broadcast) :
    (s.learned p b f).mayForward p f = true ↔ frameHop f ≠ 0 ∧
      (addrOf f.dest = broadcast ∨
        (addrOf f.dest ≠ addrOf f.src ∧ s.fsw.side (addrOf f.dest) ≠ some p)) ∧
      (s.port p.other).mode.closed = false ∧ (s.port p.other).rx ≠ .down := by
  have ho : (s.learned p b f).port p.other = s.port p.other := State.accepted_port_other s p b f
  have hside : (s.learned p b f).fsw.side (addrOf f.dest) ≠ some p ↔
      addrOf f.dest ≠ addrOf f.src ∧ s.fsw.side (addrOf f.dest) ≠ some p := by
    change (s.fsw.learn (addrOf f.src) p).side (addrOf f.dest) ≠ some p ↔ _
    by_cases hd : addrOf f.dest = addrOf f.src
    · simp [hd, Fsw.side_learn_self hb]
    · simp [hd, Fsw.side_learn_ne hd]
  rw [State.mayForward_iff, ho, hside]

theorem Action.copies_iff {a : Action} : a.copies = true ↔ a = .absorb ∨ a = .snoop := by
  cases a <;> simp [Action.copies]

theorem Action.forwards_iff {a : Action} : a.forwards = true ↔ a = .forward ∨ a = .snoop := by
  cases a <;> simp [Action.forwards]

/-! ### What becomes of a good frame that passes the screen -/

/-- The frame `f` in buffer `b` ends good at port `p`, goes to the Frame Switch and passes the screen
(R29, steps 1 to 3). -/
def State.Passes (s : State) (p : Port) (b : Nat) (f : Frame) : Prop :=
  s.EndsGood p b f ∧ s.Switches p f ∧ addrOf f.src ≠ broadcast ∧ addrOf f.src ≠ s.own ∧
    (s.fsw.node (addrOf f.src)).role ≠ .none

/-- A frame of another source, received in NORMAL or looped back, passes the screen where its source is
not one of role NONE. -/
theorem State.passes_of_mode {s : State} {p : Port} {b : Nat} {f : Frame}
    (hr : (s.port p).rx = .frame (some b))
    (hm : (s.port p).mode = .normal ∨
      ((s.port p).mode = .localLoopback ∧ (s.port p).front.found = some (.frameEnd p f)))
    (hl : f.payload.length ≤ 240) (hc : f.check = frameCheck f) (hb : addrOf f.src ≠ broadcast)
    (ho : addrOf f.src ≠ s.own) (hn : (s.fsw.node (addrOf f.src)).role ≠ .none) : s.Passes p b f := by
  refine ⟨⟨hr, ?_, hl, hc⟩, ?_, hb, ho, hn⟩
  · rcases hm with hm | ⟨-, hf⟩
    · exact LinePort.heard_of_mode_ne (by simp [hm])
    · exact fun _ => hf
  · exact hm.imp_right fun k => ⟨k.1, ho⟩

theorem exec_frameEnd_passed {s : State} {p : Port} {b : Nat} {f : Frame} {l g : Bool} (h : s.Passes p b f)
    (hd : (s.learned p b f).destinations p f = .pass l g) :
    exec (.frameEnd p f) s =
      .next (((s.learned p b f).handOn p b f l g).onBqm fun q => q.release b) := by
  obtain ⟨hg, hm, hb, ho, hn⟩ := h
  rw [exec_frameEnd_switched hg hm,
    State.classify_passed (State.screen_passes (s := s.accepted p b f) hb ho hn) hd]
  rfl

theorem exec_frameEnd_self {s : State} {p : Port} {b : Nat} {f : Frame} (h : s.Passes p b f)
    (ha : s.own ≠ broadcast) (hd : addrOf f.dest = s.own) :
    exec (.frameEnd p f) s =
      .next (((s.learned p b f).handOn p b f (s.acceptsLocal f) false).onBqm fun q => q.release b) := by
  rw [exec_frameEnd_passed h (State.destinations_self (s := s.learned p b f) ha hd),
    State.acceptsLocal_learned]

/-- The local copy and the forwarded copy of a frame not addressed to this part, by its class's action. -/
def State.copyMade (s : State) (f : Frame) : Bool :=
  ((s.fsw.class f.kind).action s.cru.role).copies && s.acceptsLocal f

def State.forwardMade (s : State) (p : Port) (b : Nat) (f : Frame) : Bool :=
  ((s.fsw.class f.kind).action s.cru.role).forwards && (s.learned p b f).mayForward p f

theorem exec_frameEnd_class {s : State} {p : Port} {b : Nat} {f : Frame} (h : s.Passes p b f)
    (hd : s.own = broadcast ∨ addrOf f.dest ≠ s.own)
    (hl : f.payload.length ≤ (s.fsw.class f.kind).maxPayload) :
    exec (.frameEnd p f) s =
      .next (((s.learned p b f).handOn p b f (s.copyMade f) (s.forwardMade p b f)).onBqm
        fun q => q.release b) := by
  refine exec_frameEnd_passed h ?_
  rw [State.destinations_class (s := s.learned p b f) hd hl, State.acceptsLocal_learned]
  rfl

/-- The local copy of a frame not addressed to this part (R29, R31). -/
theorem State.copyMade_iff {s : State} {f : Frame} (hd : s.own = broadcast ∨ addrOf f.dest ≠ s.own) :
    s.copyMade f = true ↔ ((s.fsw.class f.kind).action s.cru.role = .absorb ∨
        (s.fsw.class f.kind).action s.cru.role = .snoop) ∧
      s.own ≠ broadcast ∧ f.kind ≠ kindControl ∧ ∃ r, consumerRole f.kind = some r ∧
        ((s.fsw.node (addrOf f.src)).role = r ∨ (s.fsw.node (addrOf f.src)).role = .any) := by
  rw [State.copyMade, Bool.and_eq_true, Action.copies_iff, State.acceptsLocal_iff]
  refine and_congr_right fun _ => and_congr_right fun ha => and_congr_left fun _ => ?_
  exact or_iff_left (hd.resolve_left ha)

/-- The forwarded copy of a frame not addressed to this part (R29, R32). -/
theorem State.forwardMade_iff {s : State} {p : Port} {b : Nat} {f : Frame}
    (hb : addrOf f.src ≠ broadcast) :
    s.forwardMade p b f = true ↔ ((s.fsw.class f.kind).action s.cru.role = .forward ∨
        (s.fsw.class f.kind).action s.cru.role = .snoop) ∧
      frameHop f ≠ 0 ∧ (addrOf f.dest = broadcast ∨
        (addrOf f.dest ≠ addrOf f.src ∧ s.fsw.side (addrOf f.dest) ≠ some p)) ∧
      (s.port p.other).mode.closed = false ∧ (s.port p.other).rx ≠ .down := by
  rw [State.forwardMade, Bool.and_eq_true, Action.forwards_iff, State.mayForward_learned hb]

/-! ### What each copy does -/

theorem State.deliver_room {s : State} {b : Nat} (h : s.bqm.ldq.length < 16) :
    s.deliver b = s.onBqm fun q => ({ q with ldq := q.ldq ++ [b] }).retain b := by
  rw [State.deliver, if_pos h]

theorem State.deliver_full {s : State} {b : Nat} (h : ¬ s.bqm.ldq.length < 16) :
    s.deliver b = (s.onBqm fun q => { q with localDrops := bump q.localDrops }).count .buffer := by
  rw [State.deliver, if_neg h]

/-- A buffer written as it stands changes nothing. -/
theorem Bqm.pool_set_self (q : Bqm) (b : Nat) :
    q.pool.set b (Buffer.mk (q.buffer b).refs (q.buffer b).frame) = q.pool :=
  Tab.set_get _ _ _

/-- The frame rewritten where it is forwarded (R33). -/
theorem State.rewrite_eq (s : State) (b : Nat) (f : Frame) (G : Bool) :
    (if G then s.onBqm fun q => q.write b f else s) = { s with
      bqm := { s.bqm with
        pool := s.bqm.pool.set b
          { s.bqm.buffer b with frame := if G then f else (s.bqm.buffer b).frame } } } := by
  cases G with
  | true => rfl
  | false => simp [Bqm.pool_set_self]

/-- A local copy asked for or not: the queue of local frames, its drops, and the buffer's references (R51). -/
theorem State.copy_eq {s : State} (b : Nat) (L full : Bool) (hf : full = decide (16 ≤ s.bqm.ldq.length)) :
    (if L then s.deliver b else s) = { s with
      bqm := { s.bqm with
        pool := s.bqm.pool.set b
          { s.bqm.buffer b with refs := (s.bqm.buffer b).refs + (if L && !full then 1 else 0) }
        ldq := if L && !full then s.bqm.ldq ++ [b] else s.bqm.ldq
        localDrops := if L && full then bump s.bqm.localDrops else s.bqm.localDrops }
      cmn := if L && full then s.cmn.count .buffer else s.cmn } := by
  cases L with
  | false => simp [Bqm.pool_set_self]
  | true =>
    cases full with
    | false =>
      have hlt : s.bqm.ldq.length < 16 := by simpa using hf.symm
      rw [if_pos rfl, State.deliver_room hlt]
      rfl
    | true =>
      have hge : ¬ s.bqm.ldq.length < 16 := by simpa using hf.symm
      rw [if_pos rfl, State.deliver_full hge]
      simp [Bqm.pool_set_self, State.onBqm, State.count, State.onCmn]

/-- A queue after an offer of buffer `b`: one more entry, or one more drop (R46). -/
def EgressQueue.offered (x : EgressQueue) (b : Nat) (queued : Bool) : EgressQueue :=
  if queued then { x with entries := x.entries ++ [b] } else { x with drops := bump x.drops }

/-- A frame for which an open queue has no room is a drop of that queue, with a BUFFER event (R46). -/
theorem State.enqueue_tailDrop {s : State} {p : Port} {priority b : Nat}
    (ho : (s.port p).mode.closed = false) (h : s.offerOutcome p priority ≠ .queued) :
    s.enqueue p priority b =
      (s.onBqm fun q => q.onEgress p fun e => e.onQueue (s.bqm.queueFor p priority) fun x =>
        { x with drops := bump x.drops }).count .buffer := by
  have ht : s.offerOutcome p priority = .tailDrop := by
    unfold State.offerOutcome at h ⊢
    simp only [ho, Bool.false_eq_true, if_false] at h ⊢
    split
    · next hlt => exact absurd (if_pos hlt) h
    · rfl
  simp only [State.enqueue, ht]

/-- A forwarded copy asked for or not, at a port whose mode does not close it: the queue, and the buffer's
references or the drop with its event (R46). -/
theorem State.forward_eq {s : State} {p : Port} {priority : Nat} (b : Nat) (G queued : Bool)
    (ho : G = true → (s.port p).mode.closed = false)
    (hq : queued = decide (s.offerOutcome p priority = .queued)) :
    (if G then s.enqueue p priority b else s) = { s with
      bqm := { s.bqm with
        pool := s.bqm.pool.set b
          { s.bqm.buffer b with refs := (s.bqm.buffer b).refs + (if G && queued then 1 else 0) }
        egress := if G then s.bqm.egress.modify p fun e =>
            e.onQueue (s.bqm.queueFor p priority) fun x => x.offered b queued
          else s.bqm.egress }
      cmn := if G && !queued then s.cmn.count .buffer else s.cmn } := by
  cases G with
  | false => simp [Bqm.pool_set_self]
  | true =>
    cases queued with
    | true =>
      rw [if_pos rfl, State.enqueue_queued (by simpa using hq.symm)]
      rfl
    | false =>
      rw [if_pos rfl, State.enqueue_tailDrop (ho rfl) (by simpa using hq.symm)]
      simp [Bqm.pool_set_self, State.onBqm, State.count, State.onCmn, Bqm.onEgress,
        EgressQueue.offered]

/-- The filter counter, or nothing, on the Frame Switch alone. -/
theorem State.onFsw_unless (s : State) (c : Bool) (g : Fsw → Fsw) :
    (if c then s else s.onFsw g) = { s with fsw := if c then s.fsw else g s.fsw } := by
  cases c <;> rfl

/-- An offer reads the ports, the queues and the Queue Maps alone (R45, R46). -/
theorem State.offerOutcome_congr {s t : State} {p : Port} {priority : Nat} (hp : t.ports = s.ports)
    (he : t.bqm.egress = s.bqm.egress) (hm : t.bqm.maps = s.bqm.maps) :
    t.offerOutcome p priority = s.offerOutcome p priority := by
  simp only [State.offerOutcome, State.port, Bqm.queueFor, hp, he, hm]
  rfl

/-- The two copies of a frame, each made or withheld, and what they leave once the receiver's reference is
released (R33, R46, R51). -/
theorem State.handOn_eq {s : State} {p : Port} {b : Nat} {f : Frame} (L G full queued : Bool) (hb : b < 96)
    (ho : G = true → (s.port p.other).mode.closed = false)
    (hf : full = decide (16 ≤ s.bqm.ldq.length))
    (hq : queued = decide (s.offerOutcome p.other (s.internalPriority p f) = .queued)) :
    (s.handOn p b f L G).onBqm (fun q => q.release b) = { s with
      fsw := if L || G then s.fsw
        else s.fsw.onStats p fun x => { x with filtered := bump x.filtered }
      bqm := { s.bqm with
        pool := s.bqm.pool.set b
          { frame := if G then forwardRewrite f else (s.bqm.buffer b).frame
            refs := (s.bqm.buffer b).refs + (if L && !full then 1 else 0) +
              (if G && queued then 1 else 0) - 1 }
        egress := if G then s.bqm.egress.modify p.other fun e =>
            e.onQueue (s.bqm.queueFor p.other (s.internalPriority p f)) fun x => x.offered b queued
          else s.bqm.egress
        ldq := if L && !full then s.bqm.ldq ++ [b] else s.bqm.ldq
        localDrops := if L && full then bump s.bqm.localDrops else s.bqm.localDrops }
      cmn := if G && !queued then (if L && full then s.cmn.count .buffer else s.cmn).count .buffer
        else if L && full then s.cmn.count .buffer else s.cmn } := by
  unfold State.handOn
  simp only
  rw [State.rewrite_eq, State.copy_eq (full := full) b L (by exact hf),
    State.forward_eq b G queued (by exact ho)
      (by rw [hq, State.offerOutcome_congr (s := s)] <;> rfl), State.onFsw_unless]
  simp only [State.onBqm, Bqm.release, Bqm.buffer, Tab.set_set, Tab.get_set_same _ _ _ _ hb]
  rfl

end Sys2Proof.Machine
end

section
/-! SUPPORT. What a frame leaves by the copies made of it, and the statements about delivery and forwarding. -/

namespace Sys2Proof.Machine

theorem State.handOn_local {s : State} {p : Port} {b : Nat} {f : Frame} :
    s.handOn p b f true false = s.deliver b := rfl

theorem State.handOn_nowhere {s : State} {p : Port} {b : Nat} {f : Frame} :
    s.handOn p b f false false =
      s.onFsw fun w => w.onStats p fun x => { x with filtered := bump x.filtered } := rfl

/-- A local copy with room for it, once the receiver's reference is released: the reference moves to the
queue (R51). -/
theorem State.deliver_released {s : State} {b : Nat} (hb : b < 96) (h : s.bqm.ldq.length < 16) :
    (s.deliver b).onBqm (fun q => q.release b) = s.onBqm fun q => { q with ldq := q.ldq ++ [b] } := by
  rw [State.deliver_room h]
  exact congrArg (fun q => s.onBqm fun _ => q) (Bqm.release_retain (q := { s.bqm with ldq := s.bqm.ldq ++ [b] }) hb)

/-- Settles O9: both clauses are the frame addressed to this part, with and without a consumer that accepts
it. -/
theorem framesForThisPartAreDelivered : Obligations.FramesForThisPartAreDelivered := by
  refine ⟨?accepted, ?filtered⟩
  case accepted =>
    intro p f s b r hr hb hrefs hm hl hc hsb hso ha hd hk hrole hne
    have hn : (s.fsw.node (addrOf f.src)).role ≠ .none := by
      rcases hrole with h | h <;> rw [h]
      · exact hne
      · decide
    have hacc : s.acceptsLocal f = true := State.acceptsLocal_iff.2 ⟨ha, .inr hd, r, hk, hrole⟩
    rw [exec_frameEnd_self (State.passes_of_mode hr hm hl hc hsb hso hn) ha hd, hacc, State.handOn_local]
    by_cases hroom : s.bqm.ldq.length < 16
    · rw [State.deliver_released (s := s.learned p b f) hb hroom, if_pos hroom, if_pos hroom]
      rfl
    · rw [State.deliver_full (s := s.learned p b f) hroom, if_neg hroom, if_neg hroom]
      rfl
  case filtered =>
    intro p f s b hr hm hl hc hsb hso ha hd hn hno
    have hacc : s.acceptsLocal f = false := by
      rw [Bool.eq_false_iff, ne_eq, State.acceptsLocal_iff]
      rintro ⟨-, -, r, hk, hrole⟩
      exact hrole.elim (hno r hk).1 (hno r hk).2
    rw [exec_frameEnd_self (State.passes_of_mode hr hm hl hc hsb hso hn) ha hd, hacc, State.handOn_nowhere]
    rfl

/-! ### The forwarded frame -/

/-- The internal priority reads nothing that the acceptance of the frame or the learning of its source
changes (R37). -/
theorem State.internalPriority_learned (s : State) (p : Port) (b : Nat) (f : Frame) :
    (s.learned p b f).internalPriority p f = s.internalPriority p f := by
  have hn : ((s.learned p b f).fsw.node (addrOf f.src)).priority =
      (s.fsw.node (addrOf f.src)).priority := Fsw.learn_priority _ _ _ _
  simp only [State.internalPriority, State.priorityOffers, hn]
  rfl

theorem State.offerOutcome_learned (s : State) (p : Port) (b priority : Nat) (f : Frame) :
    (s.learned p b f).offerOutcome p.other priority = s.offerOutcome p.other priority := by
  have ho : (s.learned p b f).port p.other = s.port p.other := State.accepted_port_other s p b f
  simp only [State.offerOutcome, ho]
  rfl

/-- What a frame not addressed to this part leaves: its two copies made or withheld, from the state before
it (R29, R33, R46, R51). -/
theorem exec_frameEnd_copies {s : State} {p : Port} {b q : Nat} {f : Frame} {L G full queued : Bool}
    (h : s.Passes p b f) (hb : b < 96) (hd : s.own = broadcast ∨ addrOf f.dest ≠ s.own)
    (hl : f.payload.length ≤ (s.fsw.class f.kind).maxPayload) (hL : L = s.copyMade f)
    (hG : G = s.forwardMade p b f) (hf : full = decide (16 ≤ s.bqm.ldq.length))
    (hq : queued = decide (s.offerOutcome p.other (s.internalPriority p f) = .queued))
    (hn : q = s.bqm.queueFor p.other (s.internalPriority p f)) :
    exec (.frameEnd p f) s = .next { s with
      ports := s.ports.modify p fun u =>
        { u with rx := .hunt, persistence := none, front := u.front.restart, good := bump u.good }
      fsw := if L || G then s.fsw.learn (addrOf f.src) p
        else (s.fsw.learn (addrOf f.src) p).onStats p fun x => { x with filtered := bump x.filtered }
      bqm := { s.bqm with
        pool := s.bqm.pool.set b
          { frame := if G then forwardRewrite f else f
            refs := (s.bqm.buffer b).refs + (if L && !full then 1 else 0) +
              (if G && queued then 1 else 0) - 1 }
        egress := if G then s.bqm.egress.modify p.other fun e =>
            e.onQueue q fun x => x.offered b queued
          else s.bqm.egress
        ldq := if L && !full then s.bqm.ldq ++ [b] else s.bqm.ldq
        localDrops := if L && full then bump s.bqm.localDrops else s.bqm.localDrops }
      cmn := if G && !queued then (if L && full then s.cmn.count .buffer else s.cmn).count .buffer
        else if L && full then s.cmn.count .buffer else s.cmn } := by
  have hopen : G = true → ((s.learned p b f).port p.other).mode.closed = false := by
    intro hg
    rw [hG, State.forwardMade_iff h.2.2.1] at hg
    obtain ⟨-, -, -, hm, -⟩ := hg
    rw [show (s.learned p b f).port p.other = s.port p.other from State.accepted_port_other s p b f]
    exact hm
  have hbuf : (s.learned p b f).bqm.buffer b = { s.bqm.buffer b with frame := f } :=
    Bqm.buffer_write_same hb
  rw [exec_frameEnd_class h hd hl, ← hL, ← hG, State.handOn_eq (s := s.learned p b f) L G full queued hb hopen
    hf (by rw [State.internalPriority_learned, State.offerOutcome_learned]; exact hq),
    State.internalPriority_learned, hbuf]
  simp only [State.learned, State.accepted, State.onFsw, Bqm.write, Tab.set_set, hn]
  rfl

/-- One hop less leaves the tag as it was (R33). -/
theorem frameHop_pred {f g : Frame} (h : frameHop f ≠ 0) (hg : g.tagHop = f.tagHop - 1) :
    frameHop g = frameHop f - 1 ∧ frameTag g = frameTag f := by
  unfold frameHop frameTag at *
  rw [hg]
  have hlt := f.tagHop.isLt
  have hsub : (f.tagHop - 1).toNat = f.tagHop.toNat - 1 := by
    have hone : (1 : BitVec 8).toNat = 1 := rfl
    rw [BitVec.toNat_sub, hone]
    omega
  rw [hsub]
  omega

/-- The two forms of the BUFFER events of the two copies. -/
theorem Cmn.count_copies (c : Cmn) (a : Attr) (x y : Bool) :
    (if y then (if x then c.count a else c).count a else if x then c.count a else c) =
      if x && y then (c.count a).count a else if x || y then c.count a else c := by
  cases x <;> cases y <;> rfl

theorem Fsw.onStats_unless (w : Fsw) (p : Port) (c : Bool) (g : SwitchStats → SwitchStats) :
    (if c then w else w.onStats p g) =
      { w with stats := if c then w.stats else w.stats.modify p g } := by
  cases c <;> rfl

/-- Settles O8: the copies made or withheld, by the general form; forwarding is the case of a forwarded
copy queued, ABSORB that of a local copy with room. -/
theorem forwardedFramesLoseOneHop : Obligations.ForwardedFramesLoseOneHop := by
  refine ⟨?forwarded, ?absorbed, ?copies⟩
  case forwarded =>
    intro p f s b snoop hr hb hm hl hc hsb hso hn hd hx hact hsnoop hhop hdest hmode hrx hoff hlt
    have hp : s.Passes p b f := State.passes_of_mode hr hm hl hc hsb hso hn
    have hL : snoop = s.copyMade f := by
      rw [Bool.eq_iff_iff, State.copyMade_iff hd, hact]
      cases snoop with
      | false => simp
      | true =>
        obtain ⟨ha, hk, -, hcons⟩ := hsnoop rfl
        simp [ha, hk, hcons]
    have hG : true = s.forwardMade p b f := by
      rw [Bool.eq_iff_iff, State.forwardMade_iff hsb, hact]
      cases snoop <;> simp [hhop, hdest, hmode, hrx]
    obtain ⟨full, hfull⟩ : ∃ full, full = decide (16 ≤ s.bqm.ldq.length) := ⟨_, rfl⟩
    have hroom : snoop = true → full = false := by
      intro h
      have := (hsnoop h).2.2.1
      simpa [hfull] using this
    have hnone : (snoop && full) = false := by cases snoop <;> simp [hroom]
    have hall : (snoop && !full) = snoop := by cases snoop <;> simp [hroom]
    have he := exec_frameEnd_copies hp hb hd hx hL hG hfull (decide_eq_true hoff).symm rfl
    simp only [hnone, hall, Bool.or_true, Bool.and_true, Bool.not_true, Bool.and_false, Bool.false_eq_true,
      if_true, if_false] at he
    obtain ⟨hhop', htag⟩ := frameHop_pred (g := forwardRewrite f) hhop rfl
    refine ⟨_, he, rfl, ?rx, ?good, State.accepted_port_other s p b f, rfl, Fsw.side_learn_self hsb, ?_⟩
    case rx => exact congrArg LinePort.rx (State.accepted_port s p b f)
    case good => exact congrArg LinePort.good (State.accepted_port s p b f)
    simp only [Bqm.buffer, Tab.get_set_same _ _ _ _ hb]
    refine ⟨rfl, rfl, hhop', htag, fun c hc => Tab.get_set_ne _ b c _ _ hc.symm, ?near, ?queue, ?dispatch⟩
    case near => exact Both.get_set_self _ p _
    case queue =>
      rw [Both.get_modify_same, Egress.queue_onQueue_same hlt]
      rfl
    case dispatch => cases snoop <;> simp
  case absorbed =>
    intro p f s b hr hb hrefs hm hl hc hsb hso hn hd hx
    have hp : s.Passes p b f := State.passes_of_mode hr (.inl hm) hl hc hsb hso hn
    refine ⟨fun r hact hk hrole ha hctl hroom => ?_, fun hact => ?_⟩
    · have hL : s.copyMade f = true := (State.copyMade_iff hd).2 ⟨.inl hact, ha, hctl, r, hk, hrole⟩
      have hG : s.forwardMade p b f = false := by simp [State.forwardMade, hact, Action.forwards]
      rw [exec_frameEnd_class hp hd hx, hL, hG, State.handOn_local,
        State.deliver_released (s := s.learned p b f) hb hroom]
      rfl
    · have hL : s.copyMade f = false := by
        rcases hact with h | ⟨h, -⟩ <;> simp [State.copyMade, h, Action.copies]
      have hG : s.forwardMade p b f = false := by
        rw [Bool.eq_false_iff, ne_eq, State.forwardMade_iff hsb]
        rintro ⟨ha, hh, -⟩
        rcases hact with h | ⟨-, h⟩
        · simp [h] at ha
        · exact hh h
      rw [exec_frameEnd_class hp hd hx, hL, hG, State.handOn_nowhere]
      rfl
  case copies =>
    intro p f s b q L G hr hb hrefs hm hl hc hsb hso hn hd hx hL hG hq
    have hp : s.Passes p b f := State.passes_of_mode hr hm hl hc hsb hso hn
    have he := exec_frameEnd_copies (L := L) (G := G) hp hb hd hx
      (Bool.eq_iff_iff.2 (hL.trans (State.copyMade_iff hd).symm))
      (Bool.eq_iff_iff.2 (hG.trans (State.forwardMade_iff hsb).symm)) rfl rfl hq
    refine ⟨_, _, _, he, rfl, rfl, ?state, ?_⟩
    case state =>
      rw [Cmn.count_copies, Fsw.onStats_unless]
      rfl
    simp only [Bqm.buffer, Tab.get_set_same _ _ _ _ hb] at hrefs ⊢
    refine ⟨rfl, by omega, fun c hc => Tab.get_set_ne _ b c _ _ hc.symm, ?near, ?config, ?queues⟩
    case near =>
      cases G with
      | false => rfl
      | true => rw [if_pos rfl, Both.get_modify_self]
    case config =>
      cases G with
      | false => rfl
      | true => rw [if_pos rfl, Both.get_modify_same]; rfl
    case queues =>
      intro n hlt
      cases G with
      | false => rfl
      | true =>
        rw [if_pos rfl, Both.get_modify_same, Egress.queue_onQueue hlt, Bool.true_and]
        simp only [decide_eq_true_eq, EgressQueue.offered]

end Sys2Proof.Machine
end

section
/-! SUPPORT. The scheduler (R48, R49): what the strict scan and a move of the pointer do, that the deficit
round robin comes to a frame within its 64 moves, and the statements about the two. -/

namespace Sys2Proof.Machine

/-! ### What a change of one queue keeps -/

theorem Egress.isWeighted_iff {e : Egress} {n : Nat} :
    e.isWeighted n = true ↔ (e.queueConfig n).type = .weighted := by
  simp only [Egress.isWeighted, decide_eq_true_eq]

theorem Egress.isWeighted_false {e : Egress} {n : Nat} :
    e.isWeighted n = false ↔ (e.queueConfig n).type = .strict := by
  rw [Bool.eq_false_iff, ne_eq, Egress.isWeighted_iff]
  cases (e.queueConfig n).type <;> simp

theorem Egress.holds_iff {e : Egress} {n : Nat} : e.holds n = true ↔ (e.queue n).entries ≠ [] := by
  simp [Egress.holds]

theorem Egress.holds_false {e : Egress} {n : Nat} : e.holds n = false ↔ (e.queue n).entries = [] := by
  simp [Egress.holds]

/-- There are four queues. -/
theorem Egress.lt_of_entries {e : Egress} {n : Nat} (h : (e.queue n).entries ≠ []) : n < 4 := by
  by_contra hn
  have he : e.queue n = EgressQueue.empty := by
    simp [Egress.queue, Tab.get, List.getD, e.queues.size, Nat.le_of_not_lt hn]
  exact h (by rw [he]; rfl)

/-- A change of a queue that keeps its entries keeps those of all. -/
theorem Egress.entries_onQueue {e : Egress} {n m : Nat} {g : EgressQueue → EgressQueue}
    (h : (g (e.queue n)).entries = (e.queue n).entries) :
    ((e.onQueue n g).queue m).entries = (e.queue m).entries := by
  by_cases hm : m = n
  · by_cases hn : n < 4
    · rw [hm, Egress.queue_onQueue_same hn, h]
    · rw [Egress.onQueue, Egress.queue, Tab.set_outside _ _ _ (Nat.le_of_not_lt hn)]
      rfl
  · rw [Egress.queue_onQueue_ne hm]

/-! ### The strict scan (R48) -/

theorem find_highest {P : Nat → Bool} {n : Nat} (hn : n < 4) (h : P n = true)
    (hi : ∀ m, n < m → m < 4 → P m = false) : [3, 2, 1, 0].find? P = some n := by
  have h3 := hi 3
  have h2 := hi 2
  have h1 := hi 1
  interval_cases n <;> simp_all

theorem Egress.strictQueue_some {e : Egress} {n : Nat} (hn : n < 4)
    (ht : (e.queueConfig n).type = .strict) (he : (e.queue n).entries ≠ [])
    (hi : ∀ m, n < m → m < 4 → (e.queueConfig m).type = .strict → (e.queue m).entries = []) :
    e.strictQueue = some n := by
  refine find_highest hn ?_ fun m hm hlt => ?_
  · rw [Egress.isWeighted_false.2 ht, Egress.holds_iff.2 he]
    rfl
  · cases hw : e.isWeighted m with
    | true => rfl
    | false => rw [Egress.holds_false.2 (hi m hm hlt (Egress.isWeighted_false.1 hw))]; rfl

theorem Egress.strictQueue_none {e : Egress}
    (h : ∀ m, m < 4 → (e.queueConfig m).type = .strict → (e.queue m).entries = []) :
    e.strictQueue = none := by
  refine List.find?_eq_none.2 fun m hm => ?_
  have hlt : m < 4 := by simp only [List.mem_cons, List.not_mem_nil, or_false] at hm; omega
  cases hw : e.isWeighted m with
  | true => simp
  | false => simp [Egress.holds_false.2 (h m hlt (Egress.isWeighted_false.1 hw))]

theorem Egress.weightedWaits_of {e : Egress} {n : Nat} (ht : (e.queueConfig n).type = .weighted)
    (he : (e.queue n).entries ≠ []) : e.weightedWaits = true := by
  have hlt := Egress.lt_of_entries he
  refine List.any_eq_true.2 ⟨n, ?_, ?_⟩
  · simp only [List.mem_cons, List.not_mem_nil, or_false]; omega
  · rw [Egress.isWeighted_iff.2 ht, Egress.holds_iff.2 he]; rfl

theorem Egress.decide_strict {e : Egress} {size : Nat → Nat} {n b : Nat} {l : List Nat}
    (h : e.strictQueue = some n) (he : (e.queue n).entries = b :: l) :
    e.decide size = (e.pop n, some b) := by
  simp only [Egress.decide, h, he, List.head?_cons]

theorem Egress.decide_weighted {e : Egress} {size : Nat → Nat} (h : e.strictQueue = none)
    (hw : e.weightedWaits = true) : e.decide size = Egress.roundRobin size 64 e := by
  simp only [Egress.decide, h, hw, if_true]

theorem Egress.decide_idle {e : Egress} {size : Nat → Nat}
    (h : ∀ n, n < 4 → (e.queue n).entries = []) : e.decide size = (e, none) := by
  have hw : e.weightedWaits = false := by
    refine List.any_eq_false.2 fun m hm => ?_
    have hlt : m < 4 := by simp only [List.mem_cons, List.not_mem_nil, or_false] at hm; omega
    simp [Egress.holds_false.2 (h m hlt)]
  simp only [Egress.decide, Egress.strictQueue_none fun m hm _ => h m hm, hw, Bool.false_eq_true, if_false]

/-! ### One move of the pointer (R49) -/

/-- The place of queue `q` in the round that follows the pointer; the queue at place `q` likewise. -/
def turn (pointer : Option Nat) (q : Nat) : Nat :=
  match pointer with
  | none => 3 - q
  | some n => (n + 3 - q) % 4

theorem turn_lt (pointer : Option Nat) (q : Nat) : turn pointer q < 4 := by
  cases pointer with
  | none => simp only [turn]; omega
  | some n => exact Nat.mod_lt _ (by decide)

theorem turn_turn (pointer : Option Nat) {q : Nat} (h : q < 4) : turn pointer (turn pointer q) = q := by
  cases pointer with
  | none => simp only [turn]; omega
  | some n => simp only [turn]; omega

theorem roundAfter_eq (pointer : Option Nat) :
    roundAfter pointer = [turn pointer 0, turn pointer 1, turn pointer 2, turn pointer 3] := by
  cases pointer <;> rfl

/-- The next queue of the round is the one of its kind with the least place in it. -/
theorem roundAfter_find {pointer : Option Nat} {P : Nat → Bool} {m : Nat} (hm : m < 4) (hP : P m = true)
    (hmin : ∀ k, k < 4 → P k = true → turn pointer m ≤ turn pointer k) :
    (roundAfter pointer).find? P = some m := by
  have hi : P (turn pointer (turn pointer m)) = true := by rw [turn_turn pointer hm]; exact hP
  have hj : ∀ j, j < turn pointer m → P (turn pointer j) = false := by
    intro j hlt
    by_contra hj
    have := hmin _ (turn_lt pointer j) (by simpa using hj)
    rw [turn_turn pointer (Nat.lt_trans hlt (turn_lt pointer m))] at this
    omega
  rw [roundAfter_eq]
  have hback := turn_turn pointer hm
  have hlt := turn_lt pointer m
  generalize turn pointer m = i at *
  have h0 := hj 0
  have h1 := hj 1
  have h2 := hj 2
  interval_cases i <;> simp_all

/-- A queue to which the pointer has come: a quantum more, or no deficit where it is empty. -/
def EgressQueue.current (x : EgressQueue) (quantum : Nat) : EgressQueue :=
  { x with deficit := if x.entries = [] then 0 else x.deficit + quantum }

/-- The egress side once the pointer has come to queue `m`. -/
def Egress.moved (e : Egress) (m : Nat) : Egress :=
  { e.onQueue m fun x => x.current ((e.queueConfig m).weight * 32) with pointer := some m }

theorem Egress.queue_moved (e : Egress) (m n : Nat) :
    (e.moved m).queue n = (e.onQueue m fun x => x.current ((e.queueConfig m).weight * 32)).queue n := rfl

theorem Egress.advance_eq {e : Egress} {m : Nat} (hm : m < 4) (hw : e.isWeighted m = true)
    (hmin : ∀ k, k < 4 → e.isWeighted k = true → turn e.pointer m ≤ turn e.pointer k) :
    e.advance = e.moved m := by
  simp only [Egress.advance, roundAfter_find hm hw hmin, Egress.moved, EgressQueue.current, List.isEmpty_iff]

/-- Where some queue is WEIGHTED there is a next one. -/
theorem Egress.exists_next {e : Egress} {q : Nat} (hq : q < 4) (hw : e.isWeighted q = true) :
    ∃ m, m < 4 ∧ e.isWeighted m = true ∧
      ∀ k, k < 4 → e.isWeighted k = true → turn e.pointer m ≤ turn e.pointer k := by
  obtain ⟨m, hm, hmin⟩ := Finset.exists_min_image ((Finset.range 4).filter fun k => e.isWeighted k = true)
    (turn e.pointer) ⟨q, by simp [hq, hw]⟩
  simp only [Finset.mem_filter, Finset.mem_range] at hm hmin
  exact ⟨m, hm.1, hm.2, fun k hk hwk => hmin k ⟨hk, hwk⟩⟩

@[simp] theorem Egress.settle_pointer (e : Egress) : e.settle.pointer = e.pointer := by
  unfold Egress.settle; repeat' split
  all_goals rfl

@[simp] theorem Egress.settle_config (e : Egress) : e.settle.config = e.config := by
  unfold Egress.settle; repeat' split
  all_goals rfl

theorem Egress.queueConfig_settle (e : Egress) (n : Nat) : e.settle.queueConfig n = e.queueConfig n := by
  rw [Egress.queueConfig, Egress.settle_config]
  rfl

/-- A queue that holds a frame keeps its deficit as the pointer leaves it. -/
theorem Egress.queue_settle {e : Egress} {q : Nat} (h : (e.queue q).entries ≠ []) :
    e.settle.queue q = e.queue q := by
  unfold Egress.settle
  split
  · rfl
  · next n _ =>
    split
    · next hn =>
      refine Egress.queue_onQueue_ne ?_
      rintro rfl
      exact h (Egress.holds_false.1 hn.2)
    · rfl

theorem Egress.entries_settle (e : Egress) (n : Nat) : (e.settle.queue n).entries = (e.queue n).entries := by
  unfold Egress.settle
  split
  · rfl
  · split
    · exact Egress.entries_onQueue rfl
    · rfl

theorem Egress.isWeighted_settle (e : Egress) (n : Nat) : e.settle.isWeighted n = e.isWeighted n := by
  rw [Bool.eq_iff_iff, Egress.isWeighted_iff, Egress.isWeighted_iff, Egress.queueConfig_settle]

theorem Egress.entries_moved (e : Egress) (m n : Nat) : ((e.moved m).queue n).entries = (e.queue n).entries :=
  Egress.entries_onQueue (g := fun x => x.current ((e.queueConfig m).weight * 32)) rfl

theorem Egress.queue_moved_same {e : Egress} {m : Nat} (hm : m < 4) (h : (e.queue m).entries ≠ []) :
    (e.moved m).queue m =
      { e.queue m with deficit := (e.queue m).deficit + (e.queueConfig m).weight * 32 } := by
  rw [Egress.queue_moved, Egress.queue_onQueue_same hm, EgressQueue.current, if_neg h]

theorem Egress.queue_moved_ne {e : Egress} {m q : Nat} (h : q ≠ m) : (e.moved m).queue q = e.queue q := by
  rw [Egress.queue_moved, Egress.queue_onQueue_ne h]

/-! ### The round robin comes to a frame -/

theorem Egress.fits_some {e : Egress} {size : Nat → Nat} {n : Nat} (h : e.fits size = some n) :
    e.pointer = some n ∧ ∃ b l, (e.queue n).entries = b :: l := by
  unfold Egress.fits at h
  split at h
  · cases h
  · next m hp =>
    split at h
    · cases h
    · next b l hb =>
      split at h
      · cases h; exact ⟨hp, b, l, hb⟩
      · cases h

theorem Egress.fits_of {e : Egress} {size : Nat → Nat} {n b : Nat} {l : List Nat} (hp : e.pointer = some n)
    (hw : e.isWeighted n = true) (he : (e.queue n).entries = b :: l) (hs : size b ≤ (e.queue n).deficit) :
    e.fits size = some n := by
  simp only [Egress.fits, hp, he, hw, hs, and_self, if_true]

/-- The pointer's own queue gives no frame where it is not WEIGHTED, is empty, or has too small a deficit. -/
theorem Egress.fits_none {e : Egress} {size : Nat → Nat}
    (h : ∀ n, e.pointer = some n → (e.queueConfig n).type = .strict ∨
      ∀ b, (e.queue n).entries.head? = some b → (e.queue n).deficit < size b) : e.fits size = none := by
  unfold Egress.fits
  split
  · rfl
  · next n hp =>
    split
    · rfl
    · next b l hb =>
      refine if_neg fun k => ?_
      rcases h n hp with ht | hd
      · rw [Egress.isWeighted_false.2 ht] at k
        exact Bool.false_ne_true k.1
      · exact absurd k.2 (Nat.not_le.2 (hd b (by rw [hb]; rfl)))

/-- Queue `q` is WEIGHTED and holds frames of at most 250 octets, with a weight of at least 1. -/
def Egress.Backlog (e : Egress) (size : Nat → Nat) (q : Nat) : Prop :=
  e.isWeighted q = true ∧ (e.queue q).entries ≠ [] ∧ 1 ≤ (e.queueConfig q).weight ∧
    ∀ b ∈ (e.queue q).entries, size b ≤ 250

/-- A bound on the moves before queue `q` gives a frame, while the pointer's own queue gives none: four for
each time that its deficit must still rise, and those up to its turn. -/
def Egress.wait (e : Egress) (q : Nat) : Nat :=
  4 * max 1 ((281 - (e.queue q).deficit) / 32) + turn e.pointer q

theorem Egress.wait_le (e : Egress) (q : Nat) : e.wait q ≤ 35 := by
  have := turn_lt e.pointer q
  unfold Egress.wait
  omega

theorem Egress.Backlog.moved {e : Egress} {size : Nat → Nat} {q : Nat} (h : e.Backlog size q) (m : Nat) :
    (e.settle.moved m).Backlog size q := by
  obtain ⟨hw, he, hg, hs⟩ := h
  have hc : (e.settle.moved m).config = e.config := Egress.settle_config e
  unfold Egress.Backlog
  simp only [Egress.entries_moved, Egress.entries_settle, Egress.isWeighted, Egress.queueConfig, hc]
  exact ⟨hw, he, hg, hs⟩

/-- A queue with a deficit of 250 gives its head when the pointer names it. -/
theorem Egress.Backlog.fits {e : Egress} {size : Nat → Nat} {q : Nat} (h : e.Backlog size q)
    (hp : e.pointer = some q) (hd : 250 ≤ (e.queue q).deficit) : e.fits size = some q := by
  obtain ⟨hw, he, -, hs⟩ := h
  obtain ⟨b, l, hb⟩ := List.exists_cons_of_ne_nil he
  exact Egress.fits_of hp hw hb (Nat.le_trans (hs b (by rw [hb]; exact List.mem_cons_self)) hd)

/-- A move of the pointer from a queue that gives no frame brings the next frame nearer. -/
theorem Egress.Backlog.nearer {e : Egress} {size : Nat → Nat} {q m : Nat} (h : e.Backlog size q)
    (hle : turn e.pointer m ≤ turn e.pointer q) (hm : m < 4) :
    ((e.settle.moved m).fits size).isSome = true ∨ (e.settle.moved m).wait q + 1 ≤ e.wait q := by
  have hb := h.moved m
  obtain ⟨-, he, hg, -⟩ := h
  have hq : q < 4 := Egress.lt_of_entries he
  have hqs := Egress.queue_settle he
  by_cases hmq : m = q
  · subst hmq
    have hd : ((e.settle.moved m).queue m).deficit =
        (e.queue m).deficit + (e.queueConfig m).weight * 32 := by
      rw [Egress.queue_moved_same hm (by rw [hqs]; exact he), hqs]
      rw [Egress.queueConfig_settle]
    by_cases hfit : 250 ≤ ((e.settle.moved m).queue m).deficit
    · exact .inl (by rw [hb.fits rfl hfit]; rfl)
    · have ht : turn (e.settle.moved m).pointer m = 3 := by
        simp only [Egress.moved, turn]; omega
      refine .inr ?_
      unfold Egress.wait
      rw [ht, hd]
      rw [hd] at hfit
      omega
  · refine .inr ?_
    have hne : turn e.pointer m ≠ turn e.pointer q := by
      intro k
      have := congrArg (turn e.pointer) k
      rw [turn_turn _ hm, turn_turn _ hq] at this
      exact hmq this
    have ht : turn (e.settle.moved m).pointer q + 1 ≤ turn e.pointer q := by
      simp only [Egress.moved]
      cases hp : e.pointer with
      | none => simp only [hp, turn] at *; omega
      | some n => simp only [hp, turn] at *; omega
    unfold Egress.wait
    rw [Egress.queue_moved_ne (Ne.symm hmq), hqs]
    omega

/-- With enough moves the round robin names the head of a queue (R49). -/
theorem Egress.Backlog.named {size : Nat → Nat} {q : Nat} :
    ∀ (k : Nat) {e : Egress}, e.Backlog size q → 1 ≤ k →
      ((e.fits size).isSome = true ∨ e.wait q ≤ k) →
      ∃ n b, (e.queue n).entries.head? = some b ∧ (Egress.roundRobin size k e).2 = some b := by
  intro k
  induction k with
  | zero => intro e _ hk; omega
  | succ k ih =>
    intro e h _ hw
    cases hf : e.fits size with
    | some n =>
      obtain ⟨-, b, l, hb⟩ := Egress.fits_some hf
      exact ⟨n, b, by rw [hb]; rfl, by simp only [Egress.roundRobin, hf, hb, List.head?_cons]⟩
    | none =>
      have hwait : e.wait q ≤ k + 1 := by simpa [hf] using hw
      have hfour : 4 ≤ e.wait q := by unfold Egress.wait; omega
      obtain ⟨m, hm, hwm, hmin⟩ := Egress.exists_next (Egress.lt_of_entries h.2.1) h.1
      have hadv : e.settle.advance = e.settle.moved m :=
        Egress.advance_eq hm (by rw [Egress.isWeighted_settle]; exact hwm)
          (by simpa only [Egress.isWeighted_settle, Egress.settle_pointer] using hmin)
      have hnear := h.nearer (hmin q (Egress.lt_of_entries h.2.1) h.1) hm
      obtain ⟨n, b, hb, hr⟩ := ih (h.moved m) (by omega) (hnear.imp_right fun _ => by omega)
      rw [Egress.entries_moved, Egress.entries_settle] at hb
      exact ⟨n, b, hb, by simp only [Egress.roundRobin, hf, hadv, hr]⟩

/-- A round robin that has named a frame is not changed by more moves allowed. -/
theorem Egress.roundRobin_succ {size : Nat → Nat} {b : Nat} :
    ∀ (k : Nat) {e : Egress}, (Egress.roundRobin size k e).2 = some b →
      Egress.roundRobin size (k + 1) e = Egress.roundRobin size k e := by
  intro k
  induction k with
  | zero => intro e h; cases h
  | succ k ih =>
    intro e h
    cases hf : e.fits size with
    | some n => simp only [Egress.roundRobin, hf]
    | none =>
      simp only [Egress.roundRobin, hf] at h
      have := ih h
      rw [Egress.roundRobin, hf]
      simp only [this]
      rw [Egress.roundRobin, hf]

/-! ### A decision -/

/-- Where a queue holds a frame the scheduler names one, the head of its queue (R48, R49). -/
theorem Egress.decide_names {e : Egress} {size : Nat → Nat}
    (hw : ∀ n, n < 4 → 1 ≤ (e.queueConfig n).weight)
    (hs : ∀ n, n < 4 → ∀ b ∈ (e.queue n).entries, size b ≤ 250)
    (he : ∃ n, n < 4 ∧ (e.queue n).entries ≠ []) :
    ∃ e' n b, e.decide size = (e', some b) ∧ (e.queue n).entries.head? = some b := by
  cases hq : e.strictQueue with
  | some n =>
    have hn := List.find?_some hq
    simp only [Bool.and_eq_true, Egress.holds_iff] at hn
    obtain ⟨b, l, hb⟩ := List.exists_cons_of_ne_nil hn.2
    exact ⟨e.pop n, n, b, Egress.decide_strict hq hb, by rw [hb]; rfl⟩
  | none =>
    obtain ⟨q, hlt, hne⟩ := he
    have hwq : e.isWeighted q = true := by
      have hmem : q ∈ [3, 2, 1, 0] := by simp only [List.mem_cons, List.not_mem_nil, or_false]; omega
      have := List.find?_eq_none.1 hq q hmem
      simpa [Egress.holds_iff.2 hne] using this
    have hbl : e.Backlog size q := ⟨hwq, hne, hw q hlt, hs q hlt⟩
    obtain ⟨n, b, hb, hr⟩ := hbl.named 64 (by omega) (.inr (Nat.le_trans (e.wait_le q) (by omega)))
    rw [Egress.decide_weighted hq (Egress.weightedWaits_of (Egress.isWeighted_iff.1 hwq) hne)]
    exact ⟨_, n, b, Prod.ext rfl hr, hb⟩

theorem Egress.strictQueue_moved (e : Egress) (m : Nat) : (e.settle.moved m).strictQueue = e.strictQueue := by
  have hc : (e.settle.moved m).config = e.config := Egress.settle_config e
  simp only [Egress.strictQueue, Egress.holds, Egress.entries_moved, Egress.entries_settle, Egress.isWeighted,
    Egress.queueConfig, hc]
  rfl

/-- Where no STRICT queue holds a frame and the pointer's own queue gives none, the decision is the one
after the next move of the pointer (R49). -/
theorem Egress.decide_moved {e : Egress} {size : Nat → Nat} {q m : Nat} (hst : e.strictQueue = none)
    (h : e.Backlog size q) (hf : e.fits size = none) (hm : m < 4) (hw : e.isWeighted m = true)
    (hmin : ∀ k, k < 4 → e.isWeighted k = true → turn e.pointer m ≤ turn e.pointer k) :
    (e.settle.moved m).decide size = e.decide size := by
  have hadv : e.settle.advance = e.settle.moved m :=
    Egress.advance_eq hm (by rw [Egress.isWeighted_settle]; exact hw)
      (by simpa only [Egress.isWeighted_settle, Egress.settle_pointer] using hmin)
  have hb := h.moved m
  obtain ⟨n, b, -, hr⟩ := hb.named 63 (by omega) (.inr (Nat.le_trans (Egress.wait_le _ q) (by omega)))
  rw [Egress.decide_weighted (by rw [Egress.strictQueue_moved]; exact hst)
      (Egress.weightedWaits_of (Egress.isWeighted_iff.1 hb.1) hb.2.1),
    Egress.decide_weighted hst (Egress.weightedWaits_of (Egress.isWeighted_iff.1 h.1) h.2.1),
    Egress.roundRobin_succ 63 hr, ← hadv]
  exact (by simp only [Egress.roundRobin, hf] : Egress.roundRobin size 64 e = _).symm

end Sys2Proof.Machine
end

section
/-! SUPPORT. The transmitter's requests (R11, R13, R16): what each of the two commands of a transmitter does
by what the request is given, and the statements about them. -/

namespace Sys2Proof.Machine

/-! ### A request -/

/-- The modes in which the scheduler answers a request (R11). -/
def PortMode.scheduled (m : PortMode) : Prop := m = .normal ∨ m = .localLoopback

theorem State.ask_idle {s : State} {p : Port} (hm : (s.port p).mode.scheduled)
    (h : (s.bqm.egress.get p).decide s.bqm.sizeOf = (s.bqm.egress.get p, none)) :
    s.ask p = s.onPort p fun u => { u with tx := .fill } := by
  have hs : (s.onBqm fun q => q.onEgress p fun _ => s.bqm.egress.get p) = s := by
    simp only [State.onBqm, Bqm.onEgress, Both.modify_eq_self]
  unfold State.ask
  rcases hm with hm | hm <;> simp only [hm, h, hs]

theorem State.ask_sends {s : State} {p : Port} {e : Egress} {b : Nat} (hm : (s.port p).mode.scheduled)
    (h : (s.bqm.egress.get p).decide s.bqm.sizeOf = (e, some b)) :
    s.ask p = { s with
      ports := s.ports.modify p fun u => { u with tx := .sending b }
      bqm := { s.bqm with
        egress := s.bqm.egress.modify p fun _ => e, slot := s.bqm.slot.modify p fun x => x.take b } } := by
  unfold State.ask
  rcases hm with hm | hm <;> simp only [hm, h] <;> rfl

theorem State.ask_returns {s : State} {p : Port} {b : Nat} {l : List Nat}
    (hm : (s.port p).mode = .remoteLoopback) (h : (s.port p).returnList = b :: l) :
    s.ask p = s.onPort p fun u => { u with tx := .sending b, returnList := l } := by
  simp only [State.ask, hm, h]

theorem State.ask_returns_none {s : State} {p : Port} (hm : (s.port p).mode = .remoteLoopback)
    (h : (s.port p).returnList = []) : s.ask p = s.onPort p fun u => { u with tx := .fill } := by
  simp only [State.ask, hm, h]

theorem State.ask_disabled {s : State} {p : Port} (hm : (s.port p).mode = .disabled) :
    s.ask p = s.onPort p fun u => { u with tx := .silent } := by
  simp only [State.ask, hm]

/-- A port whose request finds no frame: nothing queued where the scheduler answers, an empty return list in
REMOTE_LOOPBACK (R11). -/
def State.NothingToSend (s : State) (p : Port) : Prop :=
  (((s.port p).mode = .normal ∨ (s.port p).mode = .localLoopback) ∧
      ∀ n, n < 4 → ((s.bqm.egress.get p).queue n).entries = []) ∨
    ((s.port p).mode = .remoteLoopback ∧ (s.port p).returnList = [])

theorem State.ask_fills {s : State} {p : Port} (h : s.NothingToSend p) :
    s.ask p = s.onPort p fun u => { u with tx := .fill } := by
  rcases h with ⟨hm, he⟩ | ⟨hm, hl⟩
  · exact State.ask_idle hm (Egress.decide_idle he)
  · exact State.ask_returns_none hm hl

/-! ### The end of a fill pair -/

theorem exec_fillPairSent {s : State} {p : Port} (h : (s.port p).tx = .fill) :
    exec (.fillPairSent p) s =
      .next ((s.ask p).onPort p fun u => u.nextOutput (decide (u.tx = .fill))) :=
  congrArg _ (if_pos h)

/-- A fill pair that ends with a frame named: its transmission begins (R11). -/
theorem fillPairSent_sends {s : State} {p : Port} {e : Egress} {b : Nat} (ht : (s.port p).tx = .fill)
    (hm : (s.port p).mode.scheduled)
    (h : (s.bqm.egress.get p).decide s.bqm.sizeOf = (e, some b)) :
    exec (.fillPairSent p) s = .next { s with
      ports := s.ports.modify p fun u => { u with tx := .sending b, pos := 0, lead := false }
      bqm := { s.bqm with
        egress := s.bqm.egress.modify p fun _ => e, slot := s.bqm.slot.modify p fun x => x.take b } } := by
  rw [exec_fillPairSent ht, State.ask_sends hm h]
  simp only [State.onPort, Both.modify_modify]
  rfl

/-- The same from another egress side: what the request leaves depends on the decision alone. -/
theorem fillPairSent_sends_from {s : State} {p : Port} {e e' : Egress} {b : Nat}
    (ht : (s.port p).tx = .fill) (hm : (s.port p).mode.scheduled)
    (h : e.decide s.bqm.sizeOf = (e', some b)) :
    exec (.fillPairSent p) (s.onBqm fun q => q.onEgress p fun _ => e) = .next { s with
      ports := s.ports.modify p fun u => { u with tx := .sending b, pos := 0, lead := false }
      bqm := { s.bqm with
        egress := s.bqm.egress.modify p fun _ => e', slot := s.bqm.slot.modify p fun x => x.take b } } := by
  have hget : (s.onBqm fun q => q.onEgress p fun _ => e).bqm.egress.get p = e :=
    Both.get_modify_same _ _ _
  rw [fillPairSent_sends (s := s.onBqm fun q => q.onEgress p fun _ => e) ht hm (by rw [hget]; exact h)]
  simp only [State.onBqm, Bqm.onEgress, Both.modify_modify]

/-- Settles O15: the strict scan names a frame, or else the round robin comes to one. -/
theorem schedulerNeverIdlesOverAFrame : Obligations.SchedulerNeverIdlesOverAFrame := by
  intro p s ht hm hw hs hq
  obtain ⟨e, n, b, hd, hb⟩ := Egress.decide_names hw hs hq
  refine ⟨_, b, fillPairSent_sends ht (.inl hm) hd, by simp [State.port], n, ?_, hb⟩
  refine Egress.lt_of_entries (e := s.bqm.egress.get p) fun h => ?_
  rw [h] at hb
  cases hb

/-- Settles O14: the pointer's own queue, a move of the pointer, and the strict scan. -/
theorem strictQueuesAreServedFirst : Obligations.StrictQueuesAreServedFirst := by
  refine ⟨?own, ?moves, ?strict⟩
  case own =>
    rintro p s e n b l ht hm rfl hstrict hp hn hw hb hsize
    have hfit := Egress.fits_of (size := s.bqm.sizeOf) hp (Egress.isWeighted_iff.2 hw) hb hsize
    have hd : (s.bqm.egress.get p).decide s.bqm.sizeOf =
        ((s.bqm.egress.get p).serve s.bqm.sizeOf n, some b) := by
      rw [Egress.decide_weighted (Egress.strictQueue_none hstrict)
        (Egress.weightedWaits_of hw (by rw [hb]; exact List.cons_ne_nil _ _))]
      simp only [Egress.roundRobin, hfit, hb, List.head?_cons]
    refine ⟨_, fillPairSent_sends ht (.inl hm) hd, rfl, rfl, rfl, ?_⟩
    simp only [Both.get_modify_same, Both.get_modify_other]
    refine ⟨?_, fun m _ hne => Egress.queue_onQueue_ne hne, hp, rfl, trivial⟩
    rw [Egress.serve, Egress.queue_onQueue_same hn]
    simp only [hb, List.tail_cons, List.isEmpty_iff, List.headD_cons]
  case moves =>
    rintro p s e u m ht hm rfl hweights hsizes hstrict hsome hptr hm4 hwm hnone hfirst hu
    obtain ⟨q, hq, hne⟩ := hsome
    have hst : (s.bqm.egress.get p).strictQueue = none := Egress.strictQueue_none hstrict
    have hwq : (s.bqm.egress.get p).isWeighted q = true := by
      by_contra hn
      exact hne (hstrict q hq (Egress.isWeighted_false.1 (by simpa using hn)))
    have hbl : (s.bqm.egress.get p).Backlog s.bqm.sizeOf q := ⟨hwq, hne, hweights q hq, hsizes q hq⟩
    have hf := Egress.fits_none (size := s.bqm.sizeOf) fun n hn => (hptr n hn).2
    have hmin : ∀ k, k < 4 → (s.bqm.egress.get p).isWeighted k = true →
        turn (s.bqm.egress.get p).pointer m ≤ turn (s.bqm.egress.get p).pointer k := by
      intro k hk hwk
      have hwk := Egress.isWeighted_iff.1 hwk
      cases hp : (s.bqm.egress.get p).pointer with
      | none =>
        have hle : ¬ m < k := fun hlt => by rw [hnone hp k hlt hk] at hwk; cases hwk
        simp only [turn]
        omega
      | some n => exact hfirst n k hp hk hwk
    have hset : u = (s.bqm.egress.get p).settle := by
      rw [hu, Egress.settle]
      cases hp : (s.bqm.egress.get p).pointer with
      | none => rfl
      | some n => simp only [Egress.isWeighted_iff, Egress.holds_false]
    obtain ⟨e', n, b, hdec, -⟩ := Egress.decide_names hweights hsizes ⟨q, hq, hne⟩
    have hmoved := (Egress.decide_moved hst hbl hf hm4 (Egress.isWeighted_iff.2 hwm) hmin).trans hdec
    rw [fillPairSent_sends ht (.inl hm) hdec, hset, ← Egress.queueConfig_settle]
    exact (fillPairSent_sends_from ht (.inl hm) hmoved).symm
  case strict =>
    intro p s n b l ht hm hn hstrict hb hi
    have hd := Egress.decide_strict (size := s.bqm.sizeOf)
      (Egress.strictQueue_some hn hstrict (by rw [hb]; exact List.cons_ne_nil _ _) hi) hb
    refine ⟨_, fillPairSent_sends ht (.inl hm) hd, rfl, rfl, rfl, ?_⟩
    simp only [Both.get_modify_same, Both.get_modify_other, Egress.pop]
    refine ⟨?_, fun m _ hne => Egress.queue_onQueue_ne hne, ?_, rfl, trivial⟩
    · rw [Egress.queue_onQueue_same hn, hb]
      rfl
    · rw [Egress.queue_onQueue_same hn]

end Sys2Proof.Machine
end

section
/-! SUPPORT. The end of a frame's transmission, the return list, and the place of a pair before the next
frame (R11, R12, R13, R16), with the statement about them. -/

namespace Sys2Proof.Machine

/-! ### The end of a frame -/

/-- With no reset pending there is none to settle (R178). -/
theorem State.settleReset_none {s : State} (h : s.mgu.pendingReset = none) : s.settleReset = s := by
  simp only [State.settleReset, h]

theorem exec_frameSent {s : State} {p : Port} {b : Nat} (ht : (s.port p).tx = .sending b)
    (hr : s.mgu.pendingReset = none) :
    exec (.frameSent p) s =
      .next (((s.completeFrame p b).ask p).onPort p
        fun u => u.nextOutput (decide (u.tx ≠ .silent))) := by
  have hx : (s.port p).transmitting = some b := by simp only [LinePort.transmitting, ht]
  have hs : (s.completeFrame p b).settleReset = s.completeFrame p b := State.settleReset_none hr
  change execFrameSent p s = _
  simp only [execFrameSent, hx, hs]

theorem State.completeFrame_eq (s : State) (p : Port) (b : Nat) :
    s.completeFrame p b = { s with
      ports := s.ports.modify p fun u => { u with sent := bump u.sent, tx := .fill }
      bqm := { s.bqm.release b with
        resetReply := s.bqm.resetReply.map fun r => r.completed p b } } := rfl

theorem State.completeFrame_port (s : State) (p : Port) (b : Nat) :
    (s.completeFrame p b).port p = { s.port p with sent := bump (s.port p).sent, tx := .fill } :=
  Both.get_modify_same _ _ _

/-- A frame that ends with another named: a fill pair, then that frame (R11, R13). -/
theorem frameSent_sends {s : State} {p : Port} {e : Egress} {b c : Nat} (ht : (s.port p).tx = .sending b)
    (hr : s.mgu.pendingReset = none) (hm : (s.port p).mode.scheduled)
    (h : (s.bqm.egress.get p).decide (s.bqm.release b).sizeOf = (e, some c)) :
    exec (.frameSent p) s = .next { s with
      ports := s.ports.modify p fun u =>
        { u with sent := bump u.sent, tx := .sending c, fill := u.loopCode, pos := 0, lead := true }
      bqm := { s.bqm.release b with
        resetReply := s.bqm.resetReply.map fun r => r.completed p b
        egress := s.bqm.egress.modify p fun _ => e, slot := s.bqm.slot.modify p fun x => x.take c } } := by
  rw [exec_frameSent ht hr,
    State.ask_sends (s := s.completeFrame p b) (by rw [State.completeFrame_port]; exact hm) h,
    State.completeFrame_eq]
  simp only [State.onPort, Both.modify_modify]
  rfl

/-- A completed frame leaves nothing more to send than before (R11). -/
theorem State.NothingToSend.completeFrame {s : State} {p : Port} (h : s.NothingToSend p) (b : Nat) :
    (s.completeFrame p b).NothingToSend p := by
  unfold State.NothingToSend
  rw [State.completeFrame_port]
  exact h

/-! ### A good frame in REMOTE_LOOPBACK -/

theorem exec_frameEnd_returned {s : State} {p : Port} {b : Nat} {f : Frame} (h : s.EndsGood p b f)
    (hm : (s.port p).mode = .remoteLoopback) :
    exec (.frameEnd p f) s = .next ((s.accepted p b f).returnFrame p b) := by
  rw [exec_frameEnd_good h, State.dispose, State.accepted_mode, hm]

/-! ### The bits of the output -/

theorem fillPair_length (c : LoopCode) : (fillPair c).length = 2 := by
  cases c <;> rfl

/-- The last bit of a fill pair is found as FILL_PAIR_SENT (R1, R2, R11). -/
theorem State.fillPairSent_found {s : State} {p : Port} (ht : (s.port p).tx = .fill)
    (hp : (s.port p).pos = 15) : .fillPairSent p ∈ s.portEvents p := by
  have hl : s.lastBit p = true := by
    have ho : lineOutput s p = some (fillPair (s.port p).fill) := by
      unfold lineOutput
      rw [show (s.ports.get p).tx = .fill from ht]
      rfl
    simp only [State.lastBit, ho, fillPair_length, hp, decide_eq_true_eq]
    omega
  unfold State.portEvents
  rw [hl, if_pos rfl]
  refine List.mem_append_right _ ?_
  simp only [LinePort.outputSent, ht, Option.toList_some, List.mem_singleton]

/-- Settles O13: each request by what it is given, the return list, and the bits of the output. -/
theorem fillAndSentFrames : Obligations.FillAndSentFrames := by
  refine ⟨?pair, ?frame, ?disabled, ?next, ?returned, ?joins, ?found, ?output⟩
  case pair =>
    intro p s ht h
    rw [exec_fillPairSent ht, State.ask_fills h, State.onPort_onPort]
    refine congrArg _ (State.onPort_congr ?_)
    simp only [LinePort.nextOutput, LinePort.transmitting, decide_true, if_true, Option.isSome_none,
      Bool.and_false, ← ht]
  case frame =>
    intro p s b ht hr h
    rw [exec_frameSent ht hr, State.ask_fills (State.NothingToSend.completeFrame h b),
      State.completeFrame_eq]
    simp only [State.onPort, Both.modify_modify]
    rfl
  case disabled =>
    intro p s b ht hr hm
    rw [exec_frameSent ht hr, State.ask_disabled (by rw [State.completeFrame_port]; exact hm),
      State.completeFrame_eq]
    simp only [State.onPort, Both.modify_modify]
    rfl
  case next =>
    intro p s n b c l ht hr hm hn hstrict hb hi
    have hd := Egress.decide_strict (size := (s.bqm.release b).sizeOf)
      (Egress.strictQueue_some hn hstrict (by rw [hb]; exact List.cons_ne_nil _ _) hi) hb
    refine ⟨_, frameSent_sends ht hr (.inl hm) hd, rfl, rfl, rfl, ?_⟩
    simp only [Both.get_modify_same, Egress.pop]
    refine ⟨?_, fun m _ hne => Egress.queue_onQueue_ne hne⟩
    rw [Egress.queue_onQueue_same hn, hb]
    rfl
  case returned =>
    intro p s c l hm hl
    refine ⟨fun ht => ?_, fun b ht hr => ?_⟩
    · rw [exec_fillPairSent ht, State.ask_returns hm hl, State.onPort_onPort]
      rfl
    · rw [exec_frameSent ht hr,
        State.ask_returns (b := c) (l := l) (by rw [State.completeFrame_port]; exact hm)
          (by rw [State.completeFrame_port]; exact hl), State.completeFrame_eq]
      simp only [State.onPort, Both.modify_modify]
      rfl
  case joins =>
    intro p f s b hr hm hl hc
    rw [exec_frameEnd_returned ⟨hr, LinePort.heard_of_mode_ne (by simp [hm]), hl, hc⟩ hm]
    have hlist : ((s.accepted p b f).port p).returnList = (s.port p).returnList := by
      rw [State.accepted_port]
    unfold State.returnFrame
    rw [hlist]
    split
    · simp only [State.onPort, State.accepted, Both.modify_modify]
    · simp only [State.onPort, State.accepted, State.onBqm, Both.modify_modify]
      rfl
  case found =>
    intro p s hq ht hp
    exact step_finds hq (State.fillPairSent_found ht hp)
  case output =>
    intro p s b ht
    unfold lineOutput
    rw [show (s.ports.get p).tx = .sending b from ht]
    rfl

end Sys2Proof.Machine
end

section
/-! SUPPORT. The commands that clear a group (R174), with the statement about them. -/

namespace Sys2Proof.Machine

/-- A command that is always carried out, taken from its frame: carried out and answered OK (R170). -/
theorem State.control_doing {s : State} {b : Nat} {f : Frame} {row : Instr} {g : State → State}
    (h : s.Commanded b f) (hr : rowOf f.payload = row) (hk : knownCode f.payload = true)
    (hl : lengthFits f.payload = true) (hn : ∀ t, (g t).mgu.pendingReset = t.mgu.pendingReset) :
    s.control row (doing g) = (g s.takeHead).answered b f (Answer.ok []) :=
  State.control_answered h hr hk hl ((hn s.takeHead).trans h.2.1)

/-- Settles O53: each group is one operation on the state, the answer that of every command. -/
theorem clearsTakeTheirGroup : Obligations.ClearsTakeTheirGroup := by
  refine ⟨?latches, ?log, ?attributes, ?counters⟩
  case latches =>
    intro s b f h hp
    exact congrArg _ (State.control_doing (g := State.clearLatches) h (by rw [hp]; rfl) (by rw [hp]; rfl)
      (by rw [hp]; rfl) fun _ => rfl)
  case log =>
    intro s b f h hp
    exact congrArg _ (State.control_doing (g := fun t => t.onCmn Cmn.clearLog) h (by rw [hp]; rfl)
      (by rw [hp]; rfl) (by rw [hp]; rfl) fun _ => rfl)
  case attributes =>
    intro s b f h hp
    exact congrArg _ (State.control_doing (g := fun t => t.onCmn Cmn.clearAttributes) h (by rw [hp]; rfl)
      (by rw [hp]; rfl) (by rw [hp]; rfl) fun _ => rfl)
  case counters =>
    intro s b f h hp
    exact congrArg _ (State.control_doing (g := State.clearCounters) h (by rw [hp]; rfl) (by rw [hp]; rfl)
      (by rw [hp]; rfl) fun _ => rfl)

end Sys2Proof.Machine
end

section
/-! SUPPORT. What a power-on reset leaves, unit by unit, and that it meets the laws of the state. -/

namespace Sys2Proof.Machine

/-! ### The tables after a power-on reset -/

theorem Fsw.powerOn_node (a : Addr) : Fsw.powerOn.node a = NodeEntry.powerOn := by
  rw [Fsw.node, Fsw.powerOn, Tab.get_fill]
  split <;> rfl

/-- The Frame Class Table by its three entries that differ from the others (R26). -/
theorem Fsw.powerOn_class {k : Nat} (hk : k < 256) (d : ClassEntry) :
    Fsw.powerOnClasses.get k d =
      { active := if k = 0x10 ∨ k = 0x21 then .snoop else if k = 0x30 then .absorb else .forward
        passive := if k = 0x10 then .snoop else .forward, priority := none, maxPayload := 240 } := by
  unfold Fsw.powerOnClasses
  by_cases h3 : k = 0x30
  · rw [h3, Tab.get_set_same _ _ _ _ (by decide)]
    rfl
  rw [Tab.get_set_ne _ _ _ _ _ (Ne.symm h3)]
  by_cases h2 : k = 0x21
  · rw [h2, Tab.get_set_same _ _ _ _ (by decide)]
    rfl
  rw [Tab.get_set_ne _ _ _ _ _ (Ne.symm h2)]
  by_cases h1 : k = 0x10
  · rw [h1, Tab.get_set_same _ _ _ _ (by decide)]
    rfl
  rw [Tab.get_set_ne _ _ _ _ _ (Ne.symm h1), Tab.get_fill, if_pos hk]
  simp only [h1, h2, h3, or_self, if_false]
  rfl

theorem Fsw.powerOn_tagMap {i : Nat} (h : i < 8) : Fsw.powerOn.tagMap.get i 0 = i := by
  interval_cases i <;> rfl

theorem Bqm.powerOn_freeCount : Bqm.powerOn.freeCount = 96 := rfl

theorem Egress.powerOn_queue (n : Nat) : Egress.powerOn.queue n = EgressQueue.empty := by
  rw [Egress.queue, Egress.powerOn, Tab.get_fill]
  split <;> rfl

theorem Bqm.powerOn_buffer (b : Nat) : Bqm.powerOn.buffer b = Buffer.empty := by
  rw [Bqm.buffer, Bqm.powerOn, Tab.get_fill]
  split <;> rfl

theorem Tdu.powerOn_slot (n : Nat) : Tdu.powerOn.slots.get n none = none := by
  rw [Tdu.powerOn, Tab.get_fill]
  split <;> rfl

/-- An input after a reset: its pin as it is (R88). -/
def InputState.cleared (x : InputState) : InputState := { x with level := false, stability := none }

theorem Ciu.cleared_input (u : Ciu) (i : Input) :
    u.cleared.input i = { pin := (u.input i).pin, level := false, stability := none } :=
  Tab.get_map InputState.cleared u.inputs (inputIndex i)
    { pin := false, level := false, stability := none }

theorem Cmn.powerOn_attr (a : Attr) : Cmn.powerOn.attr a = AttrState.start := by
  rw [Cmn.attr, Cmn.powerOn, Tab.get_fill]
  split <;> rfl

theorem State.powerOnReset_port (s : State) (straps : Addr) (p : Port) :
    (s.powerOnReset straps).port p = { LinePort.powerOn with line := (s.port p).line } :=
  Both.get_map _ _ _

/-- Settles O4: the reset state unit by unit, each table by its lemma. -/
theorem powerOnResetRestoresEveryUnit : Obligations.PowerOnResetRestoresEveryUnit := by
  intro straps s
  refine ⟨s.powerOnReset straps, rfl, rfl, ?ports, ?fsw, ?bqm, ?cru, ?ciu, ?tdu, ?llu, ?jcu, ?sru, ?snu,
    ?cmn, ?mgu⟩
  case ports =>
    intro p
    rw [State.powerOnReset_port]
    exact ⟨rfl, rfl, rfl, rfl, rfl, rfl, rfl, rfl, rfl, rfl, rfl⟩
  case fsw =>
    exact ⟨Fsw.powerOn_node, fun k hk => Fsw.powerOn_class hk _, fun i hi => Fsw.powerOn_tagMap hi, rfl,
      fun p => Both.get_same _ _⟩
  case bqm =>
    have he (p : Port) : (s.powerOnReset straps).bqm.egress.get p = Egress.powerOn := Both.get_same _ _
    refine ⟨Bqm.powerOn_freeCount, rfl, rfl, rfl, fun p n _ => ?_, fun p => ?_, rfl, rfl, rfl⟩
    · rw [he]; exact Egress.powerOn_queue n
    · rw [he]; exact ⟨rfl, rfl, rfl, rfl, rfl⟩
  case cru => exact ⟨rfl, rfl, rfl, rfl, rfl, rfl, rfl, rfl, rfl, rfl, rfl, rfl, rfl⟩
  case ciu => exact ⟨rfl, rfl, rfl, rfl, rfl, rfl, rfl, fun i => Ciu.cleared_input s.ciu i⟩
  case tdu =>
    exact ⟨rfl, rfl, rfl, rfl, rfl, rfl, rfl, rfl, rfl, rfl, Tdu.powerOn_slot, rfl, rfl, rfl, rfl, rfl, rfl,
      rfl, rfl⟩
  case llu => exact ⟨rfl, rfl, rfl, rfl, rfl, rfl, rfl, rfl, rfl, rfl, rfl, rfl, rfl, rfl, rfl, rfl⟩
  case jcu =>
    exact ⟨rfl, rfl, rfl, rfl, rfl, rfl, rfl, rfl, fun e he => List.eq_of_mem_replicate he⟩
  case sru => exact ⟨rfl, rfl, rfl, rfl, rfl, rfl⟩
  case snu =>
    exact ⟨rfl, rfl, rfl, fun x => by cases x <;> rfl, rfl, rfl, fun c => by cases c <;> rfl, rfl⟩
  case cmn => exact ⟨rfl, rfl, rfl, rfl, rfl, Cmn.powerOn_attr, rfl⟩
  case mgu => exact ⟨rfl, rfl, rfl, rfl, rfl, rfl, rfl⟩

/-! ### The laws after a power-on reset -/

/-- A part right after a power-on reset: every unit but the inputs, the loop link and the Management Unit
as R20 to R169 have it, each port apart from what is still to come on its line. -/
structure State.Fresh (s : State) : Prop where
  ports : ∀ p, s.port p = { LinePort.powerOn with line := (s.port p).line }
  bqm : s.bqm = Bqm.powerOn
  cru : s.cru = Cru.powerOn
  tdu : s.tdu = Tdu.powerOn
  jcu : s.jcu = Jcu.powerOn
  sru : s.sru = Sru.powerOn
  snu : s.snu = Snu.powerOn
  cmn : s.cmn = Cmn.powerOn

theorem State.reset_fresh : State.reset.Fresh :=
  ⟨fun p => by cases p <;> rfl, rfl, rfl, rfl, rfl, rfl, rfl, rfl⟩

theorem State.powerOnReset_fresh (s : State) (straps : Addr) : (s.powerOnReset straps).Fresh :=
  ⟨fun p => by rw [State.powerOnReset_port], rfl, rfl, rfl, rfl, rfl, rfl, rfl⟩

/-- The receiver and the transmitter hold no buffer after a power-on reset. -/
theorem State.Fresh.port {s : State} (h : s.Fresh) (p : Port) :
    (s.port p).receiving = none ∧ (s.port p).transmitting = none ∧ (s.port p).returnList = [] := by
  rw [h.ports p]
  exact ⟨rfl, rfl, rfl⟩

theorem Egress.powerOn_references : Egress.powerOn.references = [] := by
  simp only [Egress.references, Egress.powerOn_queue]
  rfl

theorem State.Fresh.heldAt {s : State} (h : s.Fresh) (p : Port) (b : Nat) : s.heldAt p b = 0 := by
  obtain ⟨hr, ht, hl⟩ := h.port p
  have he : (s.bqm.egress.get p).references = [] := by
    rw [h.bqm, show Bqm.powerOn.egress.get p = Egress.powerOn from Both.get_same _ _]
    exact Egress.powerOn_references
  rw [State.heldAt, hr, ht, hl, he]
  rfl

theorem State.Fresh.bufferLaw {s : State} (h : s.Fresh) : s.BufferLaw := by
  have hq := h.bqm
  refine ⟨fun b _ => ?pool, fun p b hb => ?receiver, fun p q b hb => ?slot, fun p _ => (h.port p).2.2,
    fun k n hk hn => ?map⟩
  case pool =>
    rw [State.places, h.heldAt, h.heldAt, hq, Bqm.powerOn_buffer]
    rfl
  case receiver =>
    rw [(h.port p).1] at hb
    cases hb
  case slot =>
    rw [hq, show Bqm.powerOn.slot.get p = .notQueued from Both.get_same _ _] at hb
    cases hb
  case map =>
    rw [hq]
    interval_cases k <;> interval_cases n <;> decide

theorem State.Fresh.attributeLaw {s : State} (h : s.Fresh) : s.cmn.AttributeLaw := by
  rw [h.cmn]
  refine ⟨fun x hx => ?_, by decide⟩
  rw [List.eq_of_mem_replicate hx]
  decide

/-- Settles O60: both kinds of reset leave a fresh part, which meets each law. -/
theorem resetMeetsTheLaws : Obligations.ResetMeetsTheLaws := by
  intro s hs
  have h : s.Fresh := by
    rcases hs with rfl | ⟨u, straps, he⟩
    · exact State.reset_fresh
    · cases he
      exact State.powerOnReset_fresh u straps
  refine ⟨h.bufferLaw, h.attributeLaw, ?log, ?traction, ?stop, ?list, ?table, ?signal⟩
  case log =>
    rw [h.cmn]
    refine ⟨by decide, by decide, by decide, by decide, by decide, fun k hk => ?_⟩
    exact absurd hk (Nat.not_lt_zero k)
  case traction =>
    unfold State.TractionLaw
    rw [h.tdu, h.cru]
    decide
  case stop =>
    unfold State.StopLaw
    rw [h.sru, h.cru]
    decide
  case list =>
    rw [h.jcu]
    exact ⟨by decide, List.nodup_nil⟩
  case table =>
    rw [h.cru]
    exact ⟨by decide, List.Pairwise.nil⟩
  case signal =>
    unfold State.SignalLaw Jcu.Warns Jcu.Alerts
    rw [h.jcu, h.snu]
    simp [Jcu.powerOn, Snu.powerOn]

end Sys2Proof.Machine
end

section
/-! SUPPORT. SET_PORT_MODE (R14 to R19, R175): what each entry into a mode and each exit leaves, the rows of
the command, and the statement about them. -/

namespace Sys2Proof.Machine

/-! ### Exits -/

theorem State.exitRemote_eq (s : State) (p : Port) (cause : Int) :
    s.exitRemote p cause = { s with
      ports := s.ports.modify p fun u =>
        { u with mode := .normal, returnList := [], persistence := none }
      bqm := s.bqm.releaseAll (s.port p).returnList
      cmn := s.cmn.note
        { kind := .autoloopExit, block := portBlock p, port := some p, value := some cause } } := rfl

theorem State.exitLocal_eq (s : State) (p : Port) :
    s.exitLocal p = { s with
      ports := s.ports.modify p fun u =>
        { u with mode := .normal, rx := .hunt, persistence := none, front := Front.start, joined := false }
      bqm := s.bqm.letGo (s.port p).receiving } := by
  unfold State.exitLocal State.setRx
  rw [State.onPort_onPort, State.releaseReception_eq]
  rfl

theorem State.exitDisabled_eq (s : State) (p : Port) :
    s.exitDisabled p = { s with
      ports := s.ports.modify p fun u =>
        { u with
          mode := .normal, tx := if u.tx = .silent then .fill else u.tx
          fill := if u.tx = .silent then u.loopCode else u.fill
          pos := if u.tx = .silent then 0 else u.pos } } := rfl

/-! ### Entries -/

theorem State.enterLocal_eq (s : State) (p : Port) :
    s.enterLocal p = { s with
      ports := s.ports.modify p fun u =>
        { u with
          mode := .localLoopback, persistence := none, front := Front.start, joined := false
          rx := if u.rx = .down then .down else .hunt }
      bqm := s.bqm.letGo (s.port p).receiving } := by
  unfold State.enterLocal State.dropReception
  rw [State.onPort_onPort, State.releaseReception_eq]
  rfl

theorem State.enterRemote_eq (s : State) (p : Port) :
    (s.dropReception p).enterRemote p = { s with
      ports := s.ports.modify p fun u =>
        { u with
          mode := .remoteLoopback, persistence := none, returnList := []
          front := if u.inFrame then u.front.restart else u.front
          rx := if u.rx = .down then .down else .hunt }
      bqm := (s.bqm.letGo (s.port p).receiving).flush p } := by
  unfold State.enterRemote State.dropReception
  rw [State.onPort_onPort, State.releaseReception_eq]
  rfl

/-- DISABLED entered with the receiver in DOWN already (R17). -/
theorem State.enterDisabled_down {s : State} {p : Port} (h : (s.port p).rx = .down) :
    s.enterDisabled p = { s with
      ports := s.ports.modify p fun u =>
        { u with
          mode := .disabled, persistence := none, front := Front.start
          tx := if u.transmitting.isSome then u.tx else .silent }
      bqm := s.bqm.flush p } := by
  unfold State.enterDisabled State.downByDisable
  rw [if_pos h]
  rfl

/-- DISABLED entered with the receiver up: it goes DOWN first, with the sides forgotten and the entry
(R17). -/
theorem State.enterDisabled_up {s : State} {p : Port} (h : (s.port p).rx ≠ .down) :
    s.enterDisabled p = { s with
      ports := s.ports.modify p fun u =>
        { u with
          mode := .disabled, persistence := none, rx := .down, front := Front.start
          tx := if u.transmitting.isSome then u.tx else .silent }
      fsw := s.fsw.forget p
      bqm := (s.bqm.letGo (s.port p).receiving).flush p
      cmn := s.cmn.note { kind := .portDown, block := portBlock p, port := some p } } := by
  unfold State.enterDisabled State.downByDisable State.setRx
  rw [if_neg h, State.releaseReception_eq]
  simp only [State.onPort, State.onFsw, State.onBqm, State.log, State.onCmn, Both.modify_modify]
  rfl

/-! ### The rows of SET_PORT_MODE -/

theorem portOf_codePort (p : Port) : portOf (codePort p) = some p := by
  cases p <;> rfl

theorem portOf_none {n : Byte} (h1 : n ≠ 1) (h2 : n ≠ 2) : portOf n.toNat = none := by
  have k1 : n.toNat ≠ 1 := fun k => h1 (BitVec.toNat_inj.1 k)
  have k2 : n.toNat ≠ 2 := fun k => h2 (BitVec.toNat_inj.1 k)
  simp only [portOf, k1, k2, if_false]

/-- The row of an action that names a mode (R183). -/
def ModeRow (a : Byte) (m : PortMode) (row : Instr) : Prop :=
  (a = 1 ∧ m = .normal ∧ row = .setNormal) ∨ (a = 2 ∧ m = .localLoopback ∧ row = .setLocalLoopback) ∨
    (a = 3 ∧ m = .remoteLoopback ∧ row = .setRemoteLoopback) ∨ (a = 4 ∧ m = .disabled ∧ row = .setDisabled)

/-- The row of an action that names a loop code (R183). -/
def CodeRow (a : Byte) (c : LoopCode) (row : Instr) : Prop :=
  (a = 5 ∧ c = .loopup ∧ row = .sendLoopup) ∨ (a = 6 ∧ c = .loopdown ∧ row = .sendLoopdown) ∨
    (a = 7 ∧ c = .none ∧ row = .stopLoopcode)

/-- A SET_PORT_MODE goes to the row of its action, with its code known and its length right. -/
theorem rowOf_setPortMode (n a : Byte) :
    rowOf [7, n, a] = modeRow a.toNat ∧ knownCode [7, n, a] = true ∧ lengthFits [7, n, a] = true :=
  ⟨rfl, rfl, rfl⟩

theorem ModeRow.row {a : Byte} {m : PortMode} {row : Instr} (h : ModeRow a m row) :
    modeRow a.toNat = row ∧ ∀ s, exec row s = .next (s.control row (setMode m)) := by
  rcases h with ⟨rfl, rfl, rfl⟩ | ⟨rfl, rfl, rfl⟩ | ⟨rfl, rfl, rfl⟩ | ⟨rfl, rfl, rfl⟩ <;>
    exact ⟨rfl, fun _ => rfl⟩

theorem CodeRow.row {a : Byte} {c : LoopCode} {row : Instr} (h : CodeRow a c row) :
    modeRow a.toNat = row ∧ ∀ s, exec row s = .next (s.control row (setCode c)) := by
  rcases h with ⟨rfl, rfl, rfl⟩ | ⟨rfl, rfl, rfl⟩ | ⟨rfl, rfl, rfl⟩ <;> exact ⟨rfl, fun _ => rfl⟩

theorem setMode_mgu (m : PortMode) (s : State) (f : Frame) : (setMode m s f).1.mgu = s.mgu := by
  unfold setMode
  split
  · rfl
  · split
    · rfl
    · exact (State.changeMode_keeps s _ m).2.2.2.2.2.2.2.2.1

theorem setCode_mgu (c : LoopCode) (s : State) (f : Frame) : (setCode c s f).1.mgu = s.mgu := by
  unfold setCode
  split
  · rfl
  · simp

theorem exec_modeRow {s : State} {b : Nat} {f : Frame} {n a : Byte} {m : PortMode} {row : Instr}
    (h : s.Commanded b f) (hp : f.payload = [7, n, a]) (hr : ModeRow a m row) :
    exec row s = .next ((setMode m s.takeHead f).1.answered b f (setMode m s.takeHead f).2) := by
  obtain ⟨hrow, hk, hl⟩ := rowOf_setPortMode n a
  rw [hr.row.2, State.control_answered h (by rw [hp, hrow, hr.row.1]) (by rw [hp, hk]) (by rw [hp, hl])]
  rw [setMode_mgu]
  exact h.2.1

theorem exec_codeRow {s : State} {b : Nat} {f : Frame} {n a : Byte} {c : LoopCode} {row : Instr}
    (h : s.Commanded b f) (hp : f.payload = [7, n, a]) (hr : CodeRow a c row) :
    exec row s = .next ((setCode c s.takeHead f).1.answered b f (setCode c s.takeHead f).2) := by
  obtain ⟨hrow, hk, hl⟩ := rowOf_setPortMode n a
  rw [hr.row.2, State.control_answered h (by rw [hp, hrow, hr.row.1]) (by rw [hp, hk]) (by rw [hp, hl])]
  rw [setCode_mgu]
  exact h.2.1

/-- A port's mode that the role bars is refused with ROLE (R175). -/
theorem exec_mode_refused {s : State} {b : Nat} {f : Frame} {p : Port} {n a : Byte} {m : PortMode}
    {row : Instr} (h : s.Commanded b f) (hp : f.payload = [7, n, a]) (hn : n.toNat = codePort p)
    (hr : ModeRow a m row) (hm : m = .localLoopback ∨ m = .remoteLoopback) (hi : s.cru.role ≠ .inactive) :
    exec row s = .next (s.takeHead.answered b f { status := 3, reason := 6, figure := 0, data := [] }) := by
  have hport : portOf (num1 f.payload 1) = some p := by
    rw [hp, show num1 [7, n, a] 1 = n.toNat from rfl, hn, portOf_codePort]
  have hact : setMode m s.takeHead f = (s.takeHead, Answer.refused reasonRole 0) := by
    simp only [setMode, hport]
    exact if_pos ⟨hm, hi⟩
  rw [exec_modeRow h hp hr, hact]
  rfl

/-- A port's mode that is accepted (R14, R175). -/
theorem exec_mode_accepted {s : State} {b : Nat} {f : Frame} {p : Port} {n a : Byte} {m : PortMode}
    {row : Instr} (h : s.Commanded b f) (hp : f.payload = [7, n, a]) (hn : n.toNat = codePort p)
    (hr : ModeRow a m row) (hm : m = .normal ∨ m = .disabled ∨ s.cru.role = .inactive) :
    exec row s = .next ((s.takeHead.changeMode p m).answered b f (Answer.ok [])) := by
  have hport : portOf (num1 f.payload 1) = some p := by
    rw [hp, show num1 [7, n, a] 1 = n.toNat from rfl, hn, portOf_codePort]
  have hbar : ¬ ((m = .localLoopback ∨ m = .remoteLoopback) ∧ s.takeHead.cru.role ≠ .inactive) := by
    rintro ⟨hloop, hi⟩
    rcases hm with rfl | rfl | hin
    · simp at hloop
    · simp at hloop
    · exact hi hin
  rw [exec_modeRow h hp hr]
  simp only [setMode, hport, if_neg hbar]

theorem exec_code_accepted {s : State} {b : Nat} {f : Frame} {p : Port} {n a : Byte} {c : LoopCode}
    {row : Instr} (h : s.Commanded b f) (hp : f.payload = [7, n, a]) (hn : n.toNat = codePort p)
    (hr : CodeRow a c row) :
    exec row s = .next ((s.takeHead.setLoopCode p c).answered b f (Answer.ok [])) := by
  have hport : portOf (num1 f.payload 1) = some p := by
    rw [hp, show num1 [7, n, a] 1 = n.toNat from rfl, hn, portOf_codePort]
  rw [exec_codeRow h hp hr]
  simp only [setCode, hport]

/-! ### The mode changed -/

theorem State.changeMode_same {s : State} {p : Port} {m : PortMode} (h : (s.port p).mode = m) :
    s.changeMode p m = s :=
  if_pos h

/-- A mode left for another. -/
theorem State.changeMode_eq {s : State} {p : Port} {k m : PortMode} (h : (s.port p).mode = k) (hne : k ≠ m) :
    s.changeMode p m = (s.leaveMode p 2).enterMode p m :=
  if_neg (h ▸ hne)

theorem State.leaveMode_normal {s : State} {p : Port} {c : Int} (h : (s.port p).mode = .normal) :
    s.leaveMode p c = s := by
  simp only [State.leaveMode, h]

theorem State.leaveMode_local {s : State} {p : Port} {c : Int} (h : (s.port p).mode = .localLoopback) :
    s.leaveMode p c = s.exitLocal p := by
  simp only [State.leaveMode, h]

theorem State.leaveMode_remote {s : State} {p : Port} {c : Int} (h : (s.port p).mode = .remoteLoopback) :
    s.leaveMode p c = s.exitRemote p c := by
  simp only [State.leaveMode, h]

theorem State.leaveMode_disabled {s : State} {p : Port} {c : Int} (h : (s.port p).mode = .disabled) :
    s.leaveMode p c = s.exitDisabled p := by
  simp only [State.leaveMode, h]

end Sys2Proof.Machine
end

section
/-! SUPPORT. One mode left for another (R14 to R19), and the statement about SET_PORT_MODE. -/

namespace Sys2Proof.Machine

/-! ### A mode left and another entered -/

theorem State.port_exitRemote (s : State) (p : Port) (cause : Int) :
    (s.exitRemote p cause).port p =
      { s.port p with mode := .normal, returnList := [], persistence := none } := by
  rw [State.exitRemote_eq]
  exact Both.get_modify_same ..

theorem State.port_exitLocal (s : State) (p : Port) :
    (s.exitLocal p).port p =
      { s.port p with
        mode := .normal, rx := .hunt, persistence := none, front := Front.start, joined := false } := by
  rw [State.exitLocal_eq]
  exact Both.get_modify_same ..

theorem State.port_exitDisabled (s : State) (p : Port) :
    (s.exitDisabled p).port p =
      { s.port p with
        mode := .normal, tx := if (s.port p).tx = .silent then .fill else (s.port p).tx
        fill := if (s.port p).tx = .silent then (s.port p).loopCode else (s.port p).fill
        pos := if (s.port p).tx = .silent then 0 else (s.port p).pos } := by
  rw [State.exitDisabled_eq]
  exact Both.get_modify_same ..

theorem State.exitRemote_enterLocal (s : State) (p : Port) (cause : Int) :
    (s.exitRemote p cause).enterLocal p = { s with
      ports := s.ports.modify p fun u =>
        { u with
          mode := .localLoopback, returnList := [], persistence := none, front := Front.start
          joined := false, rx := if u.rx = .down then .down else .hunt }
      bqm := (s.bqm.releaseAll (s.port p).returnList).letGo (s.port p).receiving
      cmn := s.cmn.note
        { kind := .autoloopExit, block := portBlock p, port := some p, value := some cause } } := by
  rw [State.enterLocal_eq, State.port_exitRemote, State.exitRemote_eq]
  simp only [Both.modify_modify]
  rfl

theorem State.exitDisabled_enterLocal (s : State) (p : Port) :
    (s.exitDisabled p).enterLocal p = { s with
      ports := s.ports.modify p fun u =>
        { u with
          mode := .localLoopback, persistence := none, front := Front.start, joined := false
          rx := if u.rx = .down then .down else .hunt
          tx := if u.tx = .silent then .fill else u.tx
          fill := if u.tx = .silent then u.loopCode else u.fill
          pos := if u.tx = .silent then 0 else u.pos }
      bqm := s.bqm.letGo (s.port p).receiving } := by
  rw [State.enterLocal_eq, State.port_exitDisabled, State.exitDisabled_eq]
  simp only [Both.modify_modify]
  rfl

theorem State.exitDisabled_enterRemote (s : State) (p : Port) :
    ((s.exitDisabled p).dropReception p).enterRemote p = { s with
      ports := s.ports.modify p fun u =>
        { u with
          mode := .remoteLoopback, persistence := none, returnList := []
          front := if u.inFrame then u.front.restart else u.front
          rx := if u.rx = .down then .down else .hunt
          tx := if u.tx = .silent then .fill else u.tx
          fill := if u.tx = .silent then u.loopCode else u.fill
          pos := if u.tx = .silent then 0 else u.pos }
      bqm := (s.bqm.letGo (s.port p).receiving).flush p } := by
  rw [State.enterRemote_eq, State.port_exitDisabled, State.exitDisabled_eq]
  simp only [Both.modify_modify]
  rfl

/-- LOCAL_LOOPBACK is left with the receiver in HUNT, so the entry that follows finds no reception to drop
(R16, R19). -/
theorem State.exitLocal_enterRemote (s : State) (p : Port) :
    ((s.exitLocal p).dropReception p).enterRemote p = { s with
      ports := s.ports.modify p fun u =>
        { u with
          mode := .remoteLoopback, rx := .hunt, persistence := none, returnList := []
          front := Front.start, joined := false }
      bqm := (s.bqm.letGo (s.port p).receiving).flush p } := by
  rw [State.enterRemote_eq, State.port_exitLocal, State.exitLocal_eq]
  simp only [Both.modify_modify]
  rfl

/-- LOCAL_LOOPBACK left for DISABLED: the receiver goes from HUNT to DOWN (R17, R19). -/
theorem State.exitLocal_enterDisabled (s : State) (p : Port) :
    (s.exitLocal p).enterDisabled p = { s with
      ports := s.ports.modify p fun u =>
        { u with
          mode := .disabled, persistence := none, rx := .down, front := Front.start, joined := false
          tx := if u.transmitting.isSome then u.tx else .silent }
      fsw := s.fsw.forget p
      bqm := (s.bqm.letGo (s.port p).receiving).flush p
      cmn := s.cmn.note { kind := .portDown, block := portBlock p, port := some p } } := by
  rw [State.enterDisabled_up (by rw [State.port_exitLocal]; simp), State.port_exitLocal, State.exitLocal_eq]
  simp only [Both.modify_modify]
  rfl

theorem State.exitRemote_enterDisabled_down {s : State} {p : Port} (cause : Int)
    (h : (s.port p).rx = .down) :
    (s.exitRemote p cause).enterDisabled p = { s with
      ports := s.ports.modify p fun u =>
        { u with
          mode := .disabled, persistence := none, rx := .down, front := Front.start, returnList := []
          tx := if u.transmitting.isSome then u.tx else .silent }
      bqm := ((s.bqm.releaseAll (s.port p).returnList).letGo (s.port p).receiving).flush p
      cmn := s.cmn.note
        { kind := .autoloopExit, block := portBlock p, port := some p, value := some cause } } := by
  have hrec : (s.port p).receiving = none := by simp only [LinePort.receiving, h]
  have hrx : (s.ports.get p).rx = .down := h
  rw [State.enterDisabled_down (by rw [State.port_exitRemote]; exact h), State.exitRemote_eq, hrec]
  simp only [Both.modify_modify]
  congr 1
  exact Both.modify_congr _ _ (by rw [← hrx]; rfl)

theorem State.exitRemote_enterDisabled_up {s : State} {p : Port} (cause : Int)
    (h : (s.port p).rx ≠ .down) :
    (s.exitRemote p cause).enterDisabled p = { s with
      ports := s.ports.modify p fun u =>
        { u with
          mode := .disabled, persistence := none, rx := .down, front := Front.start, returnList := []
          tx := if u.transmitting.isSome then u.tx else .silent }
      fsw := s.fsw.forget p
      bqm := ((s.bqm.releaseAll (s.port p).returnList).letGo (s.port p).receiving).flush p
      cmn := (s.cmn.note
          { kind := .autoloopExit, block := portBlock p, port := some p, value := some cause }).note
        { kind := .portDown, block := portBlock p, port := some p } } := by
  rw [State.enterDisabled_up (by rw [State.port_exitRemote]; exact h), State.port_exitRemote,
    State.exitRemote_eq]
  simp only [Both.modify_modify]
  rfl

/-! ### Loop codes and a port that is not there -/

theorem State.setLoopCode_remote {s : State} {p : Port} (c : LoopCode)
    (h : (s.port p).mode = .remoteLoopback) :
    s.setLoopCode p c = { s with
      ports := s.ports.modify p fun u =>
        { u with mode := .normal, returnList := [], persistence := none, loopCode := c }
      bqm := s.bqm.releaseAll (s.port p).returnList
      cmn := s.cmn.note
        { kind := .autoloopExit, block := portBlock p, port := some p, value := some 2 } } := by
  rw [State.setLoopCode, if_pos h, State.exitRemote_eq]
  simp only [State.onPort, Both.modify_modify]

theorem State.setLoopCode_plain {s : State} {p : Port} (c : LoopCode)
    (h : (s.port p).mode ≠ .remoteLoopback) :
    s.setLoopCode p c = { s with ports := s.ports.modify p fun u => { u with loopCode := c } } := by
  rw [State.setLoopCode, if_neg h]
  rfl

/-- Every action of SET_PORT_MODE has its row. -/
theorem action_row {a : Byte} (h1 : 1 ≤ a.toNat) (h7 : a.toNat ≤ 7) :
    (∃ m row, ModeRow a m row) ∨ ∃ c row, CodeRow a c row := by
  have ha : ∀ k : Byte, a.toNat = k.toNat → a = k := fun k => BitVec.toNat_inj.1
  interval_cases hn : a.toNat
  · exact .inl ⟨_, _, .inl ⟨ha 1 rfl, rfl, rfl⟩⟩
  · exact .inl ⟨_, _, .inr (.inl ⟨ha 2 rfl, rfl, rfl⟩)⟩
  · exact .inl ⟨_, _, .inr (.inr (.inl ⟨ha 3 rfl, rfl, rfl⟩))⟩
  · exact .inl ⟨_, _, .inr (.inr (.inr ⟨ha 4 rfl, rfl, rfl⟩))⟩
  · exact .inr ⟨_, _, .inl ⟨ha 5 rfl, rfl, rfl⟩⟩
  · exact .inr ⟨_, _, .inr (.inl ⟨ha 6 rfl, rfl, rfl⟩)⟩
  · exact .inr ⟨_, _, .inr (.inr ⟨ha 7 rfl, rfl, rfl⟩)⟩

/-- A port other than 1 and 2 is BAD_INDEX, with a free value as its figure (R175; log entries 10, 29). -/
theorem exec_port_badIndex {s : State} {b : Nat} {f : Frame} {n a : Byte} (h : s.Commanded b f)
    (hp : f.payload = [7, n, a]) (h1 : 1 ≤ a.toNat) (h7 : a.toNat ≤ 7) (hn1 : n ≠ 1) (hn2 : n ≠ 2) :
    ∃ g : Half, exec (rowOf f.payload) s =
      .next ({ s.takeHead with free := s.free + 1 }.answered b f
        { status := 3, reason := 3, figure := g.toNat, data := [] }) := by
  have hport : portOf (num1 f.payload 1) = none := by
    rw [hp, show num1 [7, n, a] 1 = n.toNat from rfl, portOf_none hn1 hn2]
  have hrow : rowOf f.payload = modeRow a.toNat := by rw [hp]; rfl
  refine ⟨Config.figureWithoutIndex s.takeHead.free, ?_⟩
  rw [hrow]
  rcases action_row h1 h7 with ⟨m, row, hr⟩ | ⟨c, row, hr⟩
  · rw [hr.row.1, exec_modeRow h hp hr]
    simp only [setMode, hport]
    rfl
  · rw [hr.row.1, exec_codeRow h hp hr]
    simp only [setCode, hport]
    rfl

end Sys2Proof.Machine
end

section
/-! SUPPORT. The statement about SET_PORT_MODE (R14 to R19, R175). -/

namespace Sys2Proof.Machine

/-- A mode left for another by the command: what the exit and the entry make of the state (R14). -/
theorem exec_mode_left {s : State} {b : Nat} {f : Frame} {p : Port} {n a : Byte} {k m : PortMode}
    {row : Instr} (h : s.Commanded b f) (hp : f.payload = [7, n, a]) (hn : n.toNat = codePort p)
    (hr : ModeRow a m row) (hm : m = .normal ∨ m = .disabled ∨ s.cru.role = .inactive)
    (hk : (s.port p).mode = k) (hne : k ≠ m) :
    exec row s =
      .next (((s.takeHead.leaveMode p 2).enterMode p m).answered b f (Answer.ok [])) := by
  have hk' : (s.takeHead.port p).mode = k := hk
  rw [exec_mode_accepted h hp hn hr hm, State.changeMode_eq hk' hne]

theorem modeRow_normal : ModeRow 1 .normal .setNormal := .inl ⟨rfl, rfl, rfl⟩
theorem modeRow_local : ModeRow 2 .localLoopback .setLocalLoopback := .inr (.inl ⟨rfl, rfl, rfl⟩)
theorem modeRow_remote : ModeRow 3 .remoteLoopback .setRemoteLoopback := .inr (.inr (.inl ⟨rfl, rfl, rfl⟩))
theorem modeRow_disabled : ModeRow 4 .disabled .setDisabled := .inr (.inr (.inr ⟨rfl, rfl, rfl⟩))

/-- Settles O54: the command changes the port by the exit from the mode it had and the entry into the one it
names, or by the loop code, each as stated of the state alone. -/
theorem portModesAreSet : Obligations.PortModesAreSet := by
  unfold Obligations.PortModesAreSet
  refine ⟨?judged, ?normal, ?loopLocal, ?loopRemote, ?disabledUp, ?loopFromOther, ?disabledFromOther, ?code,
    ?badPort⟩
  case judged =>
    intro s b f p n a m row h hp hn hr
    refine ⟨fun hl hi => exec_mode_refused h hp hn hr hl hi, fun hm hk => ?_⟩
    rw [exec_mode_accepted h hp hn hr hm, State.changeMode_same (s := s.takeHead) hk]
  case normal =>
    intro s b f p n h hp hn
    have hleft {k} := exec_mode_left (k := k) h hp hn modeRow_normal (.inl rfl)
    refine ⟨fun hk => ?_, fun hk => ?_, fun hk => ?_⟩
    · rw [hleft hk (by decide), State.leaveMode_disabled (s := s.takeHead) hk, State.exitDisabled_eq]
      rfl
    · rw [hleft hk (by decide), State.leaveMode_remote (s := s.takeHead) hk, State.exitRemote_eq]
      rfl
    · rw [hleft hk (by decide), State.leaveMode_local (s := s.takeHead) hk, State.exitLocal_eq]
      rfl
  case loopLocal =>
    intro s b f p n h hp hn hi
    have hleft {k} := exec_mode_left (k := k) h hp hn modeRow_local (.inr (.inr hi))
    refine ⟨fun hk => ?_, fun hk => ?_⟩
    · rw [hleft hk (by decide), State.leaveMode_normal (s := s.takeHead) hk, State.enterMode,
        State.enterLocal_eq]
      rfl
    · rw [hleft hk (by decide), State.leaveMode_remote (s := s.takeHead) hk, State.enterMode,
        State.exitRemote_enterLocal]
      rfl
  case loopRemote =>
    intro s b f p n h hp hn hk hi
    rw [exec_mode_left h hp hn modeRow_remote (.inr (.inr hi)) hk (by decide),
      State.leaveMode_normal (s := s.takeHead) hk, State.enterMode, State.enterRemote_eq]
    rfl
  case disabledUp =>
    intro s b f p n h hp hn hk hx
    rw [exec_mode_left h hp hn modeRow_disabled (.inr (.inl rfl)) hk (by decide),
      State.leaveMode_normal (s := s.takeHead) hk, State.enterMode, State.enterDisabled_up (s := s.takeHead) hx]
    rfl
  case loopFromOther =>
    intro s b f p n h hn hi
    have hleft {a k m row} (hp : f.payload = [7, n, a]) (hr : ModeRow a m row) :=
      exec_mode_left (k := k) h hp hn hr (.inr (.inr hi))
    refine ⟨fun hk hp => ?_, fun hk hp => ?_, fun hk hp => ?_⟩
    · rw [hleft hp modeRow_local hk (by decide), State.leaveMode_disabled (s := s.takeHead) hk,
        State.enterMode, State.exitDisabled_enterLocal]
      rfl
    · rw [hleft hp modeRow_remote hk (by decide), State.leaveMode_disabled (s := s.takeHead) hk,
        State.enterMode, State.exitDisabled_enterRemote]
      rfl
    · rw [hleft hp modeRow_remote hk (by decide), State.leaveMode_local (s := s.takeHead) hk,
        State.enterMode, State.exitLocal_enterRemote]
      rfl
  case disabledFromOther =>
    intro s b f p n h hp hn
    have hleft {k} := exec_mode_left (k := k) h hp hn modeRow_disabled (.inr (.inl rfl))
    refine ⟨fun hk hx => ?_, fun hk => ?_, fun hk => ?_⟩
    · rw [hleft hk (by decide), State.leaveMode_normal (s := s.takeHead) hk, State.enterMode,
        State.enterDisabled_down (s := s.takeHead) hx]
      rfl
    · rw [hleft hk (by decide), State.leaveMode_remote (s := s.takeHead) hk, State.enterMode]
      by_cases hx : (s.port p).rx = .down
      · rw [State.exitRemote_enterDisabled_down (s := s.takeHead) 2 hx, if_pos hx, if_pos hx]
        rfl
      · rw [State.exitRemote_enterDisabled_up (s := s.takeHead) 2 hx, if_neg hx, if_neg hx]
        rfl
    · rw [hleft hk (by decide), State.leaveMode_local (s := s.takeHead) hk, State.enterMode,
        State.exitLocal_enterDisabled]
      rfl
  case code =>
    intro s b f p n a c row h hp hn hr
    refine ⟨fun hk => ?_, fun hk => ?_⟩
    · rw [exec_code_accepted h hp hn hr, State.setLoopCode_plain (s := s.takeHead) c hk]
      rfl
    · rw [exec_code_accepted h hp hn hr, State.setLoopCode_remote (s := s.takeHead) c hk]
      rfl
  case badPort => exact fun s b f n a h hp h1 h7 hn1 hn2 => exec_port_badIndex h hp h1 h7 hn1 hn2

end Sys2Proof.Machine
end

section
/-! SUPPORT. The key switch (R62 to R68): the loopback modes it ends, the horn it judges, the role it
decides, and the statement about it. -/

namespace Sys2Proof.Machine

/-! ### Ports returned to NORMAL -/

/-- A port in no loopback mode is left as it is (R19). -/
theorem State.unloop_plain {s : State} {p : Port} (cause : Int)
    (h : (s.port p).mode = .normal ∨ (s.port p).mode = .disabled) : s.unloop p cause = s := by
  rcases h with h | h <;> simp only [State.unloop, h]

theorem State.unloop_remote {s : State} {p : Port} (cause : Int) (h : (s.port p).mode = .remoteLoopback) :
    s.unloop p cause = s.exitRemote p cause := by
  simp only [State.unloop, h]

theorem State.unloop_local {s : State} {p : Port} (cause : Int) (h : (s.port p).mode = .localLoopback) :
    s.unloop p cause = s.exitLocal p := by
  simp only [State.unloop, h]

theorem State.unloop_port_other (s : State) (p : Port) (cause : Int) :
    (s.unloop p cause).port p.other = s.port p.other := by
  unfold State.unloop
  split
  · rw [State.exitLocal_eq]
    exact Both.get_modify_other ..
  · rw [State.exitRemote_eq]
    exact Both.get_modify_other ..
  · rfl

/-- With the other port in no loopback mode, one port alone is returned to NORMAL. -/
theorem State.unloopBoth_one {s : State} (p : Port) (cause : Int)
    (h : (s.port p.other).mode = .normal ∨ (s.port p.other).mode = .disabled) :
    s.unloopBoth cause = s.unloop p cause := by
  cases p with
  | A =>
    refine State.unloop_plain (p := .B) cause ?_
    rw [show (Port.B : Port) = Port.A.other from rfl, State.unloop_port_other]
    exact h
  | B =>
    rw [State.unloopBoth, State.unloop_plain (p := .A) cause h]

/-- With both ports in no loopback mode nothing changes. -/
theorem State.unloopBoth_plain {s : State} (cause : Int)
    (h : ∀ p, (s.port p).mode = .normal ∨ (s.port p).mode = .disabled) : s.unloopBoth cause = s := by
  rw [State.unloopBoth_one .A cause (h _), State.unloop_plain cause (h _)]

/-! ### The level and the horn -/

theorem State.keyOn_setLevel_key (s : State) (on : Bool) :
    (s.setLevel .key on).keyOn = (s.addressed && on) := by
  simp only [State.keyOn, State.level, Ciu.input, State.setLevel, State.onCiu, inputIndex]
  rw [Tab.get_set_same _ _ _ _ (by decide)]
  rfl

theorem State.horn_setLevel_key (s : State) (on : Bool) :
    (s.setLevel .key on).level .horn = s.level .horn := by
  simp only [State.level, Ciu.input, State.setLevel, State.onCiu, inputIndex]
  rw [Tab.get_set_ne _ _ _ _ _ (by decide)]

/-- A key change that is due: the level, then the role, then the horn, which sounds while the key of an
addressed part is on (R62, R76, R153). -/
theorem exec_keyChange {s : State} {on : Bool} (h : (s.ciu.input .key).due on = true) :
    exec (.debouncedChange .key on) s =
      .next (((s.setLevel .key on).keyChange on).onSnu fun u =>
        u.setHorn (s.addressed && on && s.level .horn)) := by
  have harm : exec (.debouncedChange .key on) s = execDebouncedChange .key on s := rfl
  have hkeep := State.keyChange_keeps (s.setLevel .key on) on
  have hhorn : ((s.setLevel .key on).keyChange on).judgeHorn =
      ((s.setLevel .key on).keyChange on).onSnu fun u =>
        u.setHorn (s.addressed && on && s.level .horn) := by
    rw [← s.keyOn_setLevel_key on, ← s.horn_setLevel_key on]
    simp only [State.judgeHorn, State.keyOn, State.addressed, State.level, hkeep]
  rw [harm, execDebouncedChange, if_pos h]
  exact congrArg Host.Outcome.next hhorn

/-! ### The role after the key -/

theorem State.keyChange_unaddressed {s : State} (on : Bool) (h : s.addressed = false) :
    s.keyChange on = s :=
  if_pos h

theorem State.keyChange_on {s : State} (h : s.addressed = true) : s.keyChange true = s.keyTurnsOn := by
  simp only [State.keyChange, h, Bool.true_eq_false, if_false, if_true]

theorem State.keyChange_off {s : State} (h : s.addressed = true) : s.keyChange false = s.keyTurnsOff := by
  simp only [State.keyChange, h, Bool.true_eq_false, Bool.false_eq_true, if_false]

theorem State.keyTurnsOn_idle {s : State} (h : s.cru.role = .inactive ∨ s.cru.role = .passive) :
    s.keyTurnsOn = s.keyOnIdle := by
  rcases h with h | h <;> simp only [State.keyTurnsOn, h]

theorem State.keyTurnsOn_releasing {s : State} (h : s.cru.role = .active) (hr : s.cru.releasing = true) :
    s.keyTurnsOn = s.keyOnReleasing := by
  simp only [State.keyTurnsOn, h, hr, if_true]

/-- A key-on in the other roles changes nothing (R62, R66). -/
theorem State.keyTurnsOn_other {s : State}
    (h : s.cru.role = .claiming ∨ s.cru.role = .blocked ∨ s.cru.role = .conflict ∨
      (s.cru.role = .active ∧ s.cru.releasing = false)) : s.keyTurnsOn = s := by
  rcases h with h | h | h | ⟨h, hr⟩
  · simp only [State.keyTurnsOn, h]
  · simp only [State.keyTurnsOn, h]
  · simp only [State.keyTurnsOn, h]
  · simp only [State.keyTurnsOn, h, hr, Bool.false_eq_true, if_false]

theorem State.keyTurnsOff_idle {s : State} (h : s.cru.role = .inactive ∨ s.cru.role = .passive) :
    s.keyTurnsOff = s.onCru fun u => { u with pendingKeyOn := false } := by
  rcases h with h | h <;> simp only [State.keyTurnsOff, h]

theorem State.keyTurnsOff_releasing {s : State} (h : s.cru.role = .active) (hr : s.cru.releasing = true) :
    s.keyTurnsOff = s := by
  simp only [State.keyTurnsOff, h, hr, if_true]

theorem State.keyTurnsOff_standing {s : State} (h : s.cru.role = .active) (hr : s.cru.releasing = false)
    (hst : s.standing = true) : s.keyTurnsOff = s.roleByTable := by
  simp only [State.keyTurnsOff, h, hr, hst, Bool.false_eq_true, if_false, if_true]

theorem State.keyTurnsOff_moving {s : State} (h : s.cru.role = .active) (hr : s.cru.releasing = false)
    (hst : s.standing = false) : s.keyTurnsOff = s.startReleasing := by
  simp only [State.keyTurnsOff, h, hr, hst, Bool.false_eq_true, if_false]

theorem State.keyTurnsOff_claim {s : State}
    (h : s.cru.role = .claiming ∨ s.cru.role = .blocked ∨ s.cru.role = .conflict) :
    s.keyTurnsOff = s.roleByTable := by
  rcases h with h | h | h <;> simp only [State.keyTurnsOff, h]

/-! ### What each of these leaves -/

theorem State.tractionHold_eq (s : State) : s.tractionHold = { s with tdu := s.tdu.held } := by
  unfold State.tractionHold Tdu.held
  split <;> rfl

theorem State.tractionRun_eq (s : State) : s.tractionRun = { s with tdu := s.tdu.freed } := by
  unfold State.tractionRun Tdu.freed
  split <;> rfl

theorem State.startReleasing_eq (s : State) :
    s.startReleasing = { s with
      cru := { s.cru with
        releasing := true, releasingTimer := if s.speedKnown then none else some 10000 }
      tdu := s.tdu.held } := by
  rw [State.startReleasing, State.tractionHold_eq]
  rfl

theorem State.keyOnReleasing_eq (s : State) :
    s.keyOnReleasing = { s with
      cru := { s.cru with releasing := false, releasingTimer := none, tableFull := false }
      tdu := s.tdu.freed } := by
  rw [State.keyOnReleasing, State.tractionRun_eq]
  rfl

/-- A key-on with no profile live: left pending, behind the exit from the loopback modes (R62). -/
theorem State.keyOnIdle_noProfile {s : State} (h : s.tdu.live = none) :
    s.keyOnIdle = { s.unloopBoth 3 with
      cru := { s.cru with tableFull := false, pendingKeyOn := true }
      cmn := (s.unloopBoth 3).cmn.note { kind := .profileMissing, block := .cru } } := by
  obtain ⟨-, -, hcru, -, htdu, -⟩ := State.unloopBoth_keeps s 3
  have hlive : ¬ (s.unloopBoth 3).tdu.live.isSome = true := by rw [htdu, h]; decide
  rw [← hcru]
  exact if_neg hlive

/-- The role that a key-on with a profile live takes (R62). -/
def Cru.keyOnRole (u : Cru) : Role := if u.hearsCommand then .blocked else .claiming

/-- The state that a key-on with a profile live takes its role from: the loopback modes left, and the
table-full flag cleared (R62). -/
def State.clearedForKeyOn (s : State) : State :=
  (s.unloopBoth 3).onCru fun u => { u with tableFull := false }

theorem State.clearedForKeyOn_keeps (s : State) :
    s.clearedForKeyOn.own = s.own ∧ s.clearedForKeyOn.ciu = s.ciu ∧ s.clearedForKeyOn.tdu = s.tdu ∧
      s.clearedForKeyOn.snu = s.snu ∧ s.clearedForKeyOn.mgu = s.mgu ∧
      s.clearedForKeyOn.cru = { s.cru with tableFull := false } := by
  simp [State.clearedForKeyOn]

theorem State.keyOnIdle_profile {s : State} {p : Profile} (h : s.tdu.live = some p) :
    s.keyOnIdle = s.clearedForKeyOn.setRole s.cru.keyOnRole := by
  obtain ⟨-, -, htdu, -, -, hcru⟩ := s.clearedForKeyOn_keeps
  have hlive : s.clearedForKeyOn.tdu.live.isSome = true := by rw [htdu, h]; rfl
  have hrole : s.clearedForKeyOn.cru.keyOnRole = s.cru.keyOnRole := by rw [hcru]; rfl
  refine (if_pos hlive).trans ?_
  rw [← hrole, Cru.keyOnRole, apply_ite (State.setRole _)]
  rfl

theorem Cru.keyOnRole_ne_active (u : Cru) : u.keyOnRole ≠ .active := by
  unfold Cru.keyOnRole; split <;> decide

/-- The Cab Role Unit in the role that a key-on takes (R62, R64, R67, R70). -/
theorem Cru.enter_keyOnRole (u : Cru) :
    (u.enter u.keyOnRole).pendingKeyOn = false ∧
    (u.hearsCommand = true → (u.enter u.keyOnRole).clearTimer = none ∧ (u.enter u.keyOnRole).lamp = true ∧
      (u.enter u.keyOnRole).flashTimer = some 500) ∧
    (u.hearsCommand = false → (u.enter u.keyOnRole).claimWindow = some 300 ∧
      (u.enter u.keyOnRole).announceTimer = some 100 ∧ (u.enter u.keyOnRole).lamp = false) := by
  cases h : u.hearsCommand <;> simp [Cru.keyOnRole, Cru.enter, Role.alerts, announcedRole, h]

/-- A change of role with no part in command before or after leaves the traction alone (R90). -/
theorem State.setRole_tdu_kept {s : State} {r : Role} (ha : s.cru.role ≠ .active)
    (hc : s.cru.role ≠ .conflict) (hr : r ≠ .active) : (s.setRole r).tdu = s.tdu := by
  rw [State.setRole_tdu]
  unfold Tdu.follow
  rw [if_neg hr]
  split
  next h => exact absurd h ha
  next h => exact absurd h hc
  next => rfl

theorem Cru.tableRole_cases (u : Cru) : u.tableRole = .passive ∨ u.tableRole = .inactive := by
  unfold Cru.tableRole
  split
  · exact .inl rfl
  · exact .inr rfl

/-- A role taken by the table is not announced: nothing is sent (R58, R59). -/
theorem State.roleByTable_silent (s : State) :
    s.roleByTable =
      ((s.onCru fun u => u.enter s.cru.tableRole).departFrom s.cru.role s.cru.tableRole).onSnu fun u =>
        u.setAlertRole false := by
  unfold State.roleByTable State.setRole
  rcases s.cru.tableRole_cases with h | h <;>
    simp [h, State.sendAnnounce, State.departFrom_keeps, Cru.enter, announcedRole, Role.alerts]

/-- CLAIMING and BLOCKED are left for the table's role with no effect but the role's own, CONFLICT with
traction OFF (R67, R68, R90). -/
theorem State.roleByTable_claim {s : State}
    (h : s.cru.role = .claiming ∨ s.cru.role = .blocked ∨ s.cru.role = .conflict) :
    s.roleByTable =
      (if s.cru.role = .conflict then (s.onCru fun u => u.enter s.cru.tableRole).tractionOff
        else s.onCru fun u => u.enter s.cru.tableRole).onSnu fun u => u.setAlertRole false := by
  have hna : s.cru.tableRole ≠ .active := by
    rcases s.cru.tableRole_cases with h | h <;> rw [h] <;> decide
  rw [State.roleByTable_silent]
  rcases h with h | h | h
  · simp [h, State.departFrom]
  · simp [h, State.departFrom]
  · simp [h, State.departFrom, hna]

/-! ### The key switch -/

theorem State.key_setLevel (s : State) (on : Bool) {t : State} (h : t.ciu = (s.setLevel .key on).ciu) :
    t.level .key = on := by
  simp only [State.level, Ciu.input, h, State.setLevel, State.onCiu, inputIndex]
  rw [Tab.get_set_same _ _ _ _ (by decide)]

/-- The state that a key change leaves, but for the horn, is that of the key. -/
theorem exec_keyChange_addressed {s : State} (on : Bool) (h : (s.ciu.input .key).due on = true)
    (ha : s.addressed = true) :
    exec (.debouncedChange .key on) s =
      .next ((if on then (s.setLevel .key true).keyTurnsOn else (s.setLevel .key false).keyTurnsOff).onSnu
        fun u => u.setHorn (on && s.level .horn)) := by
  have ha' : (s.setLevel .key on).addressed = true := ha
  rw [exec_keyChange h, ha, Bool.true_and]
  cases on with
  | true => rw [State.keyChange_on ha']; rfl
  | false => rw [State.keyChange_off ha']; rfl

/-- A key-on with no profile live, from the state that the loopback modes left gives (R15, R16, R62). -/
theorem exec_keyOn_noProfile {s : State} (ha : s.addressed = true)
    (hd : (s.ciu.input .key).due true = true) (hr : s.cru.role = .inactive ∨ s.cru.role = .passive)
    (hl : s.tdu.live = none) :
    exec (.debouncedChange .key true) s = .next { (s.setLevel .key true).unloopBoth 3 with
      cru := { s.cru with tableFull := false, pendingKeyOn := true }
      cmn := ((s.setLevel .key true).unloopBoth 3).cmn.note { kind := .profileMissing, block := .cru }
      snu := s.snu.setHorn (s.level .horn) } := by
  have hsnu : ((s.setLevel .key true).unloopBoth 3).snu = s.snu := by simp
  rw [exec_keyChange_addressed true hd ha, if_pos rfl, State.keyTurnsOn_idle (s := s.setLevel .key true) hr,
    State.keyOnIdle_noProfile (s := s.setLevel .key true) hl, ← hsnu]
  rfl

end Sys2Proof.Machine
end

section
/-! SUPPORT. The statement about the key switch (R15, R16, R19, R58, R62 to R68, R90). -/

namespace Sys2Proof.Machine

/-- A key-on with a profile live claims, or is blocked by another in command (R62). -/
theorem exec_keyOn_profile {s : State} {p : Profile} (ha : s.addressed = true)
    (hd : (s.ciu.input .key).due true = true) (hr : s.cru.role = .inactive ∨ s.cru.role = .passive)
    (hl : s.tdu.live = some p) :
    ∃ t n, exec (.debouncedChange .key true) s = .next t ∧
      t.cru = { ({ s.cru with tableFull := false } : Cru).enter s.cru.keyOnRole with seq := n } ∧
      t.level .key = true ∧ t.tdu = s.tdu ∧ t.mgu = s.mgu ∧ t.own = s.own := by
  obtain ⟨hown, hciu, htdu, -, hmgu, hcru⟩ := (s.setLevel .key true).clearedForKeyOn_keeps
  obtain ⟨kown, -, kciu, kmgu, -⟩ :=
    State.setRole_keeps (s.setLevel .key true).clearedForKeyOn s.cru.keyOnRole
  obtain ⟨n, hn⟩ := State.setRole_cru (s.setLevel .key true).clearedForKeyOn s.cru.keyOnRole
  have hrole : (s.setLevel .key true).clearedForKeyOn.cru.role = s.cru.role := by rw [hcru]; rfl
  have ktdu : ((s.setLevel .key true).clearedForKeyOn.setRole s.cru.keyOnRole).tdu = s.tdu := by
    rw [State.setRole_tdu_kept ?_ ?_ s.cru.keyOnRole_ne_active, htdu]
    · rfl
    all_goals
      rw [hrole]
      rcases hr with h | h <;> rw [h] <;> decide
  refine ⟨((s.setLevel .key true).clearedForKeyOn.setRole s.cru.keyOnRole).onSnu fun u =>
    u.setHorn (true && s.level .horn), n, ?_, ?_, ?_, ktdu, kmgu.trans hmgu, kown.trans hown⟩
  · rw [exec_keyChange_addressed true hd ha, if_pos rfl,
      State.keyTurnsOn_idle (s := s.setLevel .key true) hr,
      State.keyOnIdle_profile (s := s.setLevel .key true) hl]
    rfl
  · exact hn.trans (by rw [hcru]; rfl)
  · exact s.key_setLevel true (kciu.trans hciu)

/-- The table's role, taken with the key off in ACTIVE (R65, R90, R138, R147). -/
theorem exec_keyOff_standing {s : State} (ha : s.addressed = true)
    (hd : (s.ciu.input .key).due false = true) (hr : s.cru.role = .active) (hrel : s.cru.releasing = false)
    (hst : s.standing = true) :
    ∃ t, exec (.debouncedChange .key false) s = .next t ∧ t.cru.role = s.cru.tableRole ∧
      t.tdu.state = .off ∧ t.jcu.contexts = [] ∧ t.sru.record = StopRecord.empty ∧
      t.level .key = false ∧ t.cru.cabs = s.cru.cabs := by
  have hna : s.cru.tableRole ≠ .active ∧ s.cru.tableRole ≠ .conflict := by
    rcases s.cru.tableRole_cases with h | h <;> rw [h] <;> decide
  have hr' : (s.setLevel .key false).cru.role = .active := hr
  obtain ⟨-, -, kciu, -⟩ := State.setRole_keeps (s.setLevel .key false) s.cru.tableRole
  obtain ⟨n, hsru⟩ := State.setRole_sru (s.setLevel .key false) s.cru.tableRole
  refine ⟨((s.setLevel .key false).setRole s.cru.tableRole).onSnu fun u =>
    u.setHorn (false && s.level .horn), ?_, State.setRole_role (s.setLevel .key false) _, ?_, ?_, ?_,
    s.key_setLevel false kciu, State.setRole_cabs (s.setLevel .key false) _⟩
  · rw [exec_keyChange_addressed false hd ha, if_neg (by decide),
      State.keyTurnsOff_standing (s := s.setLevel .key false) hr hrel hst]
    rfl
  · show ((s.setLevel .key false).setRole s.cru.tableRole).tdu.state = .off
    rw [State.setRole_tdu, hr', Tdu.follow, if_neg hna.1]
    simp only [if_neg hna.2]
    unfold Tdu.stopped
    split
    · assumption
    · rfl
  · exact (State.setRole_contexts _ _).trans (if_pos (.inr hr'))
  · show ((s.setLevel .key false).setRole s.cru.tableRole).sru.record = _
    rw [hsru, if_neg hna.1, if_pos hr']
    rfl

/-- The table's role, taken with the key off in CLAIMING, BLOCKED and CONFLICT: nothing is sent, and
CONFLICT alone takes the traction OFF (R64, R67, R68, R90). -/
theorem exec_keyOff_claim {s : State} (ha : s.addressed = true)
    (hd : (s.ciu.input .key).due false = true)
    (hr : s.cru.role = .claiming ∨ s.cru.role = .blocked ∨ s.cru.role = .conflict) :
    ∃ t, exec (.debouncedChange .key false) s = .next t ∧ t.cru = s.cru.enter s.cru.tableRole ∧
      t.level .key = false ∧ t.bqm = s.bqm ∧ t.cmn = s.cmn ∧ t.jcu = s.jcu ∧ t.ports = s.ports ∧
      t.mgu = s.mgu ∧ t.tdu = if s.cru.role = .conflict then s.tdu.stopped else s.tdu := by
  obtain ⟨-, -, kciu, -⟩ := State.roleByTable_keeps (s.setLevel .key false)
  have hr' : (s.setLevel .key false).cru.role = s.cru.role := rfl
  have hrole := State.roleByTable_claim (s := s.setLevel .key false) hr
  refine ⟨(s.setLevel .key false).roleByTable.onSnu fun u => u.setHorn (false && s.level .horn), ?_, ?_,
    s.key_setLevel false kciu, ?_⟩
  · rw [exec_keyChange_addressed false hd ha, if_neg (by decide),
      State.keyTurnsOff_claim (s := s.setLevel .key false) hr]
  · rw [hrole]
    split <;> simp
  · rw [hrole, hr']
    split <;> simp

/-- The Cab Role Unit in a role taken by the table runs no timer and shows no lamp (R59, R67, R70). -/
theorem Cru.enter_tableRole (u : Cru) :
    (u.enter u.tableRole).claimWindow = none ∧ (u.enter u.tableRole).clearTimer = none ∧
      (u.enter u.tableRole).announceTimer = none ∧ (u.enter u.tableRole).lamp = false ∧
      (u.enter u.tableRole).flashTimer = none := by
  rcases u.tableRole_cases with h | h <;> simp [Cru.enter, h, announcedRole, Role.alerts]

/-- A key-off that the role takes no notice of, and one in the unaddressed part (R58, R63, R66). -/
theorem exec_keyOff_quiet {s : State} (hd : (s.ciu.input .key).due false = true)
    (h : s.addressed = false ∨ s.cru.role = .inactive ∨ s.cru.role = .passive ∨
      (s.cru.role = .active ∧ s.cru.releasing = true)) :
    exec (.debouncedChange .key false) s = .next { s.setLevel .key false with
      cru := if s.addressed = true ∧ s.cru.role ≠ .active then { s.cru with pendingKeyOn := false } else s.cru
      snu := s.snu.setHorn false } := by
  by_cases ha : s.addressed = true
  · rw [exec_keyChange_addressed false hd ha, if_neg (by decide)]
    have hrole : (s.cru.role = .inactive ∨ s.cru.role = .passive) ∨
        (s.cru.role = .active ∧ s.cru.releasing = true) := by simpa [ha, or_assoc] using h
    rcases hrole with hr | ⟨hr, hrel⟩
    · have hna : s.cru.role ≠ .active := by rcases hr with hr | hr <;> rw [hr] <;> decide
      rw [State.keyTurnsOff_idle (s := s.setLevel .key false) hr, if_pos ⟨ha, hna⟩]
      rfl
    · rw [State.keyTurnsOff_releasing (s := s.setLevel .key false) hr hrel, if_neg (fun k => k.2 hr)]
      rfl
  · rw [exec_keyChange hd, State.keyChange_unaddressed (s := s.setLevel .key false) _
        (Bool.eq_false_of_not_eq_true ha),
      if_neg (fun k => ha k.1), Bool.and_false, Bool.false_and]
    rfl

/-- A key-on that the role takes no notice of, and one in the unaddressed part (R58, R62, R153). -/
theorem exec_keyOn_quiet {s : State} (hd : (s.ciu.input .key).due true = true)
    (h : s.addressed = false ∨ s.cru.role = .claiming ∨ s.cru.role = .blocked ∨ s.cru.role = .conflict ∨
      (s.cru.role = .active ∧ s.cru.releasing = false)) :
    exec (.debouncedChange .key true) s = .next { s.setLevel .key true with
      snu := s.snu.setHorn (s.addressed && s.level .horn) } := by
  by_cases ha : s.addressed = true
  · rw [exec_keyChange_addressed true hd ha, if_pos rfl,
      State.keyTurnsOn_other (s := s.setLevel .key true) (by simpa [ha] using h), ha]
    rfl
  · rw [exec_keyChange hd, State.keyChange_unaddressed (s := s.setLevel .key true) _
        (Bool.eq_false_of_not_eq_true ha),
      Bool.and_true]
    rfl

/-- Settles O25: the key change is the level, the change of role that the role before it calls for, and the
horn; each clause names that change and takes its lemma. -/
theorem keySwitchDecidesTheRole : Obligations.KeySwitchDecidesTheRole := by
  unfold Obligations.KeySwitchDecidesTheRole
  refine ⟨?noProfile, ?profile, fun _ ha hd hr hrel hst => exec_keyOff_standing ha hd hr hrel hst, ?moving,
    ?looped, ?releasing, ?claim, fun _ hd h => exec_keyOff_quiet hd h, fun _ hd h => exec_keyOn_quiet hd h⟩
  case noProfile =>
    intro s ha hd hr hm hl
    rw [exec_keyOn_noProfile ha hd hr hl, State.unloopBoth_plain (s := s.setLevel .key true) 3 hm]
    rfl
  case profile =>
    intro s p ha hd hr hl
    obtain ⟨t, n, hex, hcru, hkey, htdu, hmgu, hown⟩ := exec_keyOn_profile ha hd hr hl
    obtain ⟨hpend, hblocked, hclaiming⟩ := ({ s.cru with tableFull := false } : Cru).enter_keyOnRole
    refine ⟨t, hex, ?_, ?_, ?_, ?_, ?_, ?_, hkey, htdu, hmgu, hown⟩ <;> rw [hcru]
    · rfl
    · rfl
    · exact hpend
    · rfl
    · exact hblocked
    · exact hclaiming
  case moving =>
    intro s ha hd hr hrel hst
    rw [exec_keyChange_addressed false hd ha, if_neg (by decide),
      State.keyTurnsOff_moving (s := s.setLevel .key false) hr hrel hst, State.startReleasing_eq]
    rfl
  case looped =>
    intro s p ha hd hr hl ho
    rw [exec_keyOn_noProfile ha hd hr hl, State.unloopBoth_one (s := s.setLevel .key true) p 3 ho]
    refine ⟨fun hm => ?_, fun hm => ?_⟩
    · rw [State.unloop_remote (s := s.setLevel .key true) 3 hm, State.exitRemote_eq]
      rfl
    · rw [State.unloop_local (s := s.setLevel .key true) 3 hm, State.exitLocal_eq]
      rfl
  case releasing =>
    intro s ha hd hr hrel
    rw [exec_keyChange_addressed true hd ha, if_pos rfl,
      State.keyTurnsOn_releasing (s := s.setLevel .key true) hr hrel, State.keyOnReleasing_eq]
    rfl
  case claim =>
    intro s ha hd hr
    obtain ⟨t, hex, hcru, hkey, hbqm, hcmn, hjcu, hports, hmgu, htdu⟩ := exec_keyOff_claim ha hd hr
    refine ⟨t, hex, ?_⟩
    obtain ⟨hwindow, hclear, hannounce, hlamp, hflash⟩ := s.cru.enter_tableRole
    rw [hcru, htdu]
    refine ⟨rfl, hwindow, hclear, hannounce, hlamp, hflash, rfl, rfl, hkey, hbqm, hcmn, hjcu, hports, hmgu,
      fun hc => if_neg hc, fun hc => ?_⟩
    rw [if_pos hc, Tdu.stopped]
    split
    next h => exact ⟨h, rfl⟩
    next => exact ⟨rfl, rfl⟩

end Sys2Proof.Machine
end

section
/-! SUPPORT. The two timers of the Frame Switch (R23, R30), with the statement about them. -/

namespace Sys2Proof.Machine

theorem exec_learningTimerExpiry_due {s : State} {a : Addr} {x : Port}
    (h : (s.fsw.node a).learned = some { side := x, left := 0 }) :
    exec (.learningTimerExpiry a) s =
      .next (s.onFsw fun w => w.onNode a fun e => { e with learned := none }) :=
  congrArg _ (if_pos (by rw [h]; rfl))

theorem exec_learningTimerExpiry_early {s : State} {a : Addr} {x : Port} {n : Nat}
    (h : (s.fsw.node a).learned = some { side := x, left := n + 1 }) :
    exec (.learningTimerExpiry a) s = .next s :=
  congrArg _ (if_neg (by simp [h]))

theorem exec_loopReportHoldExpiry_due {s : State} {p : Port} (h : (s.fsw.stats.get p).hold = some 0) :
    exec (.loopReportHoldExpiry p) s =
      .next (s.onFsw fun w => w.onStats p fun x => { x with hold := none }) :=
  congrArg _ (if_pos h)

theorem exec_loopReportHoldExpiry_early {s : State} {p : Port} {n : Nat}
    (h : (s.fsw.stats.get p).hold = some (n + 1)) : exec (.loopReportHoldExpiry p) s = .next s :=
  congrArg _ (if_neg (by simp [h]))

/-- Settles O12: each expiry is its one case, due or early; of the Node Table the entry of the node alone. -/
theorem switchTimersForget : Obligations.SwitchTimersForget := by
  refine ⟨?forget, ?holdEnds, ?learnedEarly, ?holdEarly⟩
  case forget =>
    intro a x s ha h
    refine ⟨_, exec_learningTimerExpiry_due h, rfl, rfl, ?_, fun c hc => ?_⟩
    · exact (Fsw.node_onNode _ _ _ _).trans (if_pos ⟨rfl, ha⟩)
    · exact (Fsw.node_onNode _ _ _ _).trans (if_neg fun k => hc k.1)
  case holdEnds => exact fun p s h => exec_loopReportHoldExpiry_due h
  case learnedEarly => exact fun a x n s h => exec_learningTimerExpiry_early h
  case holdEarly => exact fun p n s h => exec_loopReportHoldExpiry_early h

end Sys2Proof.Machine
end

section
/-! SUPPORT. What every command keeps: the commands that wait and the own address, by the shape of the
command, with the statement that every command completes. -/

namespace Sys2Proof.Machine

/-- The waiting commands and the own address are in `t` as they are in `s` (R40; log entry 26). -/
def State.QueueKept (s t : State) : Prop := t.pending = s.pending ∧ t.own = s.own

/-- An event command keeps what its two branches keep: its effect, and the state as it stands. -/
theorem State.QueueKept.ite {s t : State} {c : Prop} [Decidable c] (h : s.QueueKept t) :
    s.QueueKept (if c then t else s) := by
  split
  · exact h
  · exact ⟨rfl, rfl⟩

theorem State.consume_queueKept {s : State} {kind : Byte} {act : State → Frame → State}
    (acts : ∀ (t : State) (f : Frame), t.QueueKept (act t f)) : s.QueueKept (s.consume kind act) :=
  State.consume_ind (P := s.QueueKept) (fun t h => by simpa [State.QueueKept] using h)
    (fun t f h => ⟨(acts t f).1.trans h.1, (acts t f).2.trans h.2⟩)
    (fun t b h => by simpa [State.QueueKept] using h) ⟨rfl, rfl⟩

/-- An action keeps the waiting commands and the own address. -/
def Act.QueueKept (act : Act) : Prop := ∀ (t : State) (f : Frame), t.QueueKept (act t f).1

theorem State.control_queueKept {s : State} {row : Instr} {act : Act} (acts : act.QueueKept) :
    s.QueueKept (s.control row act) :=
  State.control_ind (P := s.QueueKept) (fun t h => by simpa [State.QueueKept] using h)
    (fun t f h => ⟨(acts t f).1.trans h.1, (acts t f).2.trans h.2⟩)
    (fun t f h => h) (fun t f a h => by simpa [State.QueueKept] using h)
    (fun t b h => by simpa [State.QueueKept] using h)
    (fun t h => by simpa [State.QueueKept] using h) ⟨rfl, rfl⟩

/-! ### The actions of the Management Unit -/

theorem answering_queueKept (g : State → List Byte → Answer) : (answering g).QueueKept :=
  fun _ _ => ⟨rfl, rfl⟩

theorem doing_queueKept {g : State → State} (h : ∀ t : State, t.QueueKept (g t)) : (doing g).QueueKept :=
  fun t _ => h t

/-- A table write keeps what the write of one entry keeps (R171). -/
theorem writeEntries_queueKept {α : Type} {lo hi size : Nat} {parse : Nat → List Byte → Option (Taken α)}
    {put : State → Nat → α → State} (puts : ∀ (t : State) i x, t.QueueKept (put t i x)) :
    Act.QueueKept fun t f => t.writeEntries lo hi size f.payload parse put :=
  fun t _ => State.writeEntries_ind (P := State.QueueKept t)
    (fun u i x h => ⟨(puts u i x).1.trans h.1, (puts u i x).2.trans h.2⟩) ⟨rfl, rfl⟩

theorem writeRoute_queueKept : Act.QueueKept fun t f => t.writeRoute f.payload :=
  fun t _ => State.writeRoute_ind (P := State.QueueKept t) (fun _ _ _ h => h) (fun _ _ _ h => h) ⟨rfl, rfl⟩

theorem writePattern_queueKept : Act.QueueKept fun t f => t.writePattern f.payload :=
  fun t _ => State.writePattern_ind (P := State.QueueKept t) (fun _ _ _ h => h) ⟨rfl, rfl⟩

theorem setMode_queueKept (m : PortMode) : (setMode m).QueueKept := by
  intro t f
  unfold setMode
  split
  · exact ⟨rfl, rfl⟩
  · split
    · exact ⟨rfl, rfl⟩
    · simp [State.QueueKept]

theorem setCode_queueKept (c : LoopCode) : (setCode c).QueueKept := by
  intro t f
  unfold setCode
  split
  · exact ⟨rfl, rfl⟩
  · simp [State.QueueKept]

theorem commitRoute_queueKept : commitRoute.QueueKept := by
  intro t f
  unfold commitRoute
  dsimp only
  split <;> exact ⟨rfl, rfl⟩

theorem commitProfile_queueKept : commitProfile.QueueKept := by
  intro t f
  unfold commitProfile
  dsimp only
  split
  · exact ⟨rfl, rfl⟩
  · split
    · exact ⟨rfl, rfl⟩
    · split <;> simp [State.QueueKept]

theorem noRow_queueKept : noRow.QueueKept := by
  intro t f
  unfold noRow
  split <;> exact ⟨rfl, rfl⟩

theorem setManager_queueKept : setManager.QueueKept := by
  intro t f
  unfold setManager
  dsimp only
  split <;> exact ⟨rfl, rfl⟩

theorem preselect_queueKept : preselect.QueueKept := by
  intro t f
  unfold preselect
  split
  · exact ⟨rfl, rfl⟩
  · split
    · exact ⟨rfl, rfl⟩
    · simp [State.QueueKept]

theorem resetPart_queueKept : resetPart.QueueKept := by
  intro t f
  unfold resetPart
  split <;> exact ⟨rfl, rfl⟩

/-! ### The commands that take a CONTROL frame -/

theorem exec_control_queueKept {c : Instr} (h : c ∈ controlRows) (s : State) :
    ∃ t, exec c s = .next t ∧ s.QueueKept t := by
  cases c
  case unknownCommand => exact ⟨_, rfl, State.control_queueKept noRow_queueKept⟩
  case readTable | readState | readLog => exact ⟨_, rfl, State.control_queueKept (answering_queueKept _)⟩
  case writeNode | writeClass | writeTagMap | writeWeights | writeQueueMap | writeProfile | writeTone |
      writeSoundMap | writeAttributeConfig =>
    exact ⟨_, rfl, State.control_queueKept (writeEntries_queueKept fun _ _ _ => ⟨rfl, rfl⟩)⟩
  case writePortConfig =>
    exact ⟨_, rfl, State.control_queueKept (writeEntries_queueKept fun _ _ _ => by simp [State.QueueKept])⟩
  case writeRoute => exact ⟨_, rfl, State.control_queueKept writeRoute_queueKept⟩
  case writePattern => exact ⟨_, rfl, State.control_queueKept writePattern_queueKept⟩
  case commitRoute => exact ⟨_, rfl, State.control_queueKept commitRoute_queueKept⟩
  case commitProfile => exact ⟨_, rfl, State.control_queueKept commitProfile_queueKept⟩
  case clearLatches | clearLog | clearAttributes | clearCounters =>
    exact ⟨_, rfl, State.control_queueKept (doing_queueKept fun _ => ⟨rfl, rfl⟩)⟩
  case setNormal | setLocalLoopback | setRemoteLoopback | setDisabled =>
    exact ⟨_, rfl, State.control_queueKept (setMode_queueKept _)⟩
  case sendLoopup | sendLoopdown | stopLoopcode =>
    exact ⟨_, rfl, State.control_queueKept (setCode_queueKept _)⟩
  case setManager => exact ⟨_, rfl, State.control_queueKept setManager_queueKept⟩
  case setReport => exact ⟨_, rfl, State.control_queueKept fun _ _ => ⟨rfl, rfl⟩⟩
  case preselect => exact ⟨_, rfl, State.control_queueKept preselect_queueKept⟩
  case resetPart => exact ⟨_, rfl, State.control_queueKept resetPart_queueKept⟩
  all_goals simp [controlRows] at h

/-! ### The commands without a CONTROL frame -/

theorem exec_event_queueKept {c : Instr} (hr : c ∉ controlRows) (hp : ∀ straps, c ≠ .powerOnReset straps)
    (s : State) : ∃ t, exec c s = .next t ∧ s.QueueKept t := by
  cases c
  case powerOnReset straps => exact absurd rfl (hp straps)
  case takeCabAnnounce | takeInverterStatus | takeStopPress =>
    exact ⟨_, rfl, State.consume_queueKept fun t f => by simp [State.QueueKept]⟩
  case handleSample => exact ⟨_, rfl, by simp [State.QueueKept]⟩
  case carrierGain | carrierLoss =>
    exact ⟨_, rfl, .ite (by dsimp only; split <;> simp [State.QueueKept])⟩
  case frameEnd | retryTimerExpiry =>
    refine ⟨_, rfl, ?_⟩
    split
    · exact .ite (by simp [State.QueueKept])
    · exact ⟨rfl, rfl⟩
  case frameSent =>
    refine ⟨_, rfl, ?_⟩
    split
    · simp [State.QueueKept]
    · exact ⟨rfl, rfl⟩
  case pointRequestTransmit | pointRequestSent =>
    refine ⟨_, rfl, ?_⟩
    split
    · exact ⟨rfl, rfl⟩
    · exact .ite (by simp [State.QueueKept, State.reportSent])
  case frameStart | skippedFrameEnd | lengthError | syncLoss | receiverDown | receiverUp | autoloopEnter |
      autoloopExit | learningTimerExpiry | loopReportHoldExpiry | fillPairSent | announceTimerExpiry |
      claimWindowExpiry | cabEntryTimeout | clearTimerExpiry | releasingTimerExpiry | debouncedChange |
      graceTimerExpiry | handleFault | handleFaultCleared | demandPeriod | telegramStart | loopLengthError |
      telegramReceived | refreshTimerExpiry | inhibitTimerExpiry | stepEnd | recoveryTimerExpiry |
      reportTimerExpiry | bitJudged | cabLampFlash =>
    exact ⟨_, rfl, .ite (by simp [State.QueueKept])⟩
  all_goals exact absurd (by decide) hr

/-- Settles O3: a power-on reset by its own definition, every other command by its shape. -/
theorem everyCommandCompletes : Obligations.EveryCommandCompletes := by
  intro c s
  by_cases hp : ∃ straps, c = .powerOnReset straps
  · obtain ⟨straps, rfl⟩ := hp
    exact ⟨_, rfl, rfl, fun h => absurd rfl (h straps)⟩
  · have hne : ∀ straps, c ≠ .powerOnReset straps := fun straps h => hp ⟨straps, h⟩
    obtain ⟨t, hex, hpending, hown⟩ : ∃ t, exec c s = .next t ∧ s.QueueKept t := by
      by_cases hr : c ∈ controlRows
      · exact exec_control_queueKept hr s
      · exact exec_event_queueKept hr hne s
    exact ⟨t, hex, hpending, fun _ => hown⟩

end Sys2Proof.Machine
end

section
/-! SUPPORT. A WRITE_TABLE of one entry (R171, R183): the fields of its octets, and the answer it gives. -/

namespace Sys2Proof.Machine

/-! ### Fields -/

theorem clampNat_zero (hi n : Nat) : clampNat 0 hi n = min hi n := by
  unfold clampNat
  split
  · omega
  · split <;> omega

/-- An octet clamped to a range that only its lower end bounds. -/
theorem clampNat_octet (lo : Nat) (x : Byte) : clampNat lo 255 x.toNat = max lo x.toNat := by
  have := x.isLt
  unfold clampNat
  split
  · omega
  · split <;> omega

theorem offRange_zero (hi n : Nat) : offRange 0 hi n = if hi < n then 1 else 0 := by
  unfold offRange
  by_cases h : hi < n
  · rw [if_pos h, if_neg (by omega)]
  · rw [if_neg h, if_pos (by omega)]

theorem offRange_octet (x : Byte) : offRange 1 255 x.toNat = if x = 0 then 1 else 0 := by
  have hx : x = 0 ↔ x.toNat = 0 := by rw [← BitVec.toNat_inj]; rfl
  have := x.isLt
  simp only [offRange, hx]
  split <;> split <;> omega

/-- An optional field that is absent at 0xFF (R181). -/
theorem takeOpt_octet (hi : Nat) (x : Byte) :
    takeOpt 0xFF 0 hi x.toNat =
      { value := if x = 255 then none else some (min hi x.toNat)
        clamps := if x ≠ 255 ∧ hi < x.toNat then 1 else 0 } := by
  have hx : x.toNat = 0xFF ↔ x = 255 := by rw [← BitVec.toNat_inj]; rfl
  unfold takeOpt
  by_cases h : x = 255
  · rw [if_pos (hx.2 h), if_pos h, if_neg fun k => k.1 h]
  · rw [if_neg fun k => h (hx.1 k), if_neg h, clampNat_zero, offRange_zero]
    simp only [ne_eq, h, not_false_eq_true, true_and]

/-! ### Octets -/

/-- As many members of a list count one as the list holds with the property. -/
theorem sum_map_indicator {α : Type} (p : α → Prop) [DecidablePred p] (l : List α) :
    (l.map fun x => if p x then 1 else 0).sum = (l.filter fun x => decide (p x)).length := by
  induction l with
  | nil => rfl
  | cons x l ih =>
    rw [List.map_cons, List.sum_cons, ih, List.filter_cons]
    by_cases h : p x
    · simp only [h, if_true, decide_true, List.length_cons, Nat.add_comm]
    · simp [h]

/-- The octets of a list read by their offsets. -/
theorem map_range_octets {β : Type} {n : Nat} {l : List Byte} (g : Nat → β) (h : l.length = n) :
    ((List.range n).map fun k => g (num1 l k)) = l.map fun x => g x.toNat := by
  refine List.ext_getElem (by simp [h]) fun k hk _ => ?_
  have hk : k < l.length := by simpa [h] using hk
  simp [num1, octetAt, List.getD, hk]

theorem map_range_clampNat {n : Nat} {l : List Byte} (hi : Nat) (h : l.length = n) :
    ((List.range n).map fun k => clampNat 0 hi (num1 l k)) = l.map fun x => min hi x.toNat := by
  rw [map_range_octets (clampNat 0 hi) h]
  simp only [clampNat_zero]

theorem sum_range_offRange {n : Nat} {l : List Byte} (hi : Nat) (h : l.length = n) :
    ((List.range n).map fun k => offRange 0 hi (num1 l k)).sum =
      (l.filter fun x => decide (hi < x.toNat)).length := by
  rw [map_range_octets (offRange 0 hi) h]
  simp only [offRange_zero]
  exact sum_map_indicator (fun x : Byte => hi < x.toNat) l

/-- A table of octets as it is written, each clamped to a top. -/
def tabWritten {n : Nat} (hi : Nat) (l : List Byte) (h : l.length = n) : Tab Nat n :=
  { data := l.map fun x => min hi x.toNat, size := by rw [List.length_map, h] }

/-! ### One entry -/

/-- The write of one entry whose fields are sound. -/
theorem State.writeEntries_one {α : Type} {s : State} {lo top size : Nat} {t i : Byte} {e : List Byte}
    {parse : Nat → List Byte → Option (Taken α)} {put : State → Nat → α → State} {x : Taken α}
    (he : e.length = size) (hs : 0 < size) (hin : lo ≤ i.toNat ∧ i.toNat ≤ top)
    (hx : parse i.toNat e = some x) :
    s.writeEntries lo top size (2 :: t :: i :: 0 :: e) parse put =
      (put s i.toNat x.value, Answer.clamped x.clamps []) := by
  have hidx : num2 (2 :: t :: i :: 0 :: e) 2 = i.toNat := rfl
  have hdrop : (2 :: t :: i :: 0 :: e).drop 4 = e := rfl
  have hn : (e.length + size - 1) / size = 1 := by
    rw [he, Nat.div_eq_of_lt_le] <;> omega
  have hout : firstOutside lo top i.toNat 1 = none := by
    unfold firstOutside
    rw [if_neg (by omega), if_neg (by omega)]
  have hchunk : chunk size e 0 = e := by
    rw [chunk, Nat.zero_mul, List.drop_zero, ← he, List.take_length]
  have hmod : ¬ e.length % size ≠ 0 := by rw [he, Nat.mod_self]; exact fun h => h rfl
  simp only [State.writeEntries, hidx, hdrop, hn, hout, if_neg hmod]
  rw [show List.range 1 = [0] from rfl, List.map_singleton, Nat.add_zero, hchunk, hx]
  rfl

/-- A WRITE_TABLE with entries, taken from its frame by the row of its table (R170, R171). -/
theorem State.control_write {s u : State} {b : Nat} {f : Frame} {row : Instr} {act : Act} {t i : Byte}
    {e : List Byte} {a : Answer} (h : s.Commanded b f) (hp : f.payload = 2 :: t :: i :: 0 :: e)
    (hr : writeRow t.toNat = row) (he : 0 < e.length) (hact : act s.takeHead f = (u, a))
    (hu : u.mgu = s.mgu) : s.control row act = u.answered b f a := by
  have hlen : lengthFits f.payload = true := by
    rw [hp]
    exact decide_eq_true (by simp only [List.length_cons]; omega)
  rw [State.control_answered h (by rw [hp]; exact hr) (by rw [hp]; rfl) hlen, hact]
  rw [hact, hu]
  exact h.2.1

/-- A write of one entry taken from its frame: the entry put, and the clamped fields in the answer. -/
theorem exec_write_one {α : Type} {s : State} {b : Nat} {f : Frame} (row : Instr) {lo top size : Nat}
    {t i : Byte} {e : List Byte} {parse : Nat → List Byte → Option (Taken α)} {put : State → Nat → α → State}
    {x : Taken α} (h : s.Commanded b f) (hp : f.payload = 2 :: t :: i :: 0 :: e) (hx : parse i.toNat e = some x)
    (hex : exec row s = .next (s.control row fun u g => u.writeEntries lo top size g.payload parse put))
    (hr : writeRow t.toNat = row) (he : e.length = size) (hs : 0 < size)
    (hin : lo ≤ i.toNat ∧ i.toNat ≤ top) (hput : ∀ u k y, (put u k y).mgu = u.mgu) :
    exec row s = .next ((put s.takeHead i.toNat x.value).answered b f (Answer.clamped x.clamps [])) := by
  have hact := State.writeEntries_one (s := s.takeHead) (t := t) (put := put) he hs hin hx
  rw [hex, State.control_write h hp hr (he ▸ hs) (by rw [hp]; exact hact) (hput s.takeHead _ _)]

end Sys2Proof.Machine
end

section
/-! SUPPORT. What each live table outside the Sound Unit takes from one written entry (R21, R26, R36, R44,
R45, R47, R161, R163). -/

namespace Sys2Proof.Machine

/-! ### The Frame Switch -/

theorem parseNode_octets {role : NodeRole} {r : Byte} (k : Nat) (p x y : Byte)
    (h : nodeRoleOf r.toNat = some role) :
    parseNode k [r, p, x, y] = some
      { value := (role, if p = 255 then none else some (min 7 p.toNat))
        clamps := if p ≠ 255 ∧ 7 < p.toNat then 1 else 0 } := by
  have hr : nodeRoleOf (num1 [r, p, x, y] 0) = some role := h
  have hp : takeOpt 0xFF 0 7 (num1 [r, p, x, y] 1) = _ := takeOpt_octet 7 p
  simp only [parseNode, hr, hp, Option.map_some]

theorem putNode_eq {k : Nat} (s : State) (x : NodeRole × Option Nat) (h : k ≤ 62) :
    putNode s k x = s.onFsw fun w =>
      { w with
        nodes := w.nodes.set k
          { w.nodes.get k NodeEntry.powerOn with role := x.1, priority := x.2 } } := by
  have hk : (BitVec.ofNat 6 k).toNat = k := by rw [BitVec.toNat_ofNat]; omega
  simp only [putNode, Fsw.onNode, Fsw.node, hk]

theorem parseClass_octets {a c : Action} {x y : Byte} (k : Nat) (p m : Byte)
    (hx : actionOf x.toNat = some a) (hy : actionOf y.toNat = some c) :
    parseClass k [x, y, p, m] = some
      { value := { active := a, passive := c, priority := if p = 255 then none else some (min 7 p.toNat)
                   maxPayload := min 240 m.toNat }
        clamps := (if p ≠ 255 ∧ 7 < p.toNat then 1 else 0) + if 240 < m.toNat then 1 else 0 } := by
  have hx' : actionOf (num1 [x, y, p, m] 0) = some a := hx
  have hy' : actionOf (num1 [x, y, p, m] 1) = some c := hy
  have hp : takeOpt 0xFF 0 7 (num1 [x, y, p, m] 2) = _ := takeOpt_octet 7 p
  have hm : num1 [x, y, p, m] 3 = m.toNat := rfl
  simp only [parseClass, hx', hy', hp, hm, takeNat, clampNat_zero, offRange_zero]

theorem parseOctet_octet (hi k : Nat) (x : Byte) :
    parseOctet hi k [x] = some { value := min hi x.toNat, clamps := if hi < x.toNat then 1 else 0 } := by
  have hx : num1 [x] 0 = x.toNat := rfl
  simp only [parseOctet, takeNat, hx, clampNat_zero, offRange_zero]

/-! ### Port Config -/

/-- A written queue entry. -/
def queueWritten (t : QueueType) (w d : Byte) : QueueConfig :=
  { type := t, weight := clampNat 1 127 w.toNat, depth := clampNat 1 64 d.toNat }

/-- The clamped fields of a written queue entry. -/
def queueClamps (w d : Byte) : Nat := offRange 1 127 w.toNat + offRange 1 64 d.toNat

theorem parseQueue_octets {l : List Byte} {k : Nat} {t w d : Byte} {q : QueueType}
    (ht : octetAt l (3 + k) = t) (hw : octetAt l (7 + k) = w) (hd : octetAt l (11 + k) = d)
    (hq : queueTypeOf t.toNat = some q) :
    parseQueue l k = some { value := queueWritten q w d, clamps := queueClamps w d } := by
  simp only [parseQueue, num1, ht, hw, hd, hq, Option.map_some]
  rfl

/-- A written Port Config entry. -/
def portWritten (n d : Byte) (permit : Bool) (a b c e : QueueConfig) : PortConfig :=
  { queueCount := clampNat 1 4 n.toNat, defaultPriority := clampNat 0 7 d.toNat, autoloop := permit
    queues := { data := [a, b, c, e], size := rfl } }

theorem permitOf_octet {a : Byte} {permit : Bool} (h : a = 0 ∧ permit = false ∨ a = 1 ∧ permit = true) :
    permitOf a.toNat = some permit := by
  rcases h with ⟨rfl, rfl⟩ | ⟨rfl, rfl⟩ <;> rfl

theorem parsePortConfig_octets {n d a t0 t1 t2 t3 w0 w1 w2 w3 d0 d1 d2 d3 : Byte} {permit : Bool}
    {q0 q1 q2 q3 : QueueType} (k : Nat) (ha : permitOf a.toNat = some permit)
    (h0 : queueTypeOf t0.toNat = some q0) (h1 : queueTypeOf t1.toNat = some q1)
    (h2 : queueTypeOf t2.toNat = some q2) (h3 : queueTypeOf t3.toNat = some q3) :
    parsePortConfig k [n, d, a, t0, t1, t2, t3, w0, w1, w2, w3, d0, d1, d2, d3] = some
      { value := portWritten n d permit (queueWritten q0 w0 d0) (queueWritten q1 w1 d1)
          (queueWritten q2 w2 d2) (queueWritten q3 w3 d3)
        clamps := offRange 1 4 n.toNat + offRange 0 7 d.toNat + queueClamps w0 d0 + queueClamps w1 d1 +
          queueClamps w2 d2 + queueClamps w3 d3 } := by
  generalize hl : [n, d, a, t0, t1, t2, t3, w0, w1, w2, w3, d0, d1, d2, d3] = l
  have hn : num1 l 0 = n.toNat := by rw [← hl]; rfl
  have hd : num1 l 1 = d.toNat := by rw [← hl]; rfl
  have hp : permitOf (num1 l 2) = some permit := by rw [← hl]; exact ha
  have g0 := parseQueue_octets (l := l) (k := 0) (w := w0) (d := d0) (by rw [← hl]; rfl) (by rw [← hl]; rfl)
    (by rw [← hl]; rfl) h0
  have g1 := parseQueue_octets (l := l) (k := 1) (w := w1) (d := d1) (by rw [← hl]; rfl) (by rw [← hl]; rfl)
    (by rw [← hl]; rfl) h1
  have g2 := parseQueue_octets (l := l) (k := 2) (w := w2) (d := d2) (by rw [← hl]; rfl) (by rw [← hl]; rfl)
    (by rw [← hl]; rfl) h2
  have g3 := parseQueue_octets (l := l) (k := 3) (w := w3) (d := d3) (by rw [← hl]; rfl) (by rw [← hl]; rfl)
    (by rw [← hl]; rfl) h3
  simp only [parsePortConfig, hn, hd, hp, g0, g1, g2, g3]
  rfl

/-- The type of queue `k` in a Port Config entry. -/
def PortConfig.typeOf (c : PortConfig) (k : Nat) : QueueType :=
  (c.queues.get k { type := .strict, weight := 1, depth := 1 }).type

/-- A queue whose type is written: its deficit is lost where the type changes (R47). -/
def EgressQueue.retyped (x : EgressQueue) (new old : QueueType) : EgressQueue :=
  { x with deficit := if new = old then x.deficit else 0 }

theorem Egress.retype_config (e : Egress) (c : PortConfig) (k : Nat) :
    (e.retype c k).config = e.config ∧ (e.retype c k).pointer = e.pointer := by
  unfold Egress.retype
  split <;> exact ⟨rfl, rfl⟩

theorem Egress.retype_queue {e : Egress} {k : Nat} (c : PortConfig) (m : Nat) (h : k < 4) :
    (e.retype c m).queue k =
      if k = m then (e.queue k).retyped (c.typeOf k) (e.config.typeOf k) else e.queue k := by
  unfold Egress.retype
  by_cases hm : k = m
  · subst hm
    rw [if_pos rfl]
    split
    next ht => rw [EgressQueue.retyped, if_pos (show c.typeOf k = e.config.typeOf k from ht.symm)]
    next ht =>
      rw [Egress.queue_onQueue_same h, EgressQueue.retyped,
        if_neg fun hc => ht (show e.config.typeOf k = c.typeOf k from hc.symm)]
  · rw [if_neg hm]
    split
    · rfl
    · exact Egress.queue_onQueue_ne hm

/-- Each of the four queues after a write of the Port Config entry. -/
theorem Egress.configure_queue {e : Egress} {k : Nat} (c : PortConfig) (h : k < 4) :
    (e.configure c).queue k = (e.queue k).retyped (c.typeOf k) (e.config.typeOf k) := by
  have hconf := fun (e : Egress) m => (e.retype_config c m).1
  have hq : (e.configure c).queue k =
      ((((e.retype c 0).retype c 1).retype c 2).retype c 3).queue k := by
    simp only [Egress.queue, Egress.configure]
  rw [hq]
  simp only [Egress.retype_queue c _ h, hconf]
  obtain rfl | rfl | rfl | rfl : k = 0 ∨ k = 1 ∨ k = 2 ∨ k = 3 := by omega
  all_goals simp

theorem Egress.configure_pointer (e : Egress) (c : PortConfig) : (e.configure c).pointer = e.pointer := by
  simp only [Egress.configure, Egress.retype_config]

theorem putPortConfig_eq (s : State) {k : Nat} {p : Port} (c : PortConfig) (h : k = codePort p) :
    putPortConfig s k c = { s with
      bqm := s.bqm.onEgress p fun e => e.configure c
      ports := if c.autoloop then s.ports else s.ports.modify p LinePort.stopLoopup } := by
  have hp : (if k = 1 then Port.A else Port.B) = p := by rw [h]; cases p <;> rfl
  simp only [putPortConfig, hp]
  split <;> rfl

theorem putPortConfig_egress (s : State) {k : Nat} {p : Port} (c : PortConfig) (h : k = codePort p) :
    (putPortConfig s k c).bqm.egress.get p = (s.bqm.egress.get p).configure c ∧
      (putPortConfig s k c).bqm.egress.get p.other = s.bqm.egress.get p.other := by
  rw [putPortConfig_eq s c h]
  exact ⟨Both.get_modify_same _ _ _, Both.get_modify_other _ _ _⟩

/-! ### Queue Map -/

theorem parseQueueMap_octets {l : List Byte} (i : Nat) (h : l.length = 8) :
    parseQueueMap i l = some
      { value := tabWritten (i - 1) l h
        clamps := (l.filter fun x => decide (i - 1 < x.toNat)).length } := by
  simp only [parseQueueMap, map_range_clampNat (i - 1) h, sum_range_offRange (i - 1) h]
  rfl

theorem putQueueMap_maps (s : State) (i : Nat) (m : Tab Nat 8) :
    (putQueueMap s i m).bqm.maps = s.bqm.maps.set (i - 1) m :=
  rfl

/-! ### Attributes -/

theorem attrIndex_lt (a : Attr) : attrIndex a < 8 := by
  cases a <;> decide

theorem attrOf_attrIndex (a : Attr) : attrOf (attrIndex a + 1) = a := by
  cases a <;> rfl

theorem attrIndex_inj {a k : Attr} (h : attrIndex a = attrIndex k) : a = k := by
  rw [← attrOf_attrIndex a, h, attrOf_attrIndex]

theorem parseAttr_octets (k : Nat) (t p r x y : Byte) :
    parseAttr k [t, p, r, x, y] = some
      { value := { threshold := clampNat 0 95 t.toNat, penalty := clampNat 1 50 p.toNat
                   interval := clampNat 1 255 r.toNat
                   testLimit := clampNat 0 1000 (x.toNat + 256 * y.toNat) }
        clamps := offRange 0 95 t.toNat + offRange 1 50 p.toNat + offRange 1 255 r.toNat +
          offRange 0 1000 (x.toNat + 256 * y.toNat) } :=
  rfl

theorem Cmn.attr_setAttr_same (c : Cmn) (a : Attr) (x : AttrState) : (c.setAttr a x).attr a = x :=
  Tab.get_set_same _ _ _ _ (attrIndex_lt a)

theorem Cmn.attr_setAttr_ne (c : Cmn) {a k : Attr} (x : AttrState) (h : k ≠ a) :
    (c.setAttr a x).attr k = c.attr k :=
  Tab.get_set_ne _ _ _ _ _ fun e => h (attrIndex_inj e).symm

/-- What the fresh judgement makes of a tripped flag (R163). -/
def Cmn.flagAfresh (c : Cmn) (a : Attr) : Bool :=
  if (c.attr a).tripped then
    decide ((c.attr a).n < (c.attrConfig a).threshold + 5 ∧ (c.attrConfig a).threshold ≠ 0)
  else decide ((c.attrConfig a).threshold ≠ 0 ∧ (c.attr a).n ≤ (c.attrConfig a).threshold)

/-- The fresh judgement changes a flag, or nothing (R163). -/
theorem Cmn.judgeAfresh_eq (c : Cmn) (a : Attr) :
    c.judgeAfresh a =
      if c.flagAfresh a = (c.attr a).tripped then c else c.setTripped a (c.flagAfresh a) := by
  cases ht : (c.attr a).tripped
  · by_cases h : (c.attrConfig a).threshold ≠ 0 ∧ (c.attr a).n ≤ (c.attrConfig a).threshold
    · simp [Cmn.judgeAfresh, Cmn.flagAfresh, ht, h]
    · simp [Cmn.judgeAfresh, Cmn.flagAfresh, ht, h]
  · by_cases h : (c.attr a).n < (c.attrConfig a).threshold + 5 ∧ (c.attrConfig a).threshold ≠ 0
    · simp [Cmn.judgeAfresh, Cmn.flagAfresh, ht, h]
    · have hup : (c.attrConfig a).threshold + 5 ≤ (c.attr a).n ∨ (c.attrConfig a).threshold = 0 := by omega
      simp [Cmn.judgeAfresh, Cmn.flagAfresh, ht, h, hup]

/-- A configuration entry written and judged: the entry, the flag, and the entry of a change in the log. -/
theorem Cmn.writeAttr_law (c : Cmn) (a : Attr) (g : AttrConfig) {v : Cmn} (hv : v = c.writeAttr a g) :
    v.attrConfig a = g ∧
    (∀ k, k ≠ a → v.attrConfig k = c.attrConfig k ∧ v.attr k = c.attr k) ∧
    v.partTime = c.partTime ∧
    v.attr a = { c.attr a with
      tripped := if (c.attr a).tripped then decide ((c.attr a).n < g.threshold + 5 ∧ g.threshold ≠ 0)
        else decide (g.threshold ≠ 0 ∧ (c.attr a).n ≤ g.threshold) } ∧
    v.log = (if (v.attr a).tripped = (c.attr a).tripped then c.log
      else c.log.append c.partTime
        { kind := if (v.attr a).tripped then .attributeTripped else .attributeRecovered, block := .cmn
          value := some ((attrIndex a + 1 : Nat) : Int) }) := by
  generalize hu : { c with config := c.config.set (attrIndex a) g } = u
  have hattr : ∀ k, u.attr k = c.attr k := fun k => by rw [← hu]; rfl
  have hconf : u.attrConfig a = g := by rw [← hu]; exact Tab.get_set_same _ _ _ _ (attrIndex_lt a)
  have hother : ∀ k, k ≠ a → u.attrConfig k = c.attrConfig k := fun k h => by
    rw [← hu]; exact Tab.get_set_ne _ _ _ _ _ fun e => h (attrIndex_inj e).symm
  have hlog : u.log = c.log ∧ u.partTime = c.partTime := by rw [← hu]; exact ⟨rfl, rfl⟩
  have hflag : u.flagAfresh a = if (c.attr a).tripped then
      decide ((c.attr a).n < g.threshold + 5 ∧ g.threshold ≠ 0)
      else decide (g.threshold ≠ 0 ∧ (c.attr a).n ≤ g.threshold) := by
    simp only [Cmn.flagAfresh, hattr, hconf]
  have hw : v = if u.flagAfresh a = (u.attr a).tripped then u else u.setTripped a (u.flagAfresh a) := by
    rw [hv, ← Cmn.judgeAfresh_eq, ← hu]; rfl
  rw [← hflag]
  split at hw
  next h =>
    subst hw
    rw [h, hattr]
    exact ⟨hconf, fun k hk => ⟨hother k hk, hattr k⟩, hlog.2, rfl, by rw [if_pos rfl, hlog.1]⟩
  next h =>
    have hself : v.attr a = { c.attr a with tripped := u.flagAfresh a } := by
      rw [hw, ← hattr]; exact Cmn.attr_setAttr_same _ _ _
    refine ⟨?_, fun k hk => ⟨?_, ?_⟩, ?_, hself, ?_⟩
    · rw [hw]; exact hconf
    · rw [hw]; exact hother k hk
    · rw [hw, ← hattr]; exact Cmn.attr_setAttr_ne _ _ hk
    · rw [hw]; exact hlog.2
    · rw [hattr] at h
      rw [hself, if_neg h, ← hlog.1, ← hlog.2, hw]
      rfl

end Sys2Proof.Machine
end

section
/-! SUPPORT. What ends a request of the Sound Unit, and what the new decision of a channel does to the
requests, the winners and the players (R153 to R156). -/

namespace Sys2Proof.Machine

/-! ### Players -/

@[simp] theorem Snu.player_setPlayer_same (u : Snu) (c : Channel) (x : Player) :
    (u.setPlayer c x).player c = x := by
  cases c <;> rfl

theorem Snu.player_setPlayer_ne (u : Snu) {c k : Channel} (x : Player) (h : k ≠ c) :
    (u.setPlayer c x).player k = u.player k := by
  cases c <;> cases k
  case exterior.exterior | interior.interior => exact absurd rfl h
  all_goals rfl

theorem Snu.requested_setPlayer (u : Snu) (c : Channel) (x : Player) (y : Source) :
    (u.setPlayer c x).requested y = u.requested y := by
  cases c <;> cases y <;> rfl

/-! ### The requests -/

theorem sourceKind_event {x : Source} : sourceKind x = .event ↔ x = .accessChime ∨ x = .chime := by
  cases x <;> simp [sourceKind]

theorem sourceKind_ne_event {x : Source} : sourceKind x ≠ .event ↔ x ≠ .accessChime ∧ x ≠ .chime := by
  rw [ne_eq, sourceKind_event, not_or]

theorem sourceKind_bell {x : Source} : sourceKind x = .bell ↔ x = .bell := by
  cases x <;> simp [sourceKind]

/-- The request of a bell or event source ends, and no other. -/
theorem Snu.requested_endRequest (u : Snu) (x y : Source) :
    (u.endRequest x).requested y =
      if y = x ∧ sourceKind x ≠ .condition then false else u.requested y := by
  cases x <;> cases y <;> rfl

theorem Snu.player_endRequest (u : Snu) (x : Source) (c : Channel) :
    (u.endRequest x).player c = u.player c := by
  cases x <;> cases c <;> rfl

theorem Snu.player_discard (u : Snu) (x : Source) (c : Channel) : (u.discard x).player c = u.player c :=
  u.player_endRequest x c

/-- A discarded event request stands no longer. -/
theorem Snu.requested_discard_same (u : Snu) {x : Source} (h : sourceKind x = .event) :
    (u.discard x).requested x = false :=
  (u.requested_endRequest x x).trans (if_pos ⟨rfl, by rw [h]; decide⟩)

theorem Snu.requested_discard_ne (u : Snu) {x y : Source} (h : y ≠ x) :
    (u.discard x).requested y = u.requested y :=
  (u.requested_endRequest x y).trans (if_neg fun k => h k.1)

/-! ### What stays -/

/-- What no write of a pattern or of the Sound Map reaches once the table is written: the three tables and the
requests of the condition sources. -/
def Snu.Steady (u v : Snu) : Prop :=
  v.patterns = u.patterns ∧ v.map = u.map ∧ v.tones = u.tones ∧ v.horn = u.horn ∧
    v.emergency = u.emergency ∧ v.warning = u.warning ∧ v.alertRole = u.alertRole ∧
    v.alertJunction = u.alertJunction

theorem Snu.Steady.refl (u : Snu) : u.Steady u := ⟨rfl, rfl, rfl, rfl, rfl, rfl, rfl, rfl⟩

theorem Snu.Steady.trans {u v w : Snu} (h : u.Steady v) (k : v.Steady w) : u.Steady w := by
  obtain ⟨h1, h2, h3, h4, h5, h6, h7, h8⟩ := h
  obtain ⟨k1, k2, k3, k4, k5, k6, k7, k8⟩ := k
  exact ⟨k1.trans h1, k2.trans h2, k3.trans h3, k4.trans h4, k5.trans h5, k6.trans h6, k7.trans h7,
    k8.trans h8⟩

theorem Snu.Steady.patternOf {u v : Snu} (h : u.Steady v) (x : Source) : v.patternOf x = u.patternOf x := by
  obtain ⟨hp, hm, -⟩ := h
  simp only [Snu.patternOf, Snu.pattern, Snu.mapped, hp, hm]

/-- A change that is steady and ends requests, if any. -/
def Snu.Narrows (u v : Snu) : Prop :=
  u.Steady v ∧ ∀ x, v.requested x = true → u.requested x = true

theorem Snu.Narrows.refl (u : Snu) : u.Narrows u := ⟨.refl u, fun _ h => h⟩

theorem Snu.Narrows.trans {u v w : Snu} (h : u.Narrows v) (k : v.Narrows w) : u.Narrows w :=
  ⟨h.1.trans k.1, fun x hx => h.2 x (k.2 x hx)⟩

theorem Snu.Narrows.requested_false {u v : Snu} (h : u.Narrows v) {x : Source} (hx : u.requested x = false) :
    v.requested x = false := by
  by_contra k
  rw [h.2 x (by simpa using k)] at hx
  exact absurd hx (by decide)

theorem Snu.Narrows.takesPart {u v : Snu} (h : u.Narrows v) {x : Source} (hx : v.takesPart x = true) :
    u.takesPart x = true := by
  unfold Snu.takesPart at hx ⊢
  rw [Bool.and_eq_true] at hx ⊢
  exact ⟨h.2 x hx.1, h.1.patternOf x ▸ hx.2⟩

theorem Snu.narrows_endRequest (u : Snu) (x : Source) : u.Narrows (u.endRequest x) := by
  refine ⟨by cases x <;> exact .refl u, fun y h => ?_⟩
  rw [Snu.requested_endRequest] at h
  split at h
  · exact absurd h (by decide)
  · exact h

theorem Snu.narrows_discard (u : Snu) (x : Source) : u.Narrows (u.discard x) :=
  u.narrows_endRequest x

theorem Snu.narrows_setPlayer (u : Snu) (c : Channel) (x : Player) : u.Narrows (u.setPlayer c x) :=
  ⟨by cases c <;> exact .refl u, fun y h => by rwa [Snu.requested_setPlayer] at h⟩

/-- The two event requests and the count of the discarded ones are as they stand. -/
def Snu.EventsKept (u v : Snu) : Prop :=
  v.accessChime = u.accessChime ∧ v.chime = u.chime ∧ v.discarded = u.discarded

theorem Snu.EventsKept.refl (u : Snu) : u.EventsKept u := ⟨rfl, rfl, rfl⟩

theorem Snu.EventsKept.trans {u v w : Snu} (h : u.EventsKept v) (k : v.EventsKept w) : u.EventsKept w := by
  obtain ⟨h1, h2, h3⟩ := h
  obtain ⟨k1, k2, k3⟩ := k
  exact ⟨k1.trans h1, k2.trans h2, k3.trans h3⟩

theorem Snu.EventsKept.requested {u v : Snu} (h : u.EventsKept v) {x : Source} (hx : sourceKind x = .event) :
    v.requested x = u.requested x := by
  obtain ⟨ha, hc, -⟩ := h
  obtain rfl | rfl := sourceKind_event.1 hx
  · exact ha
  · exact hc

theorem Snu.EventsKept.discarded {u v : Snu} (h : u.EventsKept v) : v.discarded = u.discarded := h.2.2

theorem Snu.eventsKept_setPlayer (u : Snu) (c : Channel) (x : Player) : u.EventsKept (u.setPlayer c x) := by
  cases c <;> exact .refl u

/-! ### A new decision (R154, R156) -/

/-- The requests once the playing source of a channel has been preempted. -/
def Snu.stopped (u : Snu) (c : Channel) : Snu :=
  match (u.player c).playing with
  | none => u
  | some x => u.preempt x

/-- A preemption discards an event request, or does nothing. -/
theorem Snu.stopped_cases (u : Snu) (c : Channel) :
    u.stopped c = u ∨
      ∃ x, (u.player c).playing = some x ∧ sourceKind x = .event ∧ u.requested x = true ∧
        u.stopped c = u.discard x := by
  unfold Snu.stopped
  cases hx : (u.player c).playing with
  | none => exact .inl rfl
  | some x =>
    by_cases h : sourceKind x = .event ∧ u.requested x = true
    · exact .inr ⟨x, rfl, h.1, h.2, if_pos h⟩
    · exact .inl (if_neg h)

theorem Snu.arbitrate_kept {u : Snu} {c : Channel} (h : u.winner c = (u.player c).playing) :
    u.arbitrate c = u := by
  simp only [Snu.arbitrate, if_pos h]

theorem Snu.arbitrate_new {u : Snu} {c : Channel} (h : u.winner c ≠ (u.player c).playing) :
    u.arbitrate c =
      (u.stopped c).setPlayer c { u.player c with playing := u.winner c, step := 0, elapsed := 0 } := by
  simp only [Snu.arbitrate, if_neg h]
  rfl

/-- What the new decision of a channel can do: nothing where the playing source still wins, else its winner
plays from step 0 and an event before it is discarded. -/
theorem Snu.arbitrate_cases (u : Snu) (c : Channel) :
    (u.winner c = (u.player c).playing ∧ u.arbitrate c = u) ∨
      (u.winner c ≠ (u.player c).playing ∧ ∃ v, u.arbitrate c =
          v.setPlayer c { u.player c with playing := u.winner c, step := 0, elapsed := 0 } ∧
        (v = u ∨ ∃ x, (u.player c).playing = some x ∧ sourceKind x = .event ∧ u.requested x = true ∧
          v = u.discard x)) := by
  by_cases h : u.winner c = (u.player c).playing
  · exact .inl ⟨h, Snu.arbitrate_kept h⟩
  · exact .inr ⟨h, _, Snu.arbitrate_new h, u.stopped_cases c⟩

theorem Snu.narrows_arbitrate (u : Snu) (c : Channel) : u.Narrows (u.arbitrate c) := by
  rcases u.arbitrate_cases c with ⟨-, h⟩ | ⟨-, v, h, hv⟩
  · rw [h]; exact .refl u
  · rw [h]
    refine .trans ?_ (v.narrows_setPlayer c _)
    rcases hv with rfl | ⟨x, -, -, -, rfl⟩
    · exact .refl _
    · exact u.narrows_discard x

theorem Snu.player_arbitrate_ne (u : Snu) {c k : Channel} (hk : k ≠ c) :
    (u.arbitrate c).player k = u.player k := by
  rcases u.arbitrate_cases c with ⟨-, h⟩ | ⟨-, v, h, hv⟩
  · rw [h]
  · rw [h, Snu.player_setPlayer_ne _ _ hk]
    rcases hv with rfl | ⟨x, -, -, -, rfl⟩
    · rfl
    · exact u.player_discard x k

theorem Snu.player_arbitrate_same (u : Snu) (c : Channel) :
    (u.arbitrate c).player c =
      if u.winner c = (u.player c).playing then u.player c
      else { u.player c with playing := u.winner c, step := 0, elapsed := 0 } := by
  rcases u.arbitrate_cases c with ⟨hw, h⟩ | ⟨hw, v, h, -⟩
  · rw [h, if_pos hw]
  · rw [h, if_neg hw, Snu.player_setPlayer_same]

/-- Of the requests a new decision ends at most the one of the event that played. -/
theorem Snu.requested_arbitrate (u : Snu) (c : Channel) {y : Source}
    (h : (u.player c).playing ≠ some y ∨ sourceKind y ≠ .event) :
    (u.arbitrate c).requested y = u.requested y := by
  rcases u.arbitrate_cases c with ⟨-, ha⟩ | ⟨hw, v, ha, hv⟩
  · rw [ha]
  · rw [ha, Snu.requested_setPlayer]
    rcases hv with rfl | ⟨x, hp, hx, -, rfl⟩
    · rfl
    · refine Snu.requested_discard_ne u fun hyx => ?_
      subst hyx
      exact h.elim (fun k => k hp) fun k => k hx

/-- A decision discards nothing where the playing source is no event with a standing request. -/
theorem Snu.eventsKept_arbitrate {u : Snu} {c : Channel}
    (h : ∀ x, (u.player c).playing = some x → sourceKind x = .event → u.requested x = false) :
    u.EventsKept (u.arbitrate c) := by
  rcases u.arbitrate_cases c with ⟨-, ha⟩ | ⟨hw, v, ha, hv⟩
  · rw [ha]; exact .refl u
  · rw [ha]
    refine .trans ?_ (v.eventsKept_setPlayer c _)
    rcases hv with rfl | ⟨x, hp, hx, hr, rfl⟩
    · exact .refl _
    · rw [h x hp hx] at hr
      exact absurd hr (by decide)

/-- An event that played and has not won is discarded and counted (R156). -/
theorem Snu.arbitrate_discards {u : Snu} {c : Channel} {x : Source} (hx : sourceKind x = .event)
    (hp : (u.player c).playing = some x) (hr : u.requested x = true) (hw : u.winner c ≠ some x) :
    (u.arbitrate c).requested x = false ∧ (u.arbitrate c).discarded = bump u.discarded := by
  have hs : u.stopped c = u.discard x := by
    simp only [Snu.stopped, hp]
    exact if_pos ⟨hx, hr⟩
  rw [Snu.arbitrate_new (by rw [hp]; exact hw), hs]
  exact ⟨by rw [Snu.requested_setPlayer, Snu.requested_discard_same u hx],
    ((u.discard x).eventsKept_setPlayer c _).discarded⟩

/-! ### The winner (R154) -/

/-- What a search finds is found still when a member that it has not found is no longer sought. -/
theorem find?_congr_except {α : Type} {p q : α → Bool} {x : α} {l : List α} (hx : l.find? p ≠ some x)
    (hne : ∀ y, y ≠ x → q y = p y) (hq : q x = false) : l.find? q = l.find? p := by
  induction l with
  | nil => rfl
  | cons a l ih =>
    rw [List.find?_cons] at hx
    rw [List.find?_cons, List.find?_cons]
    by_cases ha : a = x
    · subst ha
      cases hpa : p a
      · rw [hpa] at hx; rw [hq]; exact ih hx
      · rw [hpa] at hx; exact absurd rfl hx
    · rw [hne a ha]
      cases hpa : p a
      · rw [hpa] at hx; exact ih hx
      · rfl

/-- The winner of a channel stays where the only request that ends is another's. -/
theorem Snu.winner_congr_except {u v : Snu} {k : Channel} {x : Source} (hs : u.Steady v)
    (hne : ∀ y, y ≠ x → v.requested y = u.requested y) (hx : v.requested x = false)
    (hw : u.winner k ≠ some x) : v.winner k = u.winner k := by
  refine find?_congr_except hw (fun y hy => ?_) ?_
  · simp only [Snu.takesPart, hne y hy, hs.patternOf]
  · rw [Snu.takesPart, hx, Bool.false_and]

theorem Snu.winner_congr {u v : Snu} {k : Channel} (hs : u.Steady v)
    (h : ∀ y ∈ channelSources k, v.requested y = u.requested y) : v.winner k = u.winner k := by
  refine List.find?_congr fun y hy => ?_
  simp only [Snu.takesPart, h y hy, hs.patternOf]

theorem Snu.takesPart_of_winner {u : Snu} {c : Channel} {x : Source} (h : u.winner c = some x) :
    u.takesPart x = true :=
  List.find?_some h

/-- A decision leaves the channel the winner that it has found. -/
theorem Snu.winner_arbitrate_same (u : Snu) (c : Channel) : (u.arbitrate c).winner c = u.winner c := by
  rcases u.arbitrate_cases c with ⟨-, ha⟩ | ⟨hw, v, ha, hv⟩
  · rw [ha]
  · have hs := (u.narrows_arbitrate c).1
    rcases hv with rfl | ⟨x, hp, hx, -, rfl⟩
    · exact Snu.winner_congr hs fun y _ => by rw [ha, Snu.requested_setPlayer]
    · refine Snu.winner_congr_except (x := x) hs (fun y hy => ?_) ?_ fun h => hw (h.trans hp.symm)
      · rw [ha, Snu.requested_setPlayer, Snu.requested_discard_ne u hy]
      · rw [ha, Snu.requested_setPlayer, Snu.requested_discard_same u hx]

/-- No event sounds outside. -/
theorem sourceKind_exterior {x : Source} (h : x ∈ channelSources .exterior) : sourceKind x ≠ .event := by
  rw [ne_eq, sourceKind_event]
  rintro (rfl | rfl) <;> exact absurd h (by decide)

theorem Snu.winner_exterior_arbitrate (u : Snu) (c : Channel) :
    (u.arbitrate c).winner .exterior = u.winner .exterior :=
  Snu.winner_congr (u.narrows_arbitrate c).1 fun _ hy =>
    u.requested_arbitrate c (.inr (sourceKind_exterior hy))

/-- Both channels decide anew, and each by itself as it stands when its turn comes. -/
theorem Snu.arbitrateBoth_at (u : Snu) (c : Channel) :
    ∃ w, u.Narrows w ∧ w.player c = u.player c ∧ u.arbitrateBoth.player c = (w.arbitrate c).player c ∧
      u.arbitrateBoth.winner c = w.winner c := by
  cases c
  case exterior =>
    refine ⟨u, .refl u, rfl, Snu.player_arbitrate_ne _ (by decide), ?_⟩
    exact (Snu.winner_exterior_arbitrate _ _).trans (Snu.winner_arbitrate_same _ _)
  case interior =>
    exact ⟨u.arbitrate .exterior, u.narrows_arbitrate _, Snu.player_arbitrate_ne _ (by decide), rfl,
      Snu.winner_arbitrate_same _ _⟩

theorem Snu.narrows_arbitrateBoth (u : Snu) : u.Narrows u.arbitrateBoth :=
  (u.narrows_arbitrate _).trans (Snu.narrows_arbitrate _ _)

theorem Snu.bell_arbitrateBoth (u : Snu) : u.arbitrateBoth.bell = u.bell :=
  (Snu.requested_arbitrate (y := .bell) _ _ (.inr (by decide))).trans
    (Snu.requested_arbitrate (y := .bell) _ _ (.inr (by decide)))

end Sys2Proof.Machine
end

section
/-! SUPPORT. The Sound Unit after a write of a pattern or of the Sound Map (R157): what a touched source
brings about, then the new decision of both channels. -/

namespace Sys2Proof.Machine

/-! ### A touched source -/

/-- The player of a source that starts again. -/
def Player.restarted (x : Player) : Player := { x with step := 0, elapsed := 0 }

/-- What a touched source brings about: an event is discarded, a bell without a pattern ends, and otherwise it
takes no part or starts again. -/
theorem Snu.touched_cases (u : Snu) (c : Channel) (x : Source) :
    (sourceKind x = .event ∧ u.touched c x = u.discard x) ∨
      (sourceKind x ≠ .event ∧ (u.patternOf x).isEmpty = true ∧
        (u.touched c x = u ∨ x = .bell ∧ u.touched c x = u.endRequest .bell)) ∨
      (sourceKind x ≠ .event ∧ (u.patternOf x).isEmpty = false ∧ u.touched c x = u.restart c) := by
  unfold Snu.touched
  cases hk : sourceKind x
  case event => exact .inl ⟨rfl, rfl⟩
  case bell =>
    obtain rfl := sourceKind_bell.1 hk
    cases h : (u.patternOf .bell).isEmpty
    · exact .inr (.inr ⟨by decide, rfl, rfl⟩)
    · exact .inr (.inl ⟨by decide, rfl, .inr ⟨rfl, rfl⟩⟩)
  case condition =>
    cases h : (u.patternOf x).isEmpty
    · exact .inr (.inr ⟨by decide, rfl, rfl⟩)
    · exact .inr (.inl ⟨by decide, rfl, .inl rfl⟩)

theorem Snu.narrows_touched (u : Snu) (c : Channel) (x : Source) : u.Narrows (u.touched c x) := by
  rcases u.touched_cases c x with ⟨-, h⟩ | ⟨-, -, h | ⟨-, h⟩⟩ | ⟨-, -, h⟩ <;> rw [h]
  · exact u.narrows_discard x
  · exact .refl u
  · exact u.narrows_endRequest _
  · exact u.narrows_setPlayer c _

theorem Snu.player_touched_ne (u : Snu) {c k : Channel} (x : Source) (hk : k ≠ c) :
    (u.touched c x).player k = u.player k := by
  rcases u.touched_cases c x with ⟨-, h⟩ | ⟨-, -, h | ⟨-, h⟩⟩ | ⟨-, -, h⟩ <;> rw [h]
  · exact u.player_discard x k
  · exact u.player_endRequest _ k
  · exact u.player_setPlayer_ne _ hk

theorem Snu.player_touched_same (u : Snu) (c : Channel) (x : Source) :
    (u.touched c x).player c =
      if sourceKind x ≠ .event ∧ (u.patternOf x).isEmpty = false then (u.player c).restarted
      else u.player c := by
  rcases u.touched_cases c x with ⟨hk, h⟩ | ⟨hk, he, h | ⟨-, h⟩⟩ | ⟨hk, he, h⟩ <;> rw [h]
  · rw [if_neg fun k => k.1 hk, Snu.player_discard]
  · rw [if_neg (by simp [he])]
  · rw [if_neg (by simp [he]), Snu.player_endRequest]
  · rw [if_pos ⟨hk, he⟩]
    exact u.player_setPlayer_same c _

theorem Snu.bell_touched (u : Snu) (c : Channel) (x : Source) (h : (u.patternOf .bell).isEmpty = false) :
    (u.touched c x).bell = u.bell := by
  rcases u.touched_cases c x with ⟨hk, ht⟩ | ⟨-, he, ht | ⟨rfl, ht⟩⟩ | ⟨-, -, ht⟩ <;> rw [ht]
  · exact u.requested_discard_ne (y := .bell) (by rintro rfl; exact absurd hk (by decide))
  · rw [h] at he; exact absurd he (by decide)
  · exact u.requested_setPlayer c _ .bell

theorem Snu.eventsKept_touched (u : Snu) (c : Channel) {x : Source} (hx : sourceKind x ≠ .event) :
    u.EventsKept (u.touched c x) := by
  rcases u.touched_cases c x with ⟨hk, -⟩ | ⟨-, -, h | ⟨-, h⟩⟩ | ⟨-, -, h⟩
  · exact absurd hk hx
  · rw [h]; exact .refl u
  · rw [h]; exact .refl u
  · rw [h]; exact u.eventsKept_setPlayer c _

/-! ### The playing source of a channel -/

/-- A write touches no playing source of the channel, or one. -/
theorem Snu.afterWrite_cases (u : Snu) (c : Channel) (touches : Source → Bool) :
    ((∀ x, (u.player c).playing = some x → touches x = false) ∧ u.afterWrite c touches = u) ∨
      ∃ x, (u.player c).playing = some x ∧ touches x = true ∧ u.afterWrite c touches = u.touched c x := by
  unfold Snu.afterWrite
  cases hx : (u.player c).playing with
  | none => exact .inl ⟨fun x h => (Option.some_ne_none x h.symm).elim, rfl⟩
  | some x =>
    cases ht : touches x
    · refine .inl ⟨fun y hy => ?_, if_neg (by rw [ht]; decide)⟩
      obtain rfl := Option.some.inj hy
      exact ht
    · exact .inr ⟨x, rfl, ht, if_pos ht⟩

theorem Snu.afterWrite_touched {u : Snu} {c : Channel} {touches : Source → Bool} {x : Source}
    (hx : (u.player c).playing = some x) (h : touches x = true) : u.afterWrite c touches = u.touched c x := by
  simp only [Snu.afterWrite, hx, if_pos h]

theorem Snu.afterWrite_untouched {u : Snu} {c : Channel} {touches : Source → Bool}
    (h : ∀ x, (u.player c).playing = some x → touches x = false) : u.afterWrite c touches = u := by
  rcases u.afterWrite_cases c touches with ⟨-, k⟩ | ⟨x, hx, ht, -⟩
  · exact k
  · rw [h x hx] at ht; exact absurd ht (by decide)

theorem Snu.narrows_afterWrite (u : Snu) (c : Channel) (touches : Source → Bool) :
    u.Narrows (u.afterWrite c touches) := by
  rcases u.afterWrite_cases c touches with ⟨-, h⟩ | ⟨x, -, -, h⟩ <;> rw [h]
  · exact .refl u
  · exact u.narrows_touched c x

theorem Snu.player_afterWrite_ne (u : Snu) {c k : Channel} (touches : Source → Bool) (hk : k ≠ c) :
    (u.afterWrite c touches).player k = u.player k := by
  rcases u.afterWrite_cases c touches with ⟨-, h⟩ | ⟨x, -, -, h⟩ <;> rw [h]
  exact u.player_touched_ne x hk

theorem Snu.bell_afterWrite (u : Snu) (c : Channel) (touches : Source → Bool)
    (h : (u.patternOf .bell).isEmpty = false) : (u.afterWrite c touches).bell = u.bell := by
  rcases u.afterWrite_cases c touches with ⟨-, k⟩ | ⟨x, -, -, k⟩ <;> rw [k]
  exact u.bell_touched c x h

theorem Snu.eventsKept_afterWrite {u : Snu} {c : Channel} (touches : Source → Bool)
    (h : ∀ x, (u.player c).playing = some x → sourceKind x ≠ .event) :
    u.EventsKept (u.afterWrite c touches) := by
  rcases u.afterWrite_cases c touches with ⟨-, k⟩ | ⟨x, hx, -, k⟩ <;> rw [k]
  · exact .refl u
  · exact u.eventsKept_touched c (h x hx)

/-- Of two event requests a write ends at most the one that plays. -/
theorem Snu.requested_afterWrite {u : Snu} {c : Channel} (touches : Source → Bool) {y : Source}
    (hy : sourceKind y = .event) (h : (u.player c).playing ≠ some y) :
    (u.afterWrite c touches).requested y = u.requested y := by
  rcases u.afterWrite_cases c touches with ⟨-, k⟩ | ⟨x, hx, -, k⟩ <;> rw [k]
  rcases u.touched_cases c x with ⟨-, ht⟩ | ⟨hk, -⟩ | ⟨hk, -⟩
  · rw [ht, Snu.requested_discard_ne]
    rintro rfl
    exact h hx
  · exact (u.eventsKept_touched c hk).requested hy
  · exact (u.eventsKept_touched c hk).requested hy

/-! ### Both playing sources, and a waiting bell (log entry 21) -/

/-- The unit after a write, before the channels decide anew. -/
def Snu.handled (u : Snu) (touches : Source → Bool) : Snu :=
  ((u.afterWrite .exterior touches).afterWrite .interior touches).dropEmptyBell

theorem Snu.settleWrite_eq (u : Snu) (touches : Source → Bool) :
    u.settleWrite touches = (u.handled touches).arbitrateBoth := rfl

theorem Snu.dropEmptyBell_cases (u : Snu) :
    u.dropEmptyBell = u ∨ u.dropEmptyBell = u.endRequest .bell := by
  unfold Snu.dropEmptyBell
  split
  · exact .inr rfl
  · exact .inl rfl

theorem Snu.narrows_dropEmptyBell (u : Snu) : u.Narrows u.dropEmptyBell := by
  rcases u.dropEmptyBell_cases with h | h <;> rw [h]
  · exact .refl u
  · exact u.narrows_endRequest _

theorem Snu.player_dropEmptyBell (u : Snu) (c : Channel) : u.dropEmptyBell.player c = u.player c := by
  rcases u.dropEmptyBell_cases with h | h <;> rw [h]
  exact u.player_endRequest _ c

theorem Snu.eventsKept_dropEmptyBell (u : Snu) : u.EventsKept u.dropEmptyBell := by
  rcases u.dropEmptyBell_cases with h | h <;> rw [h] <;> exact .refl u

theorem Snu.bell_dropEmptyBell (u : Snu) :
    u.dropEmptyBell.bell = (u.bell && !(u.patternOf .bell).isEmpty) := by
  unfold Snu.dropEmptyBell
  cases (u.patternOf .bell).isEmpty
  · exact (Bool.and_true _).symm
  · exact (Bool.and_false _).symm

theorem Snu.narrows_handled (u : Snu) (touches : Source → Bool) : u.Narrows (u.handled touches) :=
  ((u.narrows_afterWrite _ _).trans (Snu.narrows_afterWrite _ _ _)).trans (Snu.narrows_dropEmptyBell _)

/-- What is handled of a channel is what the write touches of it, whatever has been done for the other. -/
theorem Snu.handled_at (u : Snu) (touches : Source → Bool) (c : Channel) :
    ∃ w, u.Narrows w ∧ w.player c = u.player c ∧ (w.afterWrite c touches).Narrows (u.handled touches) ∧
      (u.handled touches).player c = (w.afterWrite c touches).player c := by
  cases c
  case exterior =>
    refine ⟨u, .refl u, rfl, (Snu.narrows_afterWrite _ _ _).trans (Snu.narrows_dropEmptyBell _), ?_⟩
    exact (Snu.player_dropEmptyBell _ _).trans (Snu.player_afterWrite_ne _ _ (by decide))
  case interior =>
    exact ⟨_, u.narrows_afterWrite _ _, Snu.player_afterWrite_ne _ _ (by decide),
      Snu.narrows_dropEmptyBell _, Snu.player_dropEmptyBell _ _⟩

theorem Snu.player_handled_untouched {u : Snu} {touches : Source → Bool} {c : Channel}
    (h : ∀ x, (u.player c).playing = some x → touches x = false) :
    (u.handled touches).player c = u.player c := by
  obtain ⟨w, -, hw, -, hp⟩ := u.handled_at touches c
  rw [hp, Snu.afterWrite_untouched (by rwa [hw]), hw]

/-- A touched source starts again, or takes part no longer. -/
theorem Snu.handled_touched {u : Snu} {touches : Source → Bool} {c : Channel} {x : Source}
    (hx : (u.player c).playing = some x) (ht : touches x = true) :
    (u.handled touches).player c = (u.player c).restarted ∨
      (u.handled touches).player c = u.player c ∧ (u.handled touches).takesPart x = false := by
  obtain ⟨w, huw, hw, hn, hp⟩ := u.handled_at touches c
  rw [Snu.afterWrite_touched (by rwa [hw]) ht] at hn hp
  rw [Snu.player_touched_same, hw] at hp
  split at hp
  · exact .inl hp
  next h =>
    refine .inr ⟨hp, ?_⟩
    by_cases hk : sourceKind x = .event
    · have hr : (w.touched c x).requested x = false := by
        rcases w.touched_cases c x with ⟨-, k⟩ | ⟨k, -⟩ | ⟨k, -⟩
        · rw [k, Snu.requested_discard_same w hk]
        · exact absurd hk k
        · exact absurd hk k
      rw [Snu.takesPart, hn.requested_false hr, Bool.false_and]
    · have he : (w.patternOf x).isEmpty = true := by
        by_contra k
        exact h ⟨hk, by simpa using k⟩
      rw [Snu.takesPart, (u.narrows_handled touches).1.patternOf, ← huw.1.patternOf, he, Bool.not_true,
        Bool.and_false]

theorem Snu.player_handled_cases (u : Snu) (touches : Source → Bool) (c : Channel) :
    (u.handled touches).player c = u.player c ∨ (u.handled touches).player c = (u.player c).restarted := by
  by_cases h : ∀ x, (u.player c).playing = some x → touches x = false
  · exact .inl (Snu.player_handled_untouched h)
  · push Not at h
    obtain ⟨x, hx, ht⟩ := h
    rcases Snu.handled_touched hx (by simpa using ht) with k | ⟨k, -⟩
    · exact .inr k
    · exact .inl k

theorem Snu.playing_handled (u : Snu) (touches : Source → Bool) (c : Channel) :
    ((u.handled touches).player c).playing = (u.player c).playing ∧
      ((u.handled touches).player c).wave = (u.player c).wave := by
  rcases u.player_handled_cases touches c with k | k <;> rw [k] <;> exact ⟨rfl, rfl⟩

/-! ### The whole write -/

theorem Snu.steady_settleWrite (u : Snu) (touches : Source → Bool) : u.Steady (u.settleWrite touches) :=
  ((u.narrows_handled touches).trans (Snu.narrows_arbitrateBoth _)).1

/-- A bell request stands on while its pattern holds steps. -/
theorem Snu.bell_settleWrite (u : Snu) (touches : Source → Bool) :
    (u.settleWrite touches).bell = (u.bell && !(u.patternOf .bell).isEmpty) := by
  have hpat : ((u.afterWrite .exterior touches).afterWrite .interior touches).patternOf .bell =
      u.patternOf .bell :=
    ((u.narrows_afterWrite _ _).trans (Snu.narrows_afterWrite _ _ _)).1.patternOf _
  rw [Snu.settleWrite_eq, Snu.bell_arbitrateBoth, Snu.handled, Snu.bell_dropEmptyBell, hpat]
  cases h : (u.patternOf .bell).isEmpty
  · rw [Snu.bell_afterWrite _ _ _ (by rw [(u.narrows_afterWrite _ _).1.patternOf, h]),
      Snu.bell_afterWrite _ _ _ h]
  · rw [Bool.not_true, Bool.and_false, Bool.and_false]

/-- The players after a write: each channel plays its winner, from step 0 where it is new or touched, and
where it stands otherwise. -/
theorem Snu.player_settleWrite (u : Snu) (touches : Source → Bool) (c : Channel) {v : Snu}
    (hv : v = u.settleWrite touches) :
    (v.player c).playing = v.winner c ∧ (v.player c).wave = (u.player c).wave ∧
      ((v.player c).playing = (u.player c).playing →
        (∀ x, (u.player c).playing = some x → touches x = true →
          (v.player c).step = 0 ∧ (v.player c).elapsed = 0) ∧
        ((∀ x, (u.player c).playing = some x → ¬ touches x = true) → v.player c = u.player c)) ∧
      ((v.player c).playing ≠ (u.player c).playing → (v.player c).step = 0 ∧ (v.player c).elapsed = 0) := by
  obtain ⟨w, hn, hw, hp, hwin⟩ := (u.handled touches).arbitrateBoth_at c
  rw [← Snu.settleWrite_eq, ← hv] at hp hwin
  have hsame : (w.player c).playing = (u.player c).playing ∧ (w.player c).wave = (u.player c).wave := by
    rw [hw]; exact u.playing_handled touches c
  rw [Snu.player_arbitrate_same] at hp
  split at hp
  next h =>
    rw [hp, hwin]
    refine ⟨h.symm, hsame.2, fun _ => ⟨fun x hx ht => ?_, fun hu => ?_⟩, fun k => absurd hsame.1 k⟩
    · have htakes : (u.handled touches).takesPart x = true :=
        hn.takesPart (Snu.takesPart_of_winner (h.trans (hsame.1.trans hx)))
      rcases Snu.handled_touched hx ht with k | ⟨-, k⟩
      · rw [hw, k]; exact ⟨rfl, rfl⟩
      · rw [htakes] at k; exact absurd k (by decide)
    · rw [hw, Snu.player_handled_untouched fun x hx => Bool.eq_false_iff.2 (hu x hx)]
  next h =>
    rw [hp, hwin]
    exact ⟨rfl, hsame.2, fun k => absurd (k.trans hsame.1.symm) h, fun _ => ⟨rfl, rfl⟩⟩

/-! ### The events -/

/-- Where no event plays outside, the events meet the interior channel alone: its playing source handled, and
its new decision. -/
theorem Snu.settleWrite_interior {u : Snu} {touches : Source → Bool}
    (h : ∀ y, (u.player .exterior).playing = some y → sourceKind y ≠ .event) :
    ∃ a b, u.EventsKept a ∧ a.player .interior = u.player .interior ∧
      (a.afterWrite .interior touches).EventsKept b ∧
      (b.player .interior).playing = (u.player .interior).playing ∧
      u.settleWrite touches = b.arbitrate .interior := by
  refine ⟨_, (u.handled touches).arbitrate .exterior, Snu.eventsKept_afterWrite touches h,
    Snu.player_afterWrite_ne _ _ (by decide), ?_, ?_, rfl⟩
  · refine (Snu.eventsKept_dropEmptyBell _).trans (Snu.eventsKept_arbitrate fun x hx hk => ?_)
    exact absurd hk (h x ((u.playing_handled touches .exterior).1.symm.trans hx))
  · rw [Snu.player_arbitrate_ne _ (by decide), (u.playing_handled touches .interior).1]

/-- What a write does to an event request: nothing where it does not play; discarded where it is touched or
wins no longer (R156, R157). -/
theorem Snu.event_settleWrite {u v : Snu} {touches : Source → Bool} {x : Source}
    (hv : v = u.settleWrite touches) (hx : sourceKind x = .event)
    (h : ∀ y, (u.player .exterior).playing = some y → sourceKind y ≠ .event) :
    ((u.player .interior).playing ≠ some x → v.requested x = u.requested x) ∧
      ((u.player .interior).playing = some x → touches x = true →
        v.requested x = false ∧ v.discarded = bump u.discarded) ∧
      ((u.player .interior).playing = some x → ¬ touches x = true → u.requested x = true →
        ((v.winner .interior = some x ∧ v.requested x = true ∧ v.discarded = u.discarded) ∨
          (v.winner .interior ≠ some x ∧ v.requested x = false ∧ v.discarded = bump u.discarded))) := by
  obtain ⟨a, b, hua, hpa, hab, hpb, hs⟩ := Snu.settleWrite_interior (touches := touches) h
  rw [hs] at hv
  subst hv
  refine ⟨fun hne => ?_, fun hp ht => ?_, fun hp ht hr => ?_⟩
  · rw [Snu.requested_arbitrate _ _ (.inl (by rwa [hpb])), hab.requested hx,
      Snu.requested_afterWrite touches hx (by rwa [hpa]), hua.requested hx]
  · have hdisc : a.afterWrite .interior touches = a.discard x := by
      rw [Snu.afterWrite_touched (by rwa [hpa]) ht]
      rcases a.touched_cases .interior x with ⟨-, k⟩ | ⟨k, -⟩ | ⟨k, -⟩
      · exact k
      · exact absurd hx k
      · exact absurd hx k
    rw [hdisc] at hab
    have hb : b.requested x = false := by rw [hab.requested hx, Snu.requested_discard_same a hx]
    have hkept : b.EventsKept (b.arbitrate .interior) := Snu.eventsKept_arbitrate fun y hy _ => by
      obtain rfl := Option.some.inj (hp.symm.trans (hpb.symm.trans hy))
      exact hb
    refine ⟨(hkept.requested hx).trans hb, hkept.discarded.trans (hab.discarded.trans ?_)⟩
    exact congrArg bump hua.discarded
  · have hkept : u.EventsKept b := by
      rw [Snu.afterWrite_untouched (u := a) fun y hy => ?_] at hab
      · exact hua.trans hab
      · rw [hpa, hp] at hy
        obtain rfl := Option.some.inj hy
        exact Bool.eq_false_iff.2 ht
    have hbr : b.requested x = true := (hkept.requested hx).trans hr
    rw [Snu.winner_arbitrate_same]
    by_cases hw : b.winner .interior = some x
    · rw [Snu.arbitrate_kept (hw.trans (hp.symm.trans hpb.symm))]
      exact .inl ⟨hw, hbr, hkept.discarded⟩
    · obtain ⟨hr', hd⟩ := Snu.arbitrate_discards hx (hpb.trans hp) hbr hw
      exact .inr ⟨hw, hr', hd.trans (congrArg bump hkept.discarded)⟩

/-- Where no event plays, a write discards none. -/
theorem Snu.discarded_settleWrite {u : Snu} {touches : Source → Bool}
    (h : ∀ c y, (u.player c).playing = some y → sourceKind y ≠ .event) :
    (u.settleWrite touches).discarded = u.discarded := by
  obtain ⟨a, b, hua, hpa, hab, hpb, hs⟩ := Snu.settleWrite_interior (touches := touches) (h .exterior)
  have hin : a.EventsKept (a.afterWrite .interior touches) :=
    Snu.eventsKept_afterWrite touches (by rw [hpa]; exact h .interior)
  have hlast : b.EventsKept (b.arbitrate .interior) := Snu.eventsKept_arbitrate fun y hy hk =>
    absurd hk (h .interior y (hpb.symm.trans hy))
  rw [hs, hlast.discarded, hab.discarded, hin.discarded, hua.discarded]

end Sys2Proof.Machine
end

section
/-! SUPPORT. What each table of the Sound Unit takes from its write (R150 to R152, R157), and the statement
about the live tables. -/

namespace Sys2Proof.Machine

/-! ### Tones (R150) -/

/-- The wave of a channel set down as it now is: what sounds, or the wave it had. -/
def Snu.waveFixed (u : Snu) (c : Channel) : Option Wave :=
  match u.soundingTone c with
  | some t => some (u.waveOf c t)
  | none => (u.player c).wave

theorem Snu.fixWave_eq (u : Snu) (c : Channel) :
    u.fixWave c = u.setPlayer c { u.player c with wave := u.waveFixed c } := by
  unfold Snu.fixWave Snu.waveFixed
  cases u.soundingTone c
  · cases c <;> rfl
  · rfl

/-- A Tone Table write: the entry, and the wave of each channel. -/
theorem Snu.writeTone_eq (u : Snu) (n hz : Nat) :
    u.writeTone n hz = { u with
      tones := u.tones.set n hz
      exterior := { u.exterior with wave := u.waveFixed .exterior }
      interior := { u.interior with wave := u.waveFixed .interior } } := by
  simp only [Snu.writeTone, Snu.fixWave_eq]
  rfl

theorem Snu.player_writeTone (u : Snu) (n hz : Nat) (c : Channel) :
    (u.writeTone n hz).player c = { u.player c with wave := u.waveFixed c } := by
  rw [Snu.writeTone_eq]
  cases c <;> rfl

theorem Snu.soundingTone_writeTone (u : Snu) (n hz : Nat) (c : Channel) :
    (u.writeTone n hz).soundingTone c = u.soundingTone c := by
  rw [Snu.writeTone_eq]
  cases c <;> rfl

theorem Snu.waveOf_tone (u : Snu) (c : Channel) (t : Nat) : (u.waveOf c t).tone = t := by
  unfold Snu.waveOf
  split
  · split
    · assumption
    · rfl
  · rfl

/-- A tone that sounds goes on with the wave it has (R150, R157). -/
theorem Snu.waveOf_writeTone {u : Snu} {c : Channel} {t : Nat} (n hz : Nat) (h : u.soundingTone c = some t) :
    (u.writeTone n hz).waveOf c t = u.waveOf c t := by
  have hw : ((u.writeTone n hz).player c).wave = some (u.waveOf c t) := by
    rw [Snu.player_writeTone]
    simp only [Snu.waveFixed, h]
  rw [Snu.waveOf, hw]
  exact if_pos (u.waveOf_tone c t)

/-- A Tone Table write changes no output; a tone that sounds has its wave set down, any other channel keeps
its player. -/
theorem Snu.writeTone_channel (u : Snu) (n hz : Nat) (c : Channel) {v : Snu} (hv : v = u.writeTone n hz) :
    v.player c = { u.player c with wave := (v.player c).wave } ∧
      v.toneOutput c = u.toneOutput c ∧ v.toneLevel c = u.toneLevel c ∧
      (u.soundingTone c = none → v.player c = u.player c) ∧
      ∀ k, u.soundingTone c = some k → (v.player c).wave = some (u.waveOf c k) := by
  subst hv
  refine ⟨?_, ?_, ?_, fun h => ?_, fun k h => ?_⟩
  · rw [Snu.player_writeTone]
  · unfold Snu.toneOutput
    rw [Snu.soundingTone_writeTone]
    cases h : u.soundingTone c with
    | none => rfl
    | some t => rw [Option.map_some, Option.map_some, Snu.waveOf_writeTone n hz h]
  · unfold Snu.toneLevel
    rw [Snu.soundingTone_writeTone]
    cases h : u.soundingTone c with
    | none => rfl
    | some t => exact congrArg Wave.high (Snu.waveOf_writeTone n hz h)
  · rw [Snu.player_writeTone, Snu.waveFixed, h]
  · rw [Snu.player_writeTone, Snu.waveFixed, h]

theorem Snu.waveOf_elim (u : Snu) (c : Channel) (k : Nat) :
    u.waveOf c k = (u.player c).wave.elim { tone := k, high := true, hz := u.tones.get k 0, phase := 0 }
      fun w => if w.tone = k then w else { tone := k, high := true, hz := u.tones.get k 0, phase := 0 } := by
  unfold Snu.waveOf
  cases (u.player c).wave <;> rfl

theorem parseTone_octets (k : Nat) (x y : Byte) :
    parseTone k [x, y] = some
      { value := clampNat 100 4000 (x.toNat + 256 * y.toNat)
        clamps := offRange 100 4000 (x.toNat + 256 * y.toNat) } :=
  rfl

/-! ### Patterns (R151) -/

/-- A written step, from its two octets. -/
def stepWritten (x : Byte × Byte) : Step :=
  { tone := if x.1 = 255 then none else some (min 7 x.1.toNat), duration := max 1 x.2.toNat }

/-- The clamped fields of a written step. -/
def stepClamps (x : Byte × Byte) : Nat :=
  (if x.1 ≠ 255 ∧ 7 < x.1.toNat then 1 else 0) + if x.2 = 0 then 1 else 0

/-- The octets of step `k`, behind the step count. -/
theorem octetAt_steps (n : Byte) {l : List (Byte × Byte)} {k : Nat} (h : k < l.length) :
    octetAt (n :: l.flatMap fun x => [x.1, x.2]) (1 + 2 * k) = l[k].1 ∧
      octetAt (n :: l.flatMap fun x => [x.1, x.2]) (2 + 2 * k) = l[k].2 := by
  induction l generalizing n k with
  | nil => exact absurd h (Nat.not_lt_zero k)
  | cons x l ih =>
    cases k with
    | zero => exact ⟨rfl, rfl⟩
    | succ k =>
      have h1 : 1 + 2 * (k + 1) = 1 + 2 * k + 1 + 1 := by omega
      have h2 : 2 + 2 * (k + 1) = 2 + 2 * k + 1 + 1 := by omega
      rw [h1, h2]
      exact ih x.2 (Nat.lt_of_succ_lt_succ h)

theorem parseStep_octets (n : Byte) {l : List (Byte × Byte)} {k : Nat} (h : k < l.length) :
    parseStep (n :: l.flatMap fun x => [x.1, x.2]) k =
      { value := stepWritten l[k], clamps := stepClamps l[k] } := by
  obtain ⟨ht, hd⟩ := octetAt_steps n h
  simp only [parseStep, num1, ht, hd, takeOpt_octet, takeNat, clampNat_octet 1, offRange_octet]
  rfl

theorem map_parseStep (n : Byte) (l : List (Byte × Byte)) :
    (List.range l.length).map (parseStep (n :: l.flatMap fun x => [x.1, x.2])) =
      l.map fun x => { value := stepWritten x, clamps := stepClamps x } := by
  refine List.ext_getElem (by simp) fun k hk _ => ?_
  have hk : k < l.length := by simpa using hk
  simp [parseStep_octets n hk]

theorem sum_stepClamps (l : List (Byte × Byte)) :
    (l.map stepClamps).sum = (l.filter fun x => decide (x.1 ≠ 255 ∧ 7 < x.1.toNat)).length +
      (l.filter fun x => decide (x.2 = 0)).length := by
  rw [← sum_map_indicator fun x : Byte × Byte => x.1 ≠ 255 ∧ 7 < x.1.toNat,
    ← sum_map_indicator fun x : Byte × Byte => x.2 = 0, ← List.sum_map_add]
  rfl

theorem parsePattern_octets {l : List (Byte × Byte)} (h : l.length ≤ 12) :
    parsePattern (BitVec.ofNat 8 l.length :: l.flatMap fun x => [x.1, x.2]) = some
      { value := l.map stepWritten
        clamps := (l.filter fun x => decide (x.1 ≠ 255 ∧ 7 < x.1.toNat)).length +
          (l.filter fun x => decide (x.2 = 0)).length } := by
  have hn : num1 (BitVec.ofNat 8 l.length :: l.flatMap fun x => [x.1, x.2]) 0 = l.length := by
    show (BitVec.ofNat 8 l.length).toNat = l.length
    rw [BitVec.toNat_ofNat]; omega
  simp only [parsePattern, hn, if_neg (Nat.not_lt.2 h), map_parseStep, List.map_map]
  rw [← sum_stepClamps]
  rfl

/-- A PATTERN write of one pattern whose length matches its step count (R151, R171). -/
theorem State.writePattern_steps {s : State} {i : Byte} {l : List (Byte × Byte)} (hi : i.toNat ≤ 15)
    (h : l.length ≤ 12) :
    s.writePattern (2 :: 9 :: i :: 0 :: BitVec.ofNat 8 l.length :: l.flatMap fun x => [x.1, x.2]) =
      (s.onSnu fun u => u.writePattern i.toNat (l.map stepWritten),
        Answer.clamped ((l.filter fun x => decide (x.1 ≠ 255 ∧ 7 < x.1.toNat)).length +
          (l.filter fun x => decide (x.2 = 0)).length) []) := by
  generalize hE : BitVec.ofNat 8 l.length :: l.flatMap (fun x => [x.1, x.2]) = e
  have hidx : num2 (2 :: 9 :: i :: 0 :: e) 2 = i.toNat := rfl
  have hdrop : (2 :: 9 :: i :: 0 :: e).drop 4 = e := rfl
  have hlen : e.length = 1 + 2 * num1 e 0 := by
    rw [← hE]
    show _ = 1 + 2 * (BitVec.ofNat 8 l.length).toNat
    rw [BitVec.toNat_ofNat, List.length_cons, List.length_flatMap]
    simp
    omega
  have hparse := parsePattern_octets h
  rw [hE] at hparse
  simp only [State.writePattern, hidx, hdrop, if_neg (Nat.not_lt.2 hi), if_neg (not_not.2 hlen), hparse]
  rfl

theorem exec_writePattern_steps {s : State} {b : Nat} {f : Frame} {i : Byte} {l : List (Byte × Byte)}
    (h : s.Commanded b f)
    (hp : f.payload = 2 :: 9 :: i :: 0 :: BitVec.ofNat 8 l.length :: l.flatMap fun x => [x.1, x.2])
    (hi : i.toNat ≤ 15) (hl : l.length ≤ 12) :
    exec .writePattern s = .next
      ((s.takeHead.onSnu fun u => u.writePattern i.toNat (l.map stepWritten)).answered b f
        (Answer.clamped ((l.filter fun x => decide (x.1 ≠ 255 ∧ 7 < x.1.toNat)).length +
          (l.filter fun x => decide (x.2 = 0)).length) [])) := by
  have hact := State.writePattern_steps (s := s.takeHead) hi hl
  rw [← hp] at hact
  exact congrArg _
    (State.control_write (act := fun t g => t.writePattern g.payload) h hp rfl (Nat.succ_pos _) hact rfl)

/-! ### Sound Map (R152) -/

theorem parseSoundMap_octets {l : List Byte} (k : Nat) (h : l.length = 7) :
    parseSoundMap k l = some
      { value := tabWritten 15 l h, clamps := (l.filter fun x => decide (15 < x.toNat)).length } := by
  simp only [parseSoundMap, map_range_clampNat 15 h, sum_range_offRange 15 h]
  rfl

/-! ### The touched sources (R157) -/

/-- `v` is the unit `u` after a PATTERN or a SOUND_MAP write, which touches the sources
that `touched` names. -/
def Snu.Written (u v : Snu) (touched : Source → Prop) : Prop :=
  (∃ (n : Nat) (l : List Step), v = u.writePattern n l ∧ ∀ x, touched x ↔ u.mapped x = n) ∨
    ∃ m : Tab Nat 7, v = u.writeMap m ∧ ∀ x, touched x ↔ u.mapped x ≠ m.get x.index 0

/-- The unit with its Pattern Table and its Sound Map as they are after a write. -/
def Snu.withTables (u : Snu) (p : Tab (List Step) 16) (m : Tab Nat 7) : Snu :=
  { u with patterns := p, map := m }

/-- Either write changes a table and settles what it has touched. -/
theorem Snu.Written.settled {u v : Snu} {touched : Source → Prop} (h : u.Written v touched) :
    ∃ (p : Tab (List Step) 16) (m : Tab Nat 7) (touches : Source → Bool),
      v = (u.withTables p m).settleWrite touches ∧ touched = fun x => touches x = true := by
  rcases h with ⟨n, l, hv, ht⟩ | ⟨m, hv, ht⟩
  · exact ⟨u.patterns.set n l, u.map, fun x => u.mapped x == n, hv,
      funext fun x => propext ((ht x).trans beq_iff_eq.symm)⟩
  · exact ⟨u.patterns, m, fun x => u.mapped x != m.get x.index 0, hv,
      funext fun x => propext ((ht x).trans bne_iff_ne.symm)⟩

/-- Settles O51: each table by the write of one entry, PATTERN by its steps, the sounds by what settles
them. -/
theorem liveTablesAreWritten : Obligations.LiveTablesAreWritten := by
  refine ⟨?node, ?kind, ?tag, ?weight, ?port, ?queueMap, ?pattern, ?tone, ?soundMap, ?sounds, ?patternTable,
    ?mapTable, ?monitor⟩
  case node =>
    intro s b f i r p x y role h hp hi hr
    rw [exec_write_one .writeNode h hp (parseNode_octets _ p x y hr) rfl rfl rfl (by decide)
      ⟨Nat.zero_le _, hi⟩ fun _ _ _ => rfl, putNode_eq _ _ hi]
    rfl
  case kind =>
    intro s b f i x y p m a c h hp hx hy
    exact exec_write_one .writeClass h hp (parseClass_octets _ p m hx hy) rfl rfl rfl (by decide)
      ⟨Nat.zero_le _, Nat.le_of_lt_succ i.isLt⟩ fun _ _ _ => rfl
  case tag =>
    intro s b f i x h hp hi
    exact exec_write_one .writeTagMap h hp (parseOctet_octet 7 _ x) rfl rfl rfl (by decide)
      ⟨Nat.zero_le _, hi⟩ fun _ _ _ => rfl
  case weight =>
    intro s b f i x h hp hi
    exact exec_write_one .writeWeights h hp (parseOctet_octet 15 _ x) rfl rfl rfl (by decide)
      ⟨Nat.zero_le _, hi⟩ fun _ _ _ => rfl
  case port =>
    intro s b f i n d a t0 t1 t2 t3 w0 w1 w2 w3 d0 d1 d2 d3 p permit q0 q1 q2 q3 h hp hi ha h0 h1 h2 h3
    have hport : i.toNat = codePort p := by rcases hi with ⟨rfl, rfl⟩ | ⟨rfl, rfl⟩ <;> rfl
    have hin : 1 ≤ i.toNat ∧ i.toNat ≤ 2 := by rw [hport]; cases p <;> decide
    have hex := exec_write_one .writePortConfig h hp
      (parsePortConfig_octets i.toNat (permitOf_octet ha) h0 h1 h2 h3) rfl rfl rfl (by decide) hin
      fun u k y => by simp
    refine ⟨_, _, hex, rfl, ?_⟩
    obtain ⟨hself, hother⟩ := putPortConfig_egress s.takeHead (portWritten n d permit (queueWritten q0 w0 d0)
      (queueWritten q1 w1 d1) (queueWritten q2 w2 d2) (queueWritten q3 w3 d3)) hport
    refine ⟨?_, hother, ?_⟩
    · rw [putPortConfig_eq _ _ hport]
      rfl
    · rw [hself]
      exact ⟨Egress.configure_pointer _ _, rfl, rfl, rfl, rfl, fun k hk => Egress.configure_queue _ hk⟩
  case queueMap =>
    intro s b f i l h hp hl h1 h4
    have hp : f.payload = 2 :: 6 :: i :: 0 :: l := hp
    have hex := exec_write_one .writeQueueMap h hp (parseQueueMap_octets _ hl) rfl rfl hl (by decide)
      ⟨h1, h4⟩ fun _ _ _ => rfl
    refine ⟨_, hex, rfl, ?_, fun k hk => ?_⟩
    · rw [putQueueMap_maps, Tab.get_set_same _ _ _ _ (by omega)]
      rfl
    · rw [putQueueMap_maps, Tab.get_set_ne _ _ _ _ _ hk.symm]
      rfl
  case pattern =>
    intro s b f i l h hp hi hl
    exact ⟨_, _, exec_writePattern_steps h hp hi hl, rfl, rfl⟩
  case tone =>
    intro s b f i x y h hp hi
    have hex := exec_write_one .writeTone h hp (parseTone_octets i.toNat x y) rfl rfl rfl (by decide)
      ⟨Nat.zero_le _, hi⟩ fun _ _ _ => rfl
    refine ⟨s.snu.writeTone i.toNat (clampNat 100 4000 (x.toNat + 256 * y.toNat)), hex, ?_, fun c => ?_⟩
    · rw [Snu.writeTone_eq]
    · obtain ⟨hplayer, hout, hlevel, hsilent, hsounds⟩ := Snu.writeTone_channel s.snu i.toNat
        (clampNat 100 4000 (x.toNat + 256 * y.toNat)) c rfl
      exact ⟨hplayer, hout, hlevel, hsilent, fun k hk =>
        (hsounds k hk).trans (congrArg some (s.snu.waveOf_elim c k))⟩
  case soundMap =>
    intro s b f l h hp hl
    have hp : f.payload = 2 :: 11 :: 0 :: 0 :: l := hp
    have hex := exec_write_one .writeSoundMap h hp (parseSoundMap_octets 0 hl) rfl rfl hl (by decide)
      ⟨le_rfl, le_rfl⟩ fun _ _ _ => rfl
    exact ⟨tabWritten 15 l hl, rfl, hex⟩
  case sounds =>
    intro u v touched h
    obtain ⟨p, m, touches, hv, rfl⟩ := Snu.Written.settled h
    have hsteady : (u.withTables p m).Steady v := by rw [hv]; exact Snu.steady_settleWrite _ _
    have hbell := (u.withTables p m).bell_settleWrite touches
    rw [← hv, ← hsteady.patternOf] at hbell
    obtain ⟨-, -, htones, hhorn, hemergency, hwarning, hrole, hjunction⟩ := hsteady
    refine ⟨htones, hhorn, hemergency, hwarning, hrole, hjunction, hbell,
      fun c => (u.withTables p m).player_settleWrite touches c hv, fun x hx h => ?_, fun h => ?_⟩
    · exact Snu.event_settleWrite (u := u.withTables p m) hv (sourceKind_event.2 hx) fun y hy =>
        sourceKind_ne_event.2 (h y hy)
    · rw [hv]
      exact Snu.discarded_settleWrite (u := u.withTables p m) fun c y hy => sourceKind_ne_event.2 (h c y hy)
  case patternTable =>
    intro u n l
    obtain ⟨hpatterns, hmap, -⟩ :=
      (u.withTables (u.patterns.set n l) u.map).steady_settleWrite fun x => u.mapped x == n
    exact ⟨hpatterns, hmap⟩
  case mapTable =>
    intro u m
    obtain ⟨hpatterns, hmap, -⟩ :=
      (u.withTables u.patterns m).steady_settleWrite fun x => u.mapped x != m.get x.index 0
    exact ⟨hpatterns, hmap⟩
  case monitor =>
    intro s b f i t p r x y a g h hp hi hg
    have hin : 1 ≤ i.toNat ∧ i.toNat ≤ 8 := by have := attrIndex_lt a; omega
    have hex := exec_write_one .writeAttributeConfig h hp (parseAttr_octets i.toNat t p r x y) rfl rfl rfl
      (by decide) hin fun _ _ _ => rfl
    have hlaw := s.cmn.writeAttr_law a g rfl
    rw [← hi] at hlaw
    refine ⟨s.cmn.writeAttr a g, ?_, hlaw⟩
    rw [hex, putAttr, hi, attrOf_attrIndex, hg]
    rfl

end Sys2Proof.Machine
end

section
/-! SUPPORT. The references on the buffers of the pool (R41): how often a buffer stands in the queues of a
port, what each operation of the Buffer and Queue Manager does to that and to the reference counts. -/

namespace Sys2Proof.Machine

/-! ### Reference counts -/

/-- A buffer outside the pool has no reference. -/
theorem Bqm.lt_of_refs {q : Bqm} {b : Nat} (h : (q.buffer b).refs ≠ 0) : b < 96 := by
  by_contra hb
  have he : q.buffer b = Buffer.empty := by
    simp [Bqm.buffer, Tab.get, List.getD, q.pool.size, Nat.le_of_not_lt hb]
  exact h (by rw [he]; rfl)

/-- What a change of one buffer's entry leaves of the reference counts. -/
theorem Bqm.refs_set {q : Bqm} {c : Nat} {x : Buffer} (hc : c < 96) (b : Nat) :
    (({ q with pool := q.pool.set c x } : Bqm).buffer b).refs =
      if b = c then x.refs else (q.buffer b).refs := by
  split
  · next h => rw [h]; exact congrArg Buffer.refs (Tab.get_set_same _ c x _ hc)
  · next h => exact congrArg Buffer.refs (Tab.get_set_ne _ c b x _ (Ne.symm h))

theorem Bqm.refs_take {q : Bqm} {c : Nat} (hc : c < 96) (b : Nat) :
    ((q.take c).buffer b).refs = if b = c then 1 else (q.buffer b).refs :=
  Bqm.refs_set hc b

/-- A change outside the pool changes no buffer. -/
theorem Bqm.pool_set_outside {q : Bqm} {c : Nat} (x : Buffer) (hc : ¬ c < 96) : q.pool.set c x = q.pool :=
  Tab.set_outside _ _ _ (Nat.le_of_not_lt hc)

theorem Bqm.refs_retain {q : Bqm} {b : Nat} (hb : b < 96) (c : Nat) :
    ((q.retain c).buffer b).refs = (q.buffer b).refs + if b = c then 1 else 0 := by
  by_cases hc : c < 96
  · rw [Bqm.retain, Bqm.refs_set hc]
    split
    · next h => rw [h]
    · rfl
  · have hq : (q.retain c).buffer b = q.buffer b := by
      rw [Bqm.retain, Bqm.pool_set_outside _ hc]
    rw [hq, if_neg (by omega)]
    rfl

theorem Bqm.refs_release (q : Bqm) (c b : Nat) :
    ((q.release c).buffer b).refs = (q.buffer b).refs - if b = c then 1 else 0 := by
  by_cases hc : c < 96
  · rw [Bqm.release, Bqm.refs_set hc]
    split
    · next h => rw [h]
    · rfl
  · have h0 : (q.buffer c).refs = 0 := by_contra fun h => hc (Bqm.lt_of_refs h)
    have hq : (q.release c).buffer b = q.buffer b := by
      rw [Bqm.release, Bqm.pool_set_outside _ hc]
    rw [hq]
    split
    · next h => rw [h, h0]
    · rfl

theorem Bqm.refs_write (q : Bqm) (c b : Nat) (f : Frame) : ((q.write c f).buffer b).refs = (q.buffer b).refs := by
  by_cases hc : c < 96
  · rw [Bqm.write, Bqm.refs_set hc]
    split
    · next h => rw [h]
    · rfl
  · rw [Bqm.write, Bqm.pool_set_outside _ hc]

/-- The releases of a list change the pool alone. -/
theorem Bqm.releaseAll_eq (q : Bqm) (l : List Nat) :
    q.releaseAll l = { q with pool := (q.releaseAll l).pool } := by
  induction l generalizing q with
  | nil => rfl
  | cons c l ih => exact ih (q.release c)

theorem Bqm.refs_releaseAll (q : Bqm) (l : List Nat) (b : Nat) :
    ((q.releaseAll l).buffer b).refs = (q.buffer b).refs - l.count b := by
  induction l generalizing q with
  | nil => rfl
  | cons c l ih =>
    have h := ih (q.release c)
    rw [Bqm.refs_release] at h
    refine h.trans ?_
    simp only [List.count_cons, beq_iff_eq, eq_comm (a := c)]
    omega

/-! ### What stands in the queues of a port -/

theorem Egress.queue_outside {e : Egress} {n : Nat} (h : ¬ n < 4) : e.queue n = EgressQueue.empty := by
  simp [Egress.queue, Tab.get, List.getD, e.queues.size, Nat.le_of_not_lt h]

theorem Egress.onQueue_outside {e : Egress} {n : Nat} {g : EgressQueue → EgressQueue} (h : ¬ n < 4) :
    e.onQueue n g = e := by
  rw [Egress.onQueue, Tab.set_outside _ _ _ (Nat.le_of_not_lt h)]

theorem Egress.count_references (e : Egress) (b : Nat) :
    e.references.count b = (e.queue 3).entries.count b + (e.queue 2).entries.count b +
      (e.queue 1).entries.count b + (e.queue 0).entries.count b := by
  simp only [Egress.references, List.count_append]

/-- Egress sides whose four queues hold the same frames hold the same references. -/
theorem Egress.references_congr {e e' : Egress}
    (h : ∀ n, n < 4 → (e'.queue n).entries = (e.queue n).entries) : e'.references = e.references := by
  simp only [Egress.references, h 3 (by decide), h 2 (by decide), h 1 (by decide), h 0 (by decide)]

/-- A change of one queue changes what the port holds by what it changes in that queue. -/
theorem Egress.count_onQueue {e : Egress} {n : Nat} {g : EgressQueue → EgressQueue} (hn : n < 4) (b : Nat) :
    (e.onQueue n g).references.count b + (e.queue n).entries.count b =
      e.references.count b + (g (e.queue n)).entries.count b := by
  have hq (m : Nat) (hm : m < 4) := Egress.queue_onQueue (e := e) (n := n) (g := g) hm
  rw [Egress.count_references, Egress.count_references, hq 3 (by decide), hq 2 (by decide),
    hq 1 (by decide), hq 0 (by decide)]
  interval_cases n <;> simp <;> omega

theorem Egress.references_onQueue {e : Egress} {n : Nat} {g : EgressQueue → EgressQueue}
    (h : (g (e.queue n)).entries = (e.queue n).entries) : (e.onQueue n g).references = e.references :=
  Egress.references_congr fun _ _ => Egress.entries_onQueue h

theorem count_tail_head {α : Type} [DecidableEq α] (l : List α) (b : α) :
    l.count b = l.tail.count b + if l.head? = some b then 1 else 0 := by
  cases l with
  | nil => rfl
  | cons c l => simp [List.count_cons]

/-- The head of a queue taken is one reference less of that buffer. -/
theorem Egress.count_takeHead {e : Egress} {n : Nat} {g : EgressQueue → EgressQueue}
    (h : (g (e.queue n)).entries = (e.queue n).entries.tail) (b : Nat) :
    e.references.count b = (e.onQueue n g).references.count b +
      if (e.queue n).entries.head? = some b then 1 else 0 := by
  by_cases hn : n < 4
  · have hc := Egress.count_onQueue (e := e) (g := g) hn b
    have ht := count_tail_head (e.queue n).entries b
    rw [h] at hc
    omega
  · rw [Egress.onQueue_outside hn, Egress.queue_outside hn]
    rfl

theorem Egress.references_settle (e : Egress) : e.settle.references = e.references :=
  Egress.references_congr fun n _ => e.entries_settle n

theorem Egress.references_advance (e : Egress) : e.advance.references = e.references := by
  unfold Egress.advance
  split
  · rfl
  · next n _ =>
    exact Egress.references_congr fun _ _ => Egress.entries_onQueue (e := e) (n := n)
      (g := fun x => { x with deficit := if x.entries.isEmpty then 0
        else x.deficit + (e.queueConfig n).weight * 32 }) rfl

/-- The deficit round robin takes the buffer it names out of the queues, and no other (R49). -/
theorem Egress.count_roundRobin (size : Nat → Nat) (k : Nat) (e : Egress) (b : Nat) :
    e.references.count b = (Egress.roundRobin size k e).1.references.count b +
      if (Egress.roundRobin size k e).2 = some b then 1 else 0 := by
  induction k generalizing e with
  | zero => rfl
  | succ k ih =>
    cases hf : e.fits size with
    | some n =>
      have h : e.references.count b = (e.serve size n).references.count b + _ := Egress.count_takeHead rfl b
      simpa only [Egress.roundRobin, hf] using h
    | none =>
      have h := ih e.settle.advance
      rw [Egress.references_advance, Egress.references_settle] at h
      simpa only [Egress.roundRobin, hf] using h

/-- A decision takes the buffer it names out of the queues, and no other (R48, R49). -/
theorem Egress.count_decide (e : Egress) (size : Nat → Nat) (b : Nat) :
    e.references.count b = (e.decide size).1.references.count b +
      if (e.decide size).2 = some b then 1 else 0 := by
  unfold Egress.decide
  split
  · exact Egress.count_takeHead rfl b
  · split
    · exact Egress.count_roundRobin size 64 e b
    · rfl

theorem Egress.references_flush (e : Egress) : e.flush.references = [] := by
  have h (n : Nat) : (e.flush.queue n).entries = [] := by
    have hm := Tab.get_map (fun x : EgressQueue =>
      { x with entries := [], drops := bumpBy x.drops x.entries.length }) e.queues n EgressQueue.empty
    exact congrArg EgressQueue.entries hm
  simp only [Egress.references, h, List.append_nil]

/-! ### The queue of a priority (R45) -/

theorem Tab.get_outside {α : Type} {n : Nat} (t : Tab α n) {i : Nat} (d : α) (h : ¬ i < n) : t.get i d = d := by
  simp [Tab.get, List.getD, t.size, Nat.le_of_not_lt h]

/-- Under the law of the Queue Maps a priority maps to one of the four queues (R45). -/
theorem Bqm.MapLaw.queueFor_lt {q : Bqm} (h : q.MapLaw) (p : Port) (priority : Nat) :
    q.queueFor p priority < 4 := by
  unfold Bqm.queueFor
  by_cases hk : (q.egress.get p).config.queueCount - 1 < 4
  · by_cases hn : priority < 8
    · exact Nat.lt_of_le_of_lt (h _ _ hk hn) hk
    · rw [Tab.get_outside _ _ hn]; decide
  · rw [Tab.get_outside _ _ hk, Tab.get_fill]
    split <;> decide

end Sys2Proof.Machine
end

section
/-! SUPPORT. The laws of the buffers in the middle of a command (R41): besides the places, a unit at work
holds some references in its hands. What a port and what the Buffer and Queue Manager may change under these
laws, and that the sending and the classification of a frame keep them. -/

namespace Sys2Proof.Machine

/-! ### The references in the hands of a unit -/

/-- The references that one port's receiver, transmitter and return list hold on a buffer. -/
def LinePort.holds (u : LinePort) (b : Nat) : Nat :=
  (if u.receiving = some b then 1 else 0) + (if u.transmitting = some b then 1 else 0) + u.returnList.count b

/-- The references that the queues hold on a buffer. -/
def Bqm.holds (q : Bqm) (b : Nat) : Nat :=
  (q.egress.get .A).references.count b + (q.egress.get .B).references.count b + q.ldq.count b

/-- The demand `b` stands in the queues of port `r` once where it waits there and not at all where it does
not, and no other demand waits there (R53, R54). -/
def Bqm.SlotAt (q : Bqm) (r : Port) (b : Nat) : Prop :=
  (q.egress.get r).references.count b = (if q.slot.get r = .waiting b then 1 else 0) ∧
    ∀ c, q.slot.get r = .waiting c → c = b

/-- A demand that waits at a port is the demand of both. -/
def Bqm.SlotLaw (q : Bqm) : Prop :=
  ∀ (p : Port) (b : Nat), q.slot.get p = .waiting b → ∀ r, q.SlotAt r b

/-- The law of the pool, that of the receivers, that of the return lists and that of the Queue Maps, while the
references of `l` are in the hands of the unit at work. -/
structure Counted (u : Both LinePort) (q : Bqm) (l : List Nat) : Prop where
  pool : ∀ b, b < 96 →
    (q.buffer b).refs = (u.get .A).holds b + (u.get .B).holds b + q.holds b + l.count b
  receiver : ∀ p b, (u.get p).receiving = some b → (q.buffer b).refs = 1
  returns : ∀ p, (u.get p).mode ≠ .remoteLoopback → (u.get p).returnList = []
  maps : q.MapLaw

/-- The laws of the buffers while the references of `l` are in the hands of the unit at work. -/
structure Balanced (u : Both LinePort) (q : Bqm) (l : List Nat) : Prop extends Counted u q l where
  slot : q.SlotLaw

/-- The laws of the buffers in a state in the middle of a command. -/
def State.Balances (s : State) (l : List Nat) : Prop := Balanced s.ports s.bqm l

/-- Between two commands no reference is in the hands of a unit. -/
theorem State.balances_iff (s : State) : s.Balances [] ↔ s.BufferLaw := by
  have hplaces (b : Nat) : (s.port .A).holds b + (s.port .B).holds b + s.bqm.holds b = s.places b := by
    simp only [LinePort.holds, Bqm.holds, State.places, State.heldAt, occurrences]
    omega
  constructor
  · rintro ⟨⟨hpool, hrx, hret, hmaps⟩, hslot⟩
    exact ⟨fun b hb => (hpool b hb).trans (hplaces b), hrx, fun p r b h => hslot p b h r, hret, hmaps⟩
  · rintro ⟨hpool, hrx, hslot, hret, hmaps⟩
    exact ⟨⟨fun b hb => (hpool b hb).trans (hplaces b).symm, hrx, hret, hmaps⟩,
      fun p b h r => hslot p r b h⟩

/-- The laws of the buffers read nothing but the ports and the Buffer and Queue Manager. -/
theorem State.Balances.of_eq {s t : State} {l : List Nat} (h : s.Balances l) (hp : t.ports = s.ports)
    (hq : t.bqm = s.bqm) : t.Balances l := by
  unfold State.Balances
  rw [hp, hq]
  exact h

section
variable {u : Both LinePort} {q q' : Bqm} {l m : List Nat} {p : Port} {b c : Nat}

/-- A change of the queues of one port changes what the queues hold by what it changes there. -/
theorem Bqm.holds_modify {g : Egress → Egress} (hegress : q'.egress = q.egress.modify p g)
    (hldq : q'.ldq = q.ldq) (b : Nat) :
    q'.holds b + (q.egress.get p).references.count b =
      q.holds b + (g (q.egress.get p)).references.count b := by
  unfold Bqm.holds
  rw [hegress, hldq]
  cases p
  · change (g (q.egress.get .A)).references.count b + (q.egress.get .B).references.count b + _ + _ = _
    omega
  · change (q.egress.get .A).references.count b + (g (q.egress.get .B)).references.count b + _ + _ = _
    omega

/-- What stands in the queues of one port is held by the queues. -/
theorem Bqm.count_le_holds (q : Bqm) (p : Port) (b : Nat) :
    (q.egress.get p).references.count b ≤ q.holds b := by
  unfold Bqm.holds
  cases p <;> omega

theorem Counted.holds_eq (h : Counted u q l) (p : Port) (hb : b < 96) :
    (q.buffer b).refs = (u.get p).holds b + (u.get p.other).holds b + q.holds b + l.count b := by
  have := h.pool b hb
  cases p
  · exact this
  · change _ = (u.get .B).holds b + (u.get .A).holds b + _ + _
    omega

/-- A receiver holds a buffer of the pool (R6). -/
theorem Counted.receiving_lt (h : Counted u q l) (hr : (u.get p).receiving = some b) : b < 96 :=
  Bqm.lt_of_refs (q := q) (by rw [h.receiver p b hr]; decide)

/-- What stands in a queue or is in the hands of a unit is not in a receiver (R6, R42). -/
theorem Counted.not_receiving (h : Counted u q l) (hb : 0 < q.holds b + l.count b) (p : Port) :
    (u.get p).receiving ≠ some b := by
  intro hr
  have h1 := h.receiver p b hr
  have hx : 1 ≤ (u.get p).holds b := by simp only [LinePort.holds, hr, if_true]; omega
  have := h.holds_eq p (h.receiving_lt hr)
  omega

/-- A free buffer stands nowhere (R41). -/
theorem Counted.holds_free (h : Counted u q l) (hb : b < 96) (h0 : (q.buffer b).refs = 0) :
    q.holds b = 0 ∧ l.count b = 0 ∧ ∀ p, (u.get p).receiving ≠ some b := by
  have := h.pool b hb
  refine ⟨by omega, by omega, fun p hr => ?_⟩
  have := h.receiver p b hr
  omega

/-- A change of one port under the laws: what its holders lose comes into the hands of the unit. -/
theorem Counted.modify (h : Counted u q l) {g : LinePort → LinePort}
    (hold : ∀ b, (g (u.get p)).holds b + m.count b = (u.get p).holds b + l.count b)
    (hrx : ∀ b, (g (u.get p)).receiving = some b → (u.get p).receiving = some b ∨ (q.buffer b).refs = 1)
    (hret : (g (u.get p)).mode ≠ .remoteLoopback → (g (u.get p)).returnList = []) :
    Counted (u.modify p g) q m := by
  refine ⟨fun b hb => ?_, fun r b hr => ?_, fun r hr => ?_, h.maps⟩
  · have h1 := h.holds_eq p hb
    have h2 := hold b
    have hs : ((u.modify p g).get .A).holds b + ((u.modify p g).get .B).holds b =
        (g (u.get p)).holds b + (u.get p.other).holds b := by
      cases p
      · rfl
      · exact Nat.add_comm _ _
    omega
  · rcases Port.eq_or_other p r with rfl | rfl
    · rw [Both.get_modify_same] at hr
      exact (hrx b hr).elim (h.receiver _ b) id
    · rw [Both.get_modify_other] at hr
      exact h.receiver _ b hr
  · rcases Port.eq_or_other p r with rfl | rfl
    · rw [Both.get_modify_same] at hr ⊢
      exact hret hr
    · rw [Both.get_modify_other] at hr ⊢
      exact h.returns _ hr

theorem Balanced.modify (h : Balanced u q l) {g : LinePort → LinePort}
    (hold : ∀ b, (g (u.get p)).holds b + m.count b = (u.get p).holds b + l.count b)
    (hrx : ∀ b, (g (u.get p)).receiving = some b → (u.get p).receiving = some b ∨ (q.buffer b).refs = 1)
    (hret : (g (u.get p)).mode ≠ .remoteLoopback → (g (u.get p)).returnList = []) :
    Balanced (u.modify p g) q m :=
  ⟨h.toCounted.modify hold hrx hret, h.slot⟩

/-- A change of the Buffer and Queue Manager under the laws: the reference counts follow the places. -/
theorem Counted.change (h : Counted u q l)
    (hpool : ∀ b, b < 96 →
      (q'.buffer b).refs + (q.holds b + l.count b) = (q.buffer b).refs + (q'.holds b + m.count b))
    (hrx : ∀ p b, (u.get p).receiving = some b → (q'.buffer b).refs = 1) (hmaps : q'.MapLaw) :
    Counted u q' m := by
  refine ⟨fun b hb => ?_, hrx, h.returns, hmaps⟩
  have h1 := h.pool b hb
  have h2 := hpool b hb
  omega

/-- The law of the demand slot reads the slot and how often the waiting demand stands at each port. -/
theorem Bqm.SlotLaw.narrow (h : q.SlotLaw)
    (hslot : ∀ r b, q'.slot.get r = .waiting b → q.slot.get r = .waiting b)
    (hcount : ∀ r b, (∃ p, q.slot.get p = .waiting b) →
      (q'.egress.get r).references.count b + (if q.slot.get r = .waiting b then 1 else 0) =
        (q.egress.get r).references.count b + if q'.slot.get r = .waiting b then 1 else 0) :
    q'.SlotLaw := by
  intro p b hb r
  obtain ⟨h1, h2⟩ := h p b (hslot p b hb) r
  have h3 := hcount r b ⟨p, hslot p b hb⟩
  exact ⟨by omega, fun c hc => h2 c (hslot r c hc)⟩

theorem Bqm.SlotLaw.congr (h : q.SlotLaw) (hslot : q'.slot = q.slot)
    (hcount : ∀ r b, (∃ p, q.slot.get p = .waiting b) →
      (q'.egress.get r).references.count b = (q.egress.get r).references.count b) : q'.SlotLaw :=
  h.narrow (fun r b hb => by rwa [hslot] at hb) fun r b hb => by rw [hslot, hcount r b hb]

/-- A waiting demand stands in a queue. -/
theorem Bqm.SlotLaw.holds_pos (h : q.SlotLaw) (hb : q.slot.get p = .waiting b) : 0 < q.holds b := by
  have h1 := (h p b hb p).1
  have h2 := q.count_le_holds p b
  rw [if_pos hb] at h1
  omega

/-- What changes no place, no reference count, no slot and no map keeps the laws. -/
theorem Balanced.same (h : Balanced u q l) (hrefs : ∀ b, (q'.buffer b).refs = (q.buffer b).refs)
    (hqueues : ∀ r b, (q'.egress.get r).references.count b = (q.egress.get r).references.count b)
    (hldq : q'.ldq = q.ldq)
    (hslot : q'.slot = q.slot) (hmaps : q'.MapLaw) : Balanced u q' l := by
  refine ⟨h.toCounted.change (fun b _ => ?_) (fun p b hb => ?_) hmaps, h.slot.congr hslot fun r b _ => ?_⟩
  · simp only [hrefs, Bqm.holds, hqueues, hldq]
  · rw [hrefs, h.receiver p b hb]
  · exact hqueues r b

/-! ### References taken and released -/

theorem Balanced.write (h : Balanced u q l) (c : Nat) (f : Frame) : Balanced u (q.write c f) l :=
  h.same (fun b => q.refs_write c b f) (fun _ _ => rfl) rfl rfl h.maps

/-- References released from the hands of the unit. -/
theorem Balanced.release (h : Balanced u q (c :: l)) : Balanced u (q.release c) l := by
  refine ⟨h.toCounted.change (fun b hb => ?_) (fun p b hr => ?_) h.maps, h.slot⟩
  · have h1 := h.pool b hb
    have h2 : (q.release c).holds b = q.holds b := rfl
    rw [Bqm.refs_release, h2]
    simp only [List.count_cons, beq_iff_eq, eq_comm (a := c)] at h1 ⊢
    omega
  · have hne : b ≠ c := by
      rintro rfl
      exact h.toCounted.not_receiving (by simp) p hr
    rw [Bqm.refs_release, if_neg hne, h.receiver p b hr]

theorem Balanced.releaseAll (h : Balanced u q (m ++ l)) : Balanced u (q.releaseAll m) l := by
  induction m generalizing q with
  | nil => exact h
  | cons c m ih => exact ih h.release

theorem Balanced.letGo {o : Option Nat} (h : Balanced u q (o.toList ++ l)) : Balanced u (q.letGo o) l := by
  cases o with
  | none => exact h
  | some c => exact Balanced.release h

/-- A free buffer taken comes into the hands of the unit (R41). -/
theorem Balanced.take (h : Balanced u q l) (hc : c < 96) (h0 : (q.buffer c).refs = 0) :
    Balanced u (q.take c) (c :: l) := by
  refine ⟨h.toCounted.change (fun b hb => ?_) (fun p b hr => ?_) h.maps, h.slot⟩
  · have h2 : (q.take c).holds b = q.holds b := rfl
    rw [Bqm.refs_take hc, h2]
    simp only [List.count_cons, beq_iff_eq, eq_comm (a := c)]
    split
    · next e => rw [e, h0]; omega
    · omega
  · have h1 := h.receiver p b hr
    rw [Bqm.refs_take hc]
    split
    · rfl
    · exact h1

end

/-! ### Offers -/

/-- A buffer that no receiver holds and no port has as its waiting demand. -/
structure State.Loose (s : State) (b : Nat) : Prop where
  unheard : ∀ p, (s.port p).receiving ≠ some b
  idle : ∀ p, s.bqm.slot.get p ≠ .waiting b

theorem State.Loose.of_eq {s t : State} {b : Nat} (h : s.Loose b) (hp : t.ports = s.ports)
    (hs : t.bqm.slot = s.bqm.slot) : t.Loose b :=
  ⟨fun p => by rw [State.port, hp]; exact h.unheard p, fun p => by rw [hs]; exact h.idle p⟩

/-- What an offer leaves of the Buffer and Queue Manager: the frame at the tail of its queue with one more
reference, or a drop counted (R46). -/
theorem State.enqueue_bqm (s : State) (p : Port) (priority b : Nat) :
    (s.enqueue p priority b).bqm =
      if s.offerOutcome p priority = .queued then
        (s.bqm.onEgress p fun e => e.onQueue (s.bqm.queueFor p priority) fun x =>
          { x with entries := x.entries ++ [b] }).retain b
      else
        s.bqm.onEgress p fun e => e.onQueue (s.bqm.queueFor p priority) fun x =>
          { x with drops := bump x.drops } := by
  unfold State.enqueue
  cases h : s.offerOutcome p priority <;> simp

theorem State.enqueue_slot (s : State) (p : Port) (priority b : Nat) :
    (s.enqueue p priority b).bqm.slot = s.bqm.slot := by
  rw [State.enqueue_bqm]; split <;> rfl

theorem State.enqueue_maps (s : State) (p : Port) (priority b : Nat) :
    (s.enqueue p priority b).bqm.maps = s.bqm.maps := by
  rw [State.enqueue_bqm]; split <;> rfl

theorem State.enqueue_ldq (s : State) (p : Port) (priority b : Nat) :
    (s.enqueue p priority b).bqm.ldq = s.bqm.ldq := by
  rw [State.enqueue_bqm]; split <;> rfl

/-- An offer at a port leaves the queues of the other as they stand. -/
theorem State.enqueue_other (s : State) (p : Port) (priority b : Nat) :
    (s.enqueue p priority b).bqm.egress.get p.other = s.bqm.egress.get p.other := by
  rw [State.enqueue_bqm]
  split <;> exact Both.get_modify_other _ _ _

theorem State.refs_enqueue (s : State) (p : Port) (priority b : Nat) {c : Nat} (hc : c < 96) :
    ((s.enqueue p priority b).bqm.buffer c).refs =
      (s.bqm.buffer c).refs + if c = b ∧ s.offerOutcome p priority = .queued then 1 else 0 := by
  rw [State.enqueue_bqm]
  by_cases h : s.offerOutcome p priority = .queued
  · rw [if_pos h, Bqm.refs_retain hc]
    simp only [h, and_true]
    rfl
  · rw [if_neg h, if_neg fun k => h k.2]
    rfl

/-- An offer puts the frame in the port's queues once where it is queued, and else nowhere (R46). -/
theorem State.count_enqueue {s : State} (hm : s.bqm.MapLaw) (p : Port) (priority b c : Nat) :
    ((s.enqueue p priority b).bqm.egress.get p).references.count c =
      (s.bqm.egress.get p).references.count c +
        if c = b ∧ s.offerOutcome p priority = .queued then 1 else 0 := by
  have hn := hm.queueFor_lt p priority
  rw [State.enqueue_bqm]
  by_cases h : s.offerOutcome p priority = .queued
  · have hc := Egress.count_onQueue (e := s.bqm.egress.get p)
      (g := fun x => { x with entries := x.entries ++ [b] }) hn c
    simp only [List.count_append, List.count_singleton, beq_iff_eq, eq_comm (a := b)] at hc
    rw [if_pos h]
    simp only [Bqm.onEgress, Bqm.retain, Both.get_modify_same, h, and_true]
    omega
  · rw [if_neg h, if_neg fun k => h k.2]
    simp only [Bqm.onEgress, Both.get_modify_same, Nat.add_zero]
    exact congrArg (List.count c) (Egress.references_onQueue rfl)

theorem State.enqueue_egress (s : State) (p : Port) (priority b : Nat) :
    (s.enqueue p priority b).bqm.egress =
      s.bqm.egress.modify p fun _ => (s.enqueue p priority b).bqm.egress.get p := by
  have h := s.enqueue_other p priority b
  cases p
  · exact congrArg (Both.mk _) h
  · exact congrArg (Both.mk · _) h

theorem State.holds_enqueue {s : State} (hm : s.bqm.MapLaw) (p : Port) (priority b c : Nat) :
    (s.enqueue p priority b).bqm.holds c =
      s.bqm.holds c + if c = b ∧ s.offerOutcome p priority = .queued then 1 else 0 := by
  have h1 := State.count_enqueue hm p priority b c
  have h2 := Bqm.holds_modify (s.enqueue_egress p priority b) (s.enqueue_ldq p priority b) c
  omega

section
variable {s : State} {l : List Nat} {p : Port} {b : Nat}

/-- An offer gives a buffer that no receiver holds as many references as places. -/
theorem State.counted_enqueue (h : Counted s.ports s.bqm l)
    (hr : ∀ p, (s.port p).receiving ≠ some b) (p : Port) (priority : Nat) :
    Counted (s.enqueue p priority b).ports (s.enqueue p priority b).bqm l := by
  rw [(s.enqueue_keeps p priority b).2.1]
  refine h.change (fun c hlt => ?_) (fun r c hc => ?_) ?_
  · rw [State.refs_enqueue _ _ _ _ hlt, State.holds_enqueue h.maps]
    omega
  · have hne : c ≠ b := by rintro rfl; exact hr r hc
    rw [State.refs_enqueue _ _ _ _ (h.receiving_lt hc), if_neg fun k => hne k.1, h.receiver r c hc]
  · unfold Bqm.MapLaw
    rw [State.enqueue_maps]
    exact h.maps

theorem State.Balances.enqueue (h : s.Balances l) (hb : s.Loose b) (p : Port) (priority : Nat) :
    (s.enqueue p priority b).Balances l := by
  refine ⟨State.counted_enqueue h.toCounted hb.unheard p priority,
    h.slot.congr (s.enqueue_slot p priority b) fun r c hc => ?_⟩
  have hne : c ≠ b := by
    rintro rfl
    obtain ⟨p, hp⟩ := hc
    exact hb.idle p hp
  rcases Port.eq_or_other p r with rfl | rfl
  · rw [State.count_enqueue h.maps, if_neg fun k => hne k.1, Nat.add_zero]
  · rw [State.enqueue_other]

theorem State.Loose.enqueue {c : Nat} (h : s.Loose b) (p : Port) (priority : Nat) :
    (s.enqueue p priority c).Loose b :=
  h.of_eq (s.enqueue_keeps p priority c).2.1 (s.enqueue_slot p priority c)

theorem State.Balances.offerAt (h : s.Balances l) (hb : s.Loose b) (x : Both Bool) (priority : Nat) :
    (s.offerAt x priority b).Balances l := by
  unfold State.offerAt
  dsimp only
  cases x.a <;> cases x.b
  · exact h
  · exact h.enqueue hb _ _
  · exact h.enqueue hb _ _
  · exact (h.enqueue hb _ _).enqueue (hb.enqueue _ _) _ _

/-- A free buffer is loose. -/
theorem State.Balances.loose_free (h : s.Balances l) (hf : s.bqm.firstFree = some b) : s.Loose b := by
  obtain ⟨hlt, h0⟩ := Bqm.firstFree_some hf
  obtain ⟨hz, -, hr⟩ := h.toCounted.holds_free hlt h0
  exact ⟨hr, fun p hp => by have := h.slot.holds_pos hp; omega⟩

theorem State.Balances.ownFailure (h : s.Balances l) : s.ownFailure.Balances l :=
  Balanced.same (q := s.bqm) h (fun _ => rfl) (fun _ _ => rfl) rfl rfl h.maps

/-- The generation of an own frame keeps the laws: the buffer taken goes to the queues, and where it goes to
none it is free again (R43, R50). -/
theorem State.Balances.sendOwn (h : s.Balances l) (priority : Nat) (f : Frame) :
    (s.sendOwn priority f).Balances l := by
  unfold State.sendOwn
  split
  · exact h.ownFailure
  · next b hf =>
    obtain ⟨hlt, h0⟩ := Bqm.firstFree_some hf
    have hloose := h.loose_free hf
    have ht : (s.onBqm fun q => (q.take b).write b f).Balances (b :: l) :=
      (Balanced.take h hlt h0).write b f
    exact Balanced.release (ht.offerAt (b := b) (hloose.of_eq rfl rfl) _ _)

/-! ### Classification -/

theorem State.Balances.deliver (h : s.Balances l) (hb : s.Loose b) : (s.deliver b).Balances l := by
  unfold State.deliver
  split
  · refine ⟨h.toCounted.change (fun c hlt => ?_) (fun r c hc => ?_) h.maps, h.slot⟩
    · have h2 : (({ s.bqm with ldq := s.bqm.ldq ++ [b] } : Bqm).retain b).holds c =
          s.bqm.holds c + if c = b then 1 else 0 := by
        simp only [Bqm.holds, Bqm.retain, List.count_append, List.count_singleton, beq_iff_eq,
          eq_comm (a := b)]
        omega
      rw [State.onBqm_bqm, Bqm.refs_retain hlt, h2]
      change _ = (s.bqm.buffer c).refs + _
      change (s.bqm.buffer c).refs + _ + _ = _
      omega
    · have hne : c ≠ b := by rintro rfl; exact hb.unheard r hc
      rw [State.onBqm_bqm, Bqm.refs_retain (h.receiving_lt hc), if_neg hne]
      exact h.receiver r c hc
  · exact Balanced.same (q := s.bqm) h (fun _ => rfl) (fun _ _ => rfl) rfl rfl h.maps

theorem State.deliver_slot (s : State) (b : Nat) : (s.deliver b).bqm.slot = s.bqm.slot := by
  unfold State.deliver
  split <;> rfl

theorem State.Loose.deliver {c : Nat} (h : s.Loose b) : (s.deliver c).Loose b :=
  h.of_eq (s.deliver_keeps c).2.1 (s.deliver_slot c)

theorem State.Balances.handOn (h : s.Balances l) (hb : s.Loose b) (p : Port) (f : Frame) (x y : Bool) :
    (s.handOn p b f x y).Balances l := by
  have hw : (s.onBqm fun q => q.write b (forwardRewrite f)).Balances l := Balanced.write h b _
  have hwb : (s.onBqm fun q => q.write b (forwardRewrite f)).Loose b := hb.of_eq rfl rfl
  unfold State.handOn
  cases x <;> cases y
  · exact h
  · exact hw.enqueue hwb _ _
  · exact h.deliver hb
  · exact (hw.deliver hwb).enqueue hwb.deliver _ _

/-- The classification of a frame hands its reference on or releases it (R28, R29, R33). -/
theorem State.Balances.classify (h : s.Balances (b :: l)) (hb : s.Loose b) (p : Port) (f : Frame) :
    (s.classify p b f).Balances l := by
  have hs (t : State) (ht : t.Balances (b :: l)) : (t.onBqm fun q => q.release b).Balances l :=
    Balanced.release ht
  unfold State.classify
  apply hs
  split
  · exact h.of_eq (s.ownSourceSeen_keeps p).2.1 (s.ownSourceSeen_keeps p).2.2.1
  · exact h.of_eq (by simp) (by simp)
  · exact h.of_eq (by simp) (by simp)
  · dsimp only
    have ht : (s.onFsw fun w => w.learn (addrOf f.src) p).Balances (b :: l) := h.of_eq rfl rfl
    have htb : (s.onFsw fun w => w.learn (addrOf f.src) p).Loose b := hb.of_eq rfl rfl
    split
    · exact ht.handOn htb _ _ _ _
    · exact ht.of_eq rfl rfl

end

end Sys2Proof.Machine
end

section
/-! SUPPORT. The laws of the buffers through the operations of the line ports (R6 to R19): receptions begun
and ended, modes entered and left, the flush, a request of the transmitter, and the control reset. -/

namespace Sys2Proof.Machine

section
variable {u : Both LinePort} {q : Bqm} {l : List Nat} {p : Port} {b : Nat}

/-! ### A change of one port -/

/-- A change that leaves a port's holders as they are keeps the laws. -/
theorem Balanced.rearrange (h : Balanced u q l) {g : LinePort → LinePort}
    (hr : (g (u.get p)).receiving = (u.get p).receiving)
    (ht : (g (u.get p)).transmitting = (u.get p).transmitting)
    (hl : (g (u.get p)).returnList = (u.get p).returnList)
    (hm : (g (u.get p)).mode ≠ .remoteLoopback → (g (u.get p)).returnList = []) :
    Balanced (u.modify p g) q l :=
  h.modify (fun b => by simp only [LinePort.holds, hr, ht, hl]) (fun b hb => .inl (by rwa [hr] at hb)) hm

/-- A change that leaves a port's holders and its mode as they are keeps the laws. -/
theorem Balanced.quiet (h : Balanced u q l) {g : LinePort → LinePort}
    (hr : (g (u.get p)).receiving = (u.get p).receiving)
    (ht : (g (u.get p)).transmitting = (u.get p).transmitting)
    (hl : (g (u.get p)).returnList = (u.get p).returnList)
    (hm : (g (u.get p)).mode = (u.get p).mode) : Balanced (u.modify p g) q l :=
  h.rearrange hr ht hl fun k => by rw [hl]; exact h.returns p (by rwa [hm] at k)

/-- A receiver emptied brings its reference into the hands of the unit. -/
theorem Balanced.dropReception (h : Balanced u q l) {g : LinePort → LinePort}
    (hr : (g (u.get p)).receiving = none)
    (ht : (g (u.get p)).transmitting = (u.get p).transmitting)
    (hl : (g (u.get p)).returnList = (u.get p).returnList)
    (hm : (g (u.get p)).mode ≠ .remoteLoopback → (g (u.get p)).returnList = []) :
    Balanced (u.modify p g) q ((u.get p).receiving.toList ++ l) := by
  refine h.modify (fun b => ?_) (fun b hb => ?_) hm
  · have hc : (u.get p).receiving.toList.count b = if (u.get p).receiving = some b then 1 else 0 := by
      cases (u.get p).receiving with
      | none => rfl
      | some c => simp [List.count_singleton]
    simp only [LinePort.holds, hr, ht, hl, List.count_append, hc, reduceCtorEq, if_false]
    omega
  · rw [hr] at hb; cases hb

/-- A reception discarded releases its buffer (R7, R9). -/
theorem Balanced.discard (h : Balanced u q l) {g : LinePort → LinePort}
    (hr : (g (u.get p)).receiving = none)
    (ht : (g (u.get p)).transmitting = (u.get p).transmitting)
    (hl : (g (u.get p)).returnList = (u.get p).returnList)
    (hm : (g (u.get p)).mode ≠ .remoteLoopback → (g (u.get p)).returnList = []) :
    Balanced (u.modify p g) (q.letGo (u.get p).receiving) l :=
  (h.dropReception hr ht hl hm).letGo

/-- A return list discarded releases its frames (R16, R19). -/
theorem Balanced.discardReturns (h : Balanced u q l) {g : LinePort → LinePort}
    (hr : (g (u.get p)).receiving = (u.get p).receiving)
    (ht : (g (u.get p)).transmitting = (u.get p).transmitting) (hl : (g (u.get p)).returnList = []) :
    Balanced (u.modify p g) (q.releaseAll (u.get p).returnList) l := by
  refine Balanced.releaseAll
    (h.modify (fun b => ?_) (fun b hb => .inl (by rwa [hr] at hb)) fun _ => hl)
  simp only [LinePort.holds, hr, ht, hl, List.count_append, List.count_nil]
  omega

/-! ### The flush -/

theorem Bqm.flush_eq (q : Bqm) (p : Port) :
    q.flush p = { q with
      pool := (q.releaseAll (q.egress.get p).references).pool
      egress := q.egress.modify p Egress.flush
      slot := q.slot.modify p SlotState.flush
      resetReply := q.resetReply.map fun r => r.flushed p (q.egress.get p).references } := by
  unfold Bqm.flush
  dsimp only
  rw [q.releaseAll_eq]
  rfl

theorem Bqm.refs_flush (q : Bqm) (p : Port) (b : Nat) :
    ((q.flush p).buffer b).refs = (q.buffer b).refs - (q.egress.get p).references.count b :=
  q.refs_releaseAll _ b

theorem SlotState.flush_ne_waiting (x : SlotState) (b : Nat) : x.flush ≠ .waiting b := by
  cases x <;> simp [SlotState.flush]

/-- A flush releases what stood in the port's queues (R16, R17). -/
theorem Balanced.flush (h : Balanced u q l) (p : Port) : Balanced u (q.flush p) l := by
  have hegress : (q.flush p).egress = q.egress.modify p Egress.flush := by rw [Bqm.flush_eq]
  have hslot : (q.flush p).slot = q.slot.modify p SlotState.flush := by rw [Bqm.flush_eq]
  have hldq : (q.flush p).ldq = q.ldq := by rw [Bqm.flush_eq]
  refine ⟨h.toCounted.change (fun c hc => ?pool) (fun r c hr => ?receiver) ?maps,
    h.slot.narrow (fun r c hc => ?waits) fun r c hc => ?stands⟩
  case pool =>
    have h1 := h.pool c hc
    have h2 := Bqm.holds_modify hegress hldq c
    rw [Egress.references_flush, List.count_nil] at h2
    rw [Bqm.refs_flush]
    omega
  case receiver =>
    have h0 : (q.egress.get p).references.count c = 0 := by
      by_contra hne
      have := q.count_le_holds p c
      exact h.toCounted.not_receiving (b := c) (by omega) r hr
    rw [Bqm.refs_flush, h0, h.receiver r c hr]
  case maps =>
    rw [Bqm.flush_eq]
    exact h.maps
  case waits =>
    rw [hslot] at hc
    rcases Port.eq_or_other p r with rfl | rfl
    · rw [Both.get_modify_same] at hc
      exact absurd hc (SlotState.flush_ne_waiting _ c)
    · rwa [Both.get_modify_other] at hc
  case stands =>
    obtain ⟨a, ha⟩ := hc
    rw [hegress, hslot]
    rcases Port.eq_or_other p r with rfl | rfl
    · rw [Both.get_modify_same, Both.get_modify_same, Egress.references_flush, List.count_nil,
        if_neg (SlotState.flush_ne_waiting _ c), (h.slot a c ha r).1]
      omega
    · rw [Both.get_modify_other, Both.get_modify_other]

/-! ### The control reset -/

theorem LinePort.controlReset_receiving (x : LinePort) : x.controlReset.receiving = none := by
  unfold LinePort.controlReset LinePort.receiving
  cases x.rx <;> rfl

theorem LinePort.controlReset_transmitting (x : LinePort) : x.controlReset.transmitting = x.transmitting := by
  unfold LinePort.controlReset LinePort.transmitting
  cases x.tx <;> rfl

/-- A port keeps the frame in transmission alone over a control reset (R20, R57). -/
theorem LinePort.controlReset_holds (x : LinePort) (b : Nat) :
    x.controlReset.holds b = if x.tx = .sending b then 1 else 0 := by
  have hl : x.controlReset.returnList = [] := rfl
  rw [LinePort.holds, x.controlReset_receiving, x.controlReset_transmitting, hl]
  unfold LinePort.transmitting
  cases x.tx <;> simp

/-- A control reset leaves the references of the frames in transmission, and no other (R57). -/
theorem Bqm.MapLaw.controlReset (h : q.MapLaw) (u : Both LinePort) :
    Balanced (u.map LinePort.controlReset) (q.controlReset u) [] := by
  have hqueues (r : Port) : ((q.controlReset u).egress.get r).references = [] := by
    rw [Bqm.controlReset, Both.get_map]
    rfl
  have hrefs {c : Nat} (hc : c < 96) : ((q.controlReset u).buffer c).refs = transmissions u c := by
    have hlt : c < q.pool.data.length := by rw [q.pool.size]; exact hc
    simp [Bqm.controlReset, Bqm.keepTransmissions, Bqm.buffer, Tab.get, List.getD, hlt]
  refine ⟨⟨fun c hc => ?_, fun p c hr => ?_, fun p _ => ?_, h⟩, fun p c hc => ?_⟩
  · have hz : (q.controlReset u).holds c = 0 := by
      rw [Bqm.holds, hqueues, hqueues]
      rfl
    rw [hrefs hc, hz, Both.get_map, Both.get_map, LinePort.controlReset_holds, LinePort.controlReset_holds]
    rfl
  · rw [Both.get_map, LinePort.controlReset_receiving] at hr
    cases hr
  · rw [Both.get_map]
    rfl
  · rw [show (q.controlReset u).slot = Both.same .notQueued from rfl, Both.get_same] at hc
    cases hc

/-! ### A request of the transmitter -/

theorem LinePort.transmitting_fill {x : LinePort} (h : x.tx = .fill) : x.transmitting = none := by
  simp only [LinePort.transmitting, h]

/-- A free transmitter takes a reference out of the hands of the unit (R11). -/
theorem Balanced.transmit (h : Balanced u q (b :: l)) (ht : (u.get p).transmitting = none) :
    Balanced (u.modify p fun x => { x with tx := .sending b }) q l := by
  refine h.modify (fun c => ?_) (fun c hc => .inl hc) fun k => h.returns p k
  have h1 : ({ u.get p with tx := .sending b } : LinePort).holds c =
      (if (u.get p).receiving = some c then 1 else 0) + (if some b = some c then 1 else 0) +
        (u.get p).returnList.count c := rfl
  rw [h1]
  simp only [LinePort.holds, ht, List.count_cons, beq_iff_eq, reduceCtorEq, if_false, Option.some.injEq]
  omega

/-- A frame taken out of a port's queues comes into the hands of the unit, and a demand taken waits there no
longer (R53). -/
theorem Balanced.takeOut {q' : Bqm} {e : Egress} (h : Balanced u q l)
    (hcount : ∀ c, (q.egress.get p).references.count c =
      e.references.count c + if some b = some c then 1 else 0)
    (hpool : q'.pool = q.pool) (hegress : q'.egress = q.egress.modify p fun _ => e)
    (hmaps : q'.maps = q.maps) (hldq : q'.ldq = q.ldq)
    (hslot : q'.slot = q.slot.modify p fun x => x.take b) : Balanced u q' (b :: l) := by
  have hrefs (c : Nat) : q'.buffer c = q.buffer c := by rw [Bqm.buffer, hpool]; rfl
  simp only [Option.some.injEq] at hcount
  refine ⟨h.toCounted.change (fun c _ => ?pool) (fun r c hr => ?receiver) ?maps,
    h.slot.narrow (fun r c hc => ?waits) fun r c hc => ?stands⟩
  case pool =>
    have h1 := hcount c
    have h2 := Bqm.holds_modify hegress hldq c
    rw [hrefs]
    simp only [List.count_cons, beq_iff_eq]
    omega
  case receiver => rw [hrefs, h.receiver r c hr]
  case maps =>
    unfold Bqm.MapLaw
    rw [hmaps]
    exact h.maps
  case waits =>
    rw [hslot] at hc
    rcases Port.eq_or_other p r with rfl | rfl
    · simp only [Both.get_modify_same, SlotState.take] at hc
      split at hc
      · cases hc
      · exact hc
    · rwa [Both.get_modify_other] at hc
  case stands =>
    obtain ⟨a, ha⟩ := hc
    rw [hegress, hslot]
    rcases Port.eq_or_other p r with rfl | rfl
    · have h1 := hcount c
      obtain ⟨h2, h3⟩ := h.slot a c ha r
      simp only [Both.get_modify_same, SlotState.take]
      by_cases hbc : b = c
      · subst hbc
        have hw : q.slot.get r = .waiting b := by
          by_contra hne
          rw [if_neg hne] at h2
          simp at h1
          omega
        simp only [hw, if_true, reduceCtorEq, if_false] at h1 ⊢
        omega
      · rw [if_neg fun k => hbc (h3 b k)]
        rw [if_neg hbc] at h1
        omega
    · rw [Both.get_modify_other, Both.get_modify_other]

end

section
variable {s : State} {l : List Nat} {p : Port} {b : Nat}

theorem State.Balances.quiet (h : s.Balances l) {g : LinePort → LinePort}
    (hr : (g (s.port p)).receiving = (s.port p).receiving)
    (ht : (g (s.port p)).transmitting = (s.port p).transmitting)
    (hl : (g (s.port p)).returnList = (s.port p).returnList)
    (hm : (g (s.port p)).mode = (s.port p).mode) : (s.onPort p g).Balances l :=
  Balanced.quiet h hr ht hl hm

theorem State.Balances.returnList_nil (h : s.Balances l) (hm : (s.port p).mode ≠ .remoteLoopback) :
    (s.port p).returnList = [] :=
  h.returns p hm

/-- A request of a transmitter that sends nothing keeps the laws (R11). -/
theorem State.Balances.ask (h : s.Balances l) (ht : (s.port p).transmitting = none) :
    (s.ask p).Balances l := by
  unfold State.ask
  split
  · exact h.quiet rfl ht.symm rfl rfl
  · split
    · exact h.quiet rfl ht.symm rfl rfl
    · next c r hr =>
      refine Balanced.modify (g := fun x => { x with tx := .sending c, returnList := r }) h (fun b => ?_)
        (fun b hb => .inl hb) fun k => absurd ‹_› k
      have h1 : ({ s.port p with tx := .sending c, returnList := r } : LinePort).holds b =
          (if (s.port p).receiving = some b then 1 else 0) + (if some c = some b then 1 else 0) +
            r.count b := rfl
      change ({ s.port p with tx := .sending c, returnList := r } : LinePort).holds b + _ =
        (s.port p).holds b + _
      rw [h1]
      simp only [LinePort.holds, ht, hr, List.count_cons, beq_iff_eq, reduceCtorEq, if_false,
        Option.some.injEq]
      omega
  · have hcount (c : Nat) := (s.bqm.egress.get p).count_decide s.bqm.sizeOf c
    dsimp only
    split
    · next hd =>
      rw [hd] at hcount
      refine State.Balances.quiet ?_ rfl ht.symm rfl rfl
      refine Balanced.same h (fun _ => rfl) (fun r c => ?_) rfl rfl h.maps
      rcases Port.eq_or_other p r with rfl | rfl
      · exact (congrArg (fun e : Egress => e.references.count c) (Both.get_modify_same ..)).trans
          (hcount c).symm
      · exact congrArg (fun e : Egress => e.references.count c) (Both.get_modify_other ..)
    · next c hd =>
      rw [hd] at hcount
      exact Balanced.transmit (Balanced.takeOut h hcount rfl rfl rfl rfl rfl) ht

/-! ### Receptions -/

theorem LinePort.receiving_idle {x : LinePort} (h : x.rx = .down ∨ x.rx = .hunt) : x.receiving = none := by
  unfold LinePort.receiving
  rcases h with h | h <;> rw [h]

theorem State.Balances.lineError (h : s.Balances l) (p : Port) (latch : Latches → Latches) :
    (s.lineError p latch .hunt).Balances l := by
  rw [State.lineError_hunt]
  dsimp only [State.Balances]
  refine Balanced.discard (p := p) h ?_ ?_ ?_ ?_
  exacts [rfl, rfl, rfl, h.returns p]

theorem State.Balances.goDown (h : s.Balances l) (p : Port) : (s.goDown p).Balances l := by
  rw [State.goDown_eq]
  dsimp only [State.Balances]
  refine Balanced.discard (p := p) h ?_ ?_ ?_ ?_
  exacts [rfl, rfl, rfl, h.returns p]

/-- The start of a frame in a receiver that holds none: the buffer goes to the receiver alone (R6, R42). -/
theorem State.Balances.startFrame (h : s.Balances l) (hr : (s.port p).receiving = none) :
    (s.startFrame p).Balances l := by
  unfold State.startFrame
  split
  · split
    · next b hf =>
      obtain ⟨hlt, h0⟩ := Bqm.firstFree_some hf
      refine Balanced.modify (g := fun u => u.enterRx (.frame (some b))) (Balanced.take h hlt h0)
        (fun c => ?_) (fun c hc => .inr ?_) (h.returns p)
      · have h1 : ((s.port p).enterRx (.frame (some b))).holds c = (if some b = some c then 1 else 0) +
            (if (s.port p).transmitting = some c then 1 else 0) + (s.port p).returnList.count c := rfl
        change ((s.port p).enterRx (.frame (some b))).holds c + _ = (s.port p).holds c + _
        rw [h1]
        simp only [LinePort.holds, hr, List.count_cons, beq_iff_eq, reduceCtorEq, if_false,
          Option.some.injEq]
        omega
      · cases (hc : some b = some c)
        exact (Bqm.refs_take hlt b).trans (if_pos rfl)
    · exact h
  · rw [State.beginSkip_eq]
    dsimp only [State.Balances]
    refine Balanced.quiet (p := p) h ?_ ?_ ?_ ?_
    exacts [hr.symm, rfl, rfl, rfl]

/-- A frame that joins the return list, or is discarded where it holds 4 (R16). -/
theorem State.Balances.returnFrame (h : s.Balances (b :: l)) (hm : (s.port p).mode = .remoteLoopback) :
    (s.returnFrame p b).Balances l := by
  unfold State.returnFrame
  split
  · refine Balanced.modify (g := fun u => { u with returnList := u.returnList ++ [b] }) h (fun c => ?_)
      (fun c hc => .inl hc) fun k => absurd hm k
    have h1 : ({ s.port p with returnList := (s.port p).returnList ++ [b] } : LinePort).holds c =
        (s.port p).holds c + [b].count c := by
      simp only [LinePort.holds, List.count_append, ← Nat.add_assoc]
      rfl
    change ({ s.port p with returnList := (s.port p).returnList ++ [b] } : LinePort).holds c + _ =
      (s.port p).holds c + _
    rw [h1]
    simp only [List.count_cons, List.count_nil]
    omega
  · have hq : ((s.onBqm fun q => q.release b).onPort p fun u =>
        { u with discarded := bump u.discarded }).Balances l :=
      State.Balances.quiet (s := s.onBqm fun q => q.release b) (Balanced.release h) rfl rfl rfl rfl
    exact hq.of_eq (by simp) (by simp)

/-- The buffer of a good frame leaves the receiver and is disposed of by the mode (R6, R14). -/
theorem State.Balances.endFrame (h : s.Balances l) (hr : (s.port p).receiving = some b) (f : Frame) :
    (s.endFrame p b f).Balances l := by
  by_cases hc : f.check = frameCheck f
  · rw [State.endFrame_good hc]
    have hg : (s.accepted p b f).Balances (b :: l) := by
      have := Balanced.dropReception (p := p) (g := fun u => { u with
          rx := .hunt, persistence := none, front := u.front.restart, good := bump u.good })
        (Balanced.write h b f) rfl rfl rfl (h.returns p)
      rwa [show (s.ports.get p).receiving = some b from hr] at this
    have hloose : (s.accepted p b f).Loose b :=
      ⟨hg.toCounted.not_receiving (by simp), fun r hw => by
        exact h.toCounted.not_receiving (by have := h.slot.holds_pos hw; omega) p hr⟩
    have hrel : ((s.accepted p b f).onBqm fun q => q.release b).Balances l := Balanced.release hg
    unfold State.dispose
    split
    · exact hg.classify hloose p f
    · split
      · exact hrel
      · exact hg.classify hloose p f
    · next hm => exact hg.returnFrame hm
    · exact hrel
  · rw [State.endFrame, if_neg hc]
    exact State.Balances.lineError (s := s.onBqm fun q => q.write b f) (Balanced.write h b f) p _

/-! ### Port modes -/

theorem State.Balances.exitRemote (h : s.Balances l) (p : Port) (cause : Int) :
    (s.exitRemote p cause).Balances l := by
  rw [State.exitRemote_eq]
  dsimp only [State.Balances]
  refine Balanced.discardReturns (p := p) h ?_ ?_ ?_
  exacts [rfl, rfl, rfl]

theorem State.Balances.exitLocal (h : s.Balances l) (hm : (s.port p).mode = .localLoopback) :
    (s.exitLocal p).Balances l := by
  rw [State.exitLocal_eq]
  dsimp only [State.Balances]
  refine Balanced.discard (p := p) h ?_ ?_ ?_ fun _ => h.returnList_nil (p := p) (by simp [hm])
  exacts [rfl, rfl, rfl]

theorem State.Balances.exitDisabled (h : s.Balances l) (hm : (s.port p).mode = .disabled) :
    (s.exitDisabled p).Balances l := by
  rw [State.exitDisabled_eq]
  dsimp only [State.Balances]
  refine Balanced.rearrange (p := p) h ?_ ?_ ?_ fun _ => h.returnList_nil (p := p) (by simp [hm])
  · rfl
  · unfold LinePort.transmitting
    dsimp only
    cases (s.ports.get p).tx <;> rfl
  · rfl

theorem State.Balances.leaveMode (h : s.Balances l) (p : Port) (cause : Int) :
    (s.leaveMode p cause).Balances l := by
  unfold State.leaveMode
  split
  · exact h
  · next hm => exact h.exitLocal hm
  · exact h.exitRemote p cause
  · next hm => exact h.exitDisabled hm

theorem State.Balances.enterLocal (h : s.Balances l) (hl : (s.port p).returnList = []) :
    (s.enterLocal p).Balances l := by
  rw [State.enterLocal_eq]
  dsimp only [State.Balances]
  refine Balanced.discard (p := p) h ?_ ?_ ?_ fun _ => hl
  · exact LinePort.receiving_idle ((em _).imp (fun k => if_pos k) fun k => if_neg k)
  · rfl
  · rfl

theorem State.Balances.enterRemote (h : s.Balances l) (hl : (s.port p).returnList = []) :
    (s.enterRemote p).Balances l := by
  refine Balanced.flush (Balanced.rearrange (p := p) (g := fun u =>
    { u with mode := .remoteLoopback, returnList := [], persistence := none }) h ?_ ?_ ?_ ?_) p
  exacts [rfl, rfl, hl.symm, fun _ => rfl]

theorem State.Balances.dropReception (h : s.Balances l) (p : Port) : (s.dropReception p).Balances l := by
  unfold State.dropReception
  rw [State.releaseReception_eq]
  dsimp only [State.Balances, State.onPort]
  refine Balanced.discard (p := p) h ?_ ?_ ?_ ?_
  · exact LinePort.receiving_idle ((em _).imp (fun k => if_pos k) fun k => if_neg k)
  · rfl
  · rfl
  · exact h.returns p

theorem State.Balances.enterDisabled (h : s.Balances l) (hl : (s.port p).returnList = []) :
    (s.enterDisabled p).Balances l := by
  have ht (x y : LinePort) (hx : x.tx = if y.transmitting.isSome then y.tx else .silent) :
      x.transmitting = y.transmitting := by
    unfold LinePort.transmitting at hx ⊢
    rw [hx]
    cases y.tx <;> rfl
  by_cases hr : (s.port p).rx = .down
  · rw [State.enterDisabled_down hr]
    dsimp only [State.Balances]
    refine Balanced.flush (Balanced.rearrange (p := p) h ?_ ?_ ?_ fun _ => hl) p
    exacts [rfl, ht _ _ rfl, rfl]
  · rw [State.enterDisabled_up hr]
    dsimp only [State.Balances]
    refine Balanced.flush (Balanced.discard (p := p) h ?_ ?_ ?_ fun _ => hl) p
    exacts [rfl, ht _ _ rfl, rfl]

/-- The entry into a mode from one in which no frame is returned (R14). -/
theorem State.Balances.enterMode (h : s.Balances l) (hl : (s.port p).returnList = []) (m : PortMode) :
    (s.enterMode p m).Balances l := by
  unfold State.enterMode
  split
  · exact h
  · exact h.enterLocal hl
  · refine (h.dropReception p).enterRemote ?_
    unfold State.dropReception
    rw [State.port_onPort_same, State.port, (s.releaseReception_keeps p).2.1]
    exact hl
  · exact h.enterDisabled hl

theorem State.Balances.changeMode (h : s.Balances l) (p : Port) (m : PortMode) :
    (s.changeMode p m).Balances l := by
  unfold State.changeMode
  split
  · exact h
  · refine (h.leaveMode p 2).enterMode ?_ m
    cases hm : (s.port p).mode with
    | normal => rw [State.leaveMode_normal hm]; exact h.returnList_nil (by simp [hm])
    | localLoopback =>
      rw [State.leaveMode_local hm, State.port_exitLocal]; exact h.returnList_nil (by simp [hm])
    | remoteLoopback => rw [State.leaveMode_remote hm, State.port_exitRemote]
    | disabled =>
      rw [State.leaveMode_disabled hm, State.port_exitDisabled]; exact h.returnList_nil (by simp [hm])

theorem State.Balances.setLoopCode (h : s.Balances l) (p : Port) (c : LoopCode) :
    (s.setLoopCode p c).Balances l := by
  unfold State.setLoopCode
  refine State.Balances.quiet ?_ rfl rfl rfl rfl
  split
  · exact h.exitRemote p 2
  · exact h

theorem State.Balances.unloop (h : s.Balances l) (p : Port) (cause : Int) : (s.unloop p cause).Balances l := by
  unfold State.unloop
  split
  · next hm => exact h.exitLocal hm
  · exact h.exitRemote p cause
  · exact h

theorem State.Balances.unloopBoth (h : s.Balances l) (cause : Int) : (s.unloopBoth cause).Balances l :=
  (h.unloop .A cause).unloop .B cause

/-! ### The end of a frame's transmission, and the control reset -/

theorem State.Balances.completeFrame (h : s.Balances l) (ht : (s.port p).transmitting = some b) :
    (s.completeFrame p b).Balances l := by
  rw [State.completeFrame_eq]
  dsimp only [State.Balances]
  have hg : Balanced (s.ports.modify p fun u => { u with sent := bump u.sent, tx := .fill }) s.bqm (b :: l) := by
    refine Balanced.modify h (fun c => ?_) (fun c hc => .inl hc) (h.returns p)
    have h1 : ({ s.port p with sent := bump (s.port p).sent, tx := .fill } : LinePort).holds c =
        (if (s.port p).receiving = some c then 1 else 0) + 0 + (s.port p).returnList.count c := rfl
    change ({ s.port p with sent := bump (s.port p).sent, tx := .fill } : LinePort).holds c + _ =
      (s.port p).holds c + _
    rw [h1]
    simp only [LinePort.holds, ht, List.count_cons, beq_iff_eq, Option.some.injEq]
    omega
  exact hg.release.same (fun _ => rfl) (fun _ _ => rfl) rfl rfl h.maps

theorem State.Balances.controlReset (h : s.Balances l) (sender : Addr) : (s.controlReset sender).Balances [] :=
  State.Balances.of_eq (s := s.controlResetUnits) (h.maps.controlReset s.ports) (by simp [State.controlReset])
    (by simp [State.controlReset])

/-- What follows a marked reply keeps the laws between two commands (R56, R178). -/
theorem State.Balances.settleReset (h : s.Balances []) : s.settleReset.Balances [] := by
  unfold State.settleReset
  split
  · exact h
  · split
    · exact h
    · split
      · exact Balanced.same (q := s.bqm) h (fun _ => rfl) (fun _ _ => rfl) rfl rfl h.maps
      · exact h.controlReset _

end

end Sys2Proof.Machine
end

section
/-! SUPPORT. The laws of the buffers through the offer of a demand to the demand slot (R53, R54). -/

namespace Sys2Proof.Machine

variable {s : State} {l : List Nat} {p : Port} {b c : Nat}

/-! ### One port of the slot -/

/-- The queues and the slot of a port are in `q'` as they are in `q`. -/
def Bqm.SameSlot (q q' : Bqm) (r : Port) : Prop :=
  q'.egress.get r = q.egress.get r ∧ q'.slot.get r = q.slot.get r

theorem Bqm.SameSlot.slotAt {q q' : Bqm} {r : Port} (h : q.SameSlot q' r) (hs : q.SlotAt r b) : q'.SlotAt r b := by
  obtain ⟨h1, h2⟩ := h
  unfold Bqm.SlotAt
  rw [h1, h2]
  exact hs

/-- A port whose slot holds no other demand than `b`, and `b` as often as it waits, is left so by the offer
of `b` at the tail where it does not wait (R53). -/
theorem State.slotAt_offerTail (hm : s.bqm.MapLaw) (hs : s.bqm.SlotAt p b) (hw : s.bqm.slot.get p ≠ .waiting b) :
    (s.offerTail p b).bqm.SlotAt p b := by
  have hc := State.count_enqueue hm p priorityDemand b b
  rw [hs.1, if_neg hw] at hc
  have hslot : (s.offerTail p b).bqm.slot.get p =
      if s.wouldQueue p priorityDemand then .waiting b else .notQueued := Both.get_set_same ..
  have hegress : (s.offerTail p b).bqm.egress = (s.enqueue p priorityDemand b).bqm.egress := rfl
  unfold Bqm.SlotAt
  rw [hegress, hslot, hc]
  unfold State.wouldQueue
  by_cases h : s.offerOutcome p priorityDemand = .queued <;> simp [h]

theorem State.sameSlot_offerTail (s : State) (p : Port) (b : Nat) :
    s.bqm.SameSlot (s.offerTail p b).bqm p.other := by
  refine ⟨s.enqueue_other p priorityDemand b, ?_⟩
  exact (Both.get_set_other ..).trans (congrArg (Both.get · p.other) (s.enqueue_slot p priorityDemand b))

theorem State.counted_offerTail (h : Counted s.ports s.bqm l)
    (hr : ∀ p, (s.port p).receiving ≠ some b) (p : Port) :
    Counted (s.offerTail p b).ports (s.offerTail p b).bqm l := by
  have := State.counted_enqueue h hr p priorityDemand
  exact this.change (fun _ _ => rfl) this.receiver this.maps

/-! ### A demand rewritten in place -/

/-- A demand rewritten in place waits at a port (R54). -/
theorem Bqm.waiting_of_rewritable {q : Bqm} (h : q.rewritable = some b) : ∃ p, q.slot.get p = .waiting b := by
  unfold Bqm.rewritable at h
  split at h
  · cases h
  · cases h
  · cases h; exact ⟨.A, ‹q.slot.a = .waiting b›⟩
  · cases h; exact ⟨.B, ‹q.slot.b = .waiting b›⟩
  · cases h

/-- The laws of the buffers but that of the slot, and the slot of each port with no other demand than `b`. -/
structure State.Offers (s : State) (b : Nat) (l : List Nat) : Prop where
  counted : Counted s.ports s.bqm l
  unheard : ∀ p, (s.port p).receiving ≠ some b
  slots : ∀ r, s.bqm.SlotAt r b

theorem State.Offers.balances (h : s.Offers b l) : s.Balances l :=
  ⟨h.counted, fun p c hc r => by rw [(h.slots p).2 c hc]; exact h.slots r⟩

theorem State.Offers.slotInPlace (h : s.Offers b l) (p : Port) : (s.slotInPlace p b).Offers b l := by
  unfold State.slotInPlace
  split
  · exact h
  · next hw =>
    refine ⟨State.counted_offerTail h.counted h.unheard p,
      fun r => by rw [State.port, (s.offerTail_keeps p b).2.1]; exact h.unheard r, fun r => ?_⟩
    rcases Port.eq_or_other p r with rfl | rfl
    · exact State.slotAt_offerTail h.counted.maps (h.slots _) (hw b)
    · exact (s.sameSlot_offerTail p b).slotAt (h.slots _)

/-! ### A demand in a new buffer -/

/-- How often each buffer stands in a list once one has been put in the place of another. -/
theorem count_replace (old new c : Nat) (l : List Nat) :
    (l.map fun b => if b = old then new else b).count c + (if c = old then l.count old else 0) =
      l.count c + if c = new then l.count old else 0 := by
  induction l with
  | nil => simp
  | cons x l ih =>
    simp only [List.map_cons, List.count_cons, beq_iff_eq]
    split at ih <;> split at ih <;> (repeat' split) <;> omega

/-- The queues of a port after a waiting entry has been given to another buffer. -/
theorem Bqm.replace_egress (q : Bqm) (p : Port) (old new : Nat) :
    (q.replace p old new).egress = q.egress.modify p fun e =>
      { e with queues := e.queues.map fun x =>
          { x with entries := x.entries.map fun b => if b = old then new else b } } := rfl

theorem Egress.references_map (e : Egress) (f : Nat → Nat) :
    ({ e with queues := e.queues.map fun x => { x with entries := x.entries.map f } } : Egress).references =
      e.references.map f := by
  have h (n : Nat) :
      (({ e with queues := e.queues.map fun x => { x with entries := x.entries.map f } } : Egress).queue
        n).entries = (e.queue n).entries.map f := by
    have hm := Tab.get_map (fun x : EgressQueue => { x with entries := x.entries.map f }) e.queues n
      EgressQueue.empty
    exact congrArg EgressQueue.entries hm
  simp only [Egress.references, h, List.map_append]

/-- What a new demand, in buffer `b`, finds at a port: nothing of its own, and an old demand that waits there
once (R53). -/
def Bqm.ReadyAt (q : Bqm) (r : Port) (b : Nat) : Prop :=
  (q.egress.get r).references.count b = 0 ∧ q.slot.get r ≠ .waiting b ∧
    ∀ old, q.slot.get r = .waiting old → (q.egress.get r).references.count old = 1

theorem Bqm.SameSlot.readyAt {q q' : Bqm} {r : Port} (h : q.SameSlot q' r) (hs : q.ReadyAt r b) :
    q'.ReadyAt r b := by
  obtain ⟨h1, h2⟩ := h
  unfold Bqm.ReadyAt
  rw [h1, h2]
  exact hs

theorem Bqm.sameSlot_replace (q : Bqm) (p : Port) (old new : Nat) : q.SameSlot (q.replace p old new) p.other :=
  ⟨Both.get_modify_other .., Both.get_set_other ..⟩

theorem Bqm.refs_replace (q : Bqm) (p : Port) (old b : Nat) (hc : c < 96) :
    ((q.replace p old b).buffer c).refs =
      (q.buffer c).refs + (if c = b then 1 else 0) - if c = old then 1 else 0 := by
  have h := (Bqm.retain (q.onEgress p fun e =>
    { e with queues := e.queues.map fun x =>
        { x with entries := x.entries.map fun b' => if b' = old then b else b' } }) b).refs_release old c
  rw [Bqm.refs_retain hc] at h
  exact h

/-- The place of an old demand, with its reference, goes to the new one (R54). -/
theorem Counted.replace {u : Both LinePort} {q : Bqm} {old : Nat} (h : Counted u q l)
    (hq : q.ReadyAt p b) (hold : q.slot.get p = .waiting old) (hr : ∀ p, (u.get p).receiving ≠ some b) :
    Counted u (q.replace p old b) l := by
  obtain ⟨-, hw, h1⟩ := hq
  have hne : old ≠ b := by rintro rfl; exact hw hold
  refine h.change (fun c hc => ?_) (fun r c hrc => ?_) h.maps
  · have h2 := Bqm.holds_modify (q.replace_egress p old b) rfl c
    have h3 := count_replace old b c (q.egress.get p).references
    have h4 := h1 old hold
    rw [Egress.references_map] at h2
    rw [Bqm.refs_replace _ _ _ _ hc]
    rw [h4] at h3
    by_cases ho : c = old
    · have h5 := h.pool c hc
      have h6 := q.count_le_holds p c
      rw [ho] at h2 h3 h5 h6 ⊢
      simp only [if_true, hne, if_false] at h3 ⊢
      omega
    · simp only [ho, if_false] at h3 ⊢
      omega
  · have hco : c ≠ old := by
      rintro rfl
      have h4 := h1 c hold
      have h6 := q.count_le_holds p c
      exact h.not_receiving (by omega) r hrc
    have hcb : c ≠ b := by rintro rfl; exact hr r hrc
    rw [Bqm.refs_replace _ _ _ _ (h.receiving_lt hrc), if_neg hcb, if_neg hco, h.receiver r c hrc]

theorem Bqm.slotAt_replace {q : Bqm} {old : Nat} (hq : q.ReadyAt p b) (hold : q.slot.get p = .waiting old) :
    (q.replace p old b).SlotAt p b := by
  obtain ⟨h0, hw, h1⟩ := hq
  have hne : old ≠ b := by rintro rfl; exact hw hold
  have hslot : (q.replace p old b).slot.get p = .waiting b := Both.get_set_same ..
  have h3 := count_replace old b b (q.egress.get p).references
  refine ⟨?_, fun c hc => ?_⟩
  · rw [hslot, Bqm.replace_egress, Both.get_modify_same, Egress.references_map]
    simp only [hne.symm, if_false, if_true, h0, h1 old hold] at h3 ⊢
    omega
  · rw [hslot] at hc
    cases hc
    rfl

/-- What the treatment of a new demand at one port leaves (R53, R54). -/
theorem State.slotNew_spec (h : Counted s.ports s.bqm l) (hr : ∀ p, (s.port p).receiving ≠ some b)
    (hq : s.bqm.ReadyAt p b) :
    Counted (s.slotNew p b).ports (s.slotNew p b).bqm l ∧ (s.slotNew p b).bqm.SlotAt p b ∧
      s.bqm.SameSlot (s.slotNew p b).bqm p.other := by
  unfold State.slotNew
  split
  · next old hold => exact ⟨h.replace hq hold hr, Bqm.slotAt_replace hq hold, s.bqm.sameSlot_replace p old b⟩
  · next hw =>
    have hs : s.bqm.SlotAt p b := ⟨by rw [hq.1, if_neg hq.2.1], fun c hc => absurd hc (hw c)⟩
    exact ⟨State.counted_offerTail h hr p, State.slotAt_offerTail h.maps hs hq.2.1, s.sameSlot_offerTail p b⟩

/-- The offer of a demand keeps the laws (R43, R53, R54). -/
theorem State.Balances.offerDemand (h : s.Balances l) (f : Frame) (d : Int) : (s.offerDemand f d).Balances l := by
  unfold State.offerDemand
  split
  · next b hb =>
    obtain ⟨p, hp⟩ := Bqm.waiting_of_rewritable hb
    have hw : (s.onBqm fun q => q.write b f).Offers b l :=
      ⟨(Balanced.write h b f).toCounted, h.toCounted.not_receiving (by have := h.slot.holds_pos hp; omega),
        fun r => h.slot p b hp r⟩
    exact ((hw.slotInPlace .A).slotInPlace .B).balances
  · split
    · exact State.Balances.ownFailure (h.of_eq (by simp) (by simp))
    · next b hf =>
      obtain ⟨hlt, h0⟩ := Bqm.firstFree_some hf
      have hloose := h.loose_free hf
      have ht : (s.onBqm fun q => (q.take b).write b f).Balances (b :: l) := (Balanced.take h hlt h0).write b f
      have hready (r : Port) : (s.onBqm fun q => (q.take b).write b f).bqm.ReadyAt r b := by
        refine ⟨?_, hloose.idle r, fun old ho => ?_⟩
        · have h1 := (h.toCounted.holds_free hlt h0).1
          have h2 := s.bqm.count_le_holds r b
          change (s.bqm.egress.get r).references.count b = 0
          omega
        · have ho : s.bqm.slot.get r = .waiting old := ho
          have h1 := (h.slot r old ho r).1
          rwa [if_pos ho] at h1
      obtain ⟨hc1, hs1, ho1⟩ := State.slotNew_spec ht.toCounted hloose.unheard (hready .A)
      have hu1 : ∀ p, (((s.onBqm fun q => (q.take b).write b f).slotNew .A b).port p).receiving ≠ some b := by
        intro p
        rw [State.port, (State.slotNew_keeps ..).2.1]
        exact hloose.unheard p
      obtain ⟨hc2, hs2, ho2⟩ := State.slotNew_spec hc1 hu1 (ho1.readyAt (hready .B))
      have hoffers : (((s.onBqm fun q => (q.take b).write b f).slotNew .A b).slotNew .B b).Offers b (b :: l) :=
        ⟨hc2, fun p => by rw [State.port, (State.slotNew_keeps ..).2.1]; exact hu1 p,
          fun r => by cases r; exacts [ho2.slotAt hs1, hs2]⟩
      exact Balanced.release hoffers.balances

end Sys2Proof.Machine
end

section
/-! SUPPORT. The laws of the buffers through the operations of the other units, which touch the ports and the
buffers by sending own frames, by offering demands and by returning ports to NORMAL. -/

namespace Sys2Proof.Machine

variable {s : State} {l : List Nat}

/-! ### Changes of the other units -/

theorem State.Balances.onCru (h : s.Balances l) (f : Cru → Cru) : (s.onCru f).Balances l := h.of_eq rfl rfl
theorem State.Balances.onCiu (h : s.Balances l) (f : Ciu → Ciu) : (s.onCiu f).Balances l := h.of_eq rfl rfl
theorem State.Balances.onTdu (h : s.Balances l) (f : Tdu → Tdu) : (s.onTdu f).Balances l := h.of_eq rfl rfl
theorem State.Balances.onSru (h : s.Balances l) (f : Sru → Sru) : (s.onSru f).Balances l := h.of_eq rfl rfl
theorem State.Balances.onSnu (h : s.Balances l) (f : Snu → Snu) : (s.onSnu f).Balances l := h.of_eq rfl rfl
theorem State.Balances.onMgu (h : s.Balances l) (f : Mgu → Mgu) : (s.onMgu f).Balances l := h.of_eq rfl rfl
theorem State.Balances.log (h : s.Balances l) (i : LogInfo) : (s.log i).Balances l := h.of_eq rfl rfl
theorem State.Balances.count (h : s.Balances l) (a : Attr) : (s.count a).Balances l := h.of_eq rfl rfl

/-- A choice between two operations that keep the laws keeps them. -/
theorem State.Balances.ite {t u : State} {c : Prop} [Decidable c] (ht : t.Balances l) (hu : u.Balances l) :
    (if c then t else u).Balances l := by
  split
  · exact ht
  · exact hu

/-! ### Demands -/

theorem State.Balances.emitDemand (h : s.Balances l) (d : Int) (g : DemandFlags) (c : Int) :
    (s.emitDemand d g c).Balances l :=
  .ite ((h.offerDemand _ d).onTdu _) (h.offerDemand _ d)

theorem State.Balances.emergency (h : s.Balances l) (cause : Int) : (s.emergency cause).Balances l :=
  (((h.onTdu _).log _).onSnu _).emitDemand _ _ _

theorem State.Balances.drivePeriod (h : s.Balances l) (p : Profile) (dh c : Int) :
    (s.drivePeriod p dh c).Balances l := by
  unfold State.drivePeriod
  dsimp only
  exact ((h.of_eq (by simp) (by simp) : (s.slipOnset _).Balances l).onTdu _).emitDemand _ _ _

theorem State.Balances.brakePeriod (h : s.Balances l) (dh c : Int) : (s.brakePeriod dh c).Balances l :=
  ((h.of_eq rfl rfl : s.draw.Balances l).onTdu _).emitDemand _ _ _

theorem State.Balances.computeDemand (h : s.Balances l) (p : Profile) : (s.computeDemand p).Balances l := by
  have ht (dh : Int) : (s.drawHandle.leaveEmergency dh).Balances l := h.of_eq (by simp) (by simp)
  exact .ite ((ht _).brakePeriod _ _) ((ht _).drivePeriod _ _ _)

/-! ### The stop record -/

theorem State.Balances.indicate (h : s.Balances l) : s.indicate.Balances l :=
  .ite ((h.sendOwn _ _).onSru _) (h.sendOwn _ _)

theorem State.Balances.indicateRequested (h : s.Balances l) : s.indicateRequested.Balances l := h.indicate.onSru _

theorem State.Balances.serve (h : s.Balances l) : s.serve.Balances l := (h.onSru _).indicate

theorem State.Balances.validPress (h : s.Balances l) (door : Nat) (accessible : Bool) :
    (s.validPress door accessible).Balances l := by
  unfold State.validPress
  split
  · exact ((h.onSru _).indicateRequested).onSnu _
  · exact .ite (((h.onSru _).onSnu _).indicateRequested) (h.onSru _)
  · exact h.onSru _

theorem State.Balances.stopPressTaken (h : s.Balances l) (f : Frame) : (s.stopPressTaken f).Balances l := by
  unfold State.stopPressTaken
  refine .ite h ?_
  split
  · exact h.onSru _
  · exact .ite (h.count _) (h.validPress _ _)

theorem State.Balances.doorChange (h : s.Balances l) (on : Bool) : (s.doorChange on).Balances l := by
  unfold State.doorChange
  refine .ite h ?_
  split
  · exact h
  · exact h.serve
  · exact (h.onSru _).indicate
  · exact h

theorem State.Balances.stopStart (h : s.Balances l) : s.stopStart.Balances l :=
  .ite (h.onSru _).serve (h.onSru _)

theorem State.Balances.stopEnd (h : s.Balances l) : s.stopEnd.Balances l :=
  .ite (h.onSru _) ((h.onSru _).indicate.onSru _)

/-! ### A change of role -/

theorem State.Balances.sendAnnounce (h : s.Balances l) : s.sendAnnounce.Balances l := by
  unfold State.sendAnnounce
  split
  · exact h
  · exact .ite ((h.sendOwn _ _).onCru _) (h.sendOwn _ _)

/-- A change of both ports that leaves their holders and modes as they are keeps the laws. -/
theorem State.Balances.mapPorts (h : s.Balances l) {g : LinePort → LinePort}
    (hr : ∀ u, (g u).receiving = u.receiving) (ht : ∀ u, (g u).transmitting = u.transmitting)
    (hl : ∀ u, (g u).returnList = u.returnList) (hm : ∀ u, (g u).mode = u.mode) :
    ({ s with ports := s.ports.map g } : State).Balances l :=
  State.Balances.of_eq ((h.quiet (p := .A) (hr _) (ht _) (hl _) (hm _)).quiet (p := .B) (g := g)
    (hr _) (ht _) (hl _) (hm _)) rfl rfl

theorem State.Balances.departFrom (h : s.Balances l) (old new : Role) : (s.departFrom old new).Balances l := by
  cases old with
  | inactive => exact (h.unloopBoth 4).mapPorts (fun _ => rfl) (fun _ => rfl) (fun _ => rfl) fun _ => rfl
  | active =>
    have ht : s.junctionEnd.stopEnd.Balances l := (h.of_eq (by simp) (by simp) : s.junctionEnd.Balances l).stopEnd
    unfold State.departFrom
    dsimp only
    split <;> exact ht.of_eq (by simp) (by simp)
  | conflict =>
    unfold State.departFrom
    exact .ite h (h.of_eq (by simp) (by simp))
  | passive => exact h
  | claiming => exact h
  | blocked => exact h

theorem State.Balances.arriveActive (h : s.Balances l) (old : Role) : (s.arriveActive old).Balances l := by
  have ht : s.junctionStart.stopStart.Balances l :=
    (h.of_eq (by simp) (by simp) : s.junctionStart.Balances l).stopStart
  unfold State.arriveActive
  dsimp only
  split <;> exact ht.of_eq (by simp) (by simp)

theorem State.Balances.setRole (h : s.Balances l) (r : Role) : (s.setRole r).Balances l := by
  have ht := (h.onCru fun u => u.enter r).departFrom s.cru.role r
  exact ((State.Balances.ite (ht.arriveActive _) ht).onSnu _).sendAnnounce

theorem State.Balances.roleByTable (h : s.Balances l) : s.roleByTable.Balances l := h.setRole _

theorem State.Balances.takeKeyOn (h : s.Balances l) : s.takeKeyOn.Balances l := .ite (h.setRole _) (h.setRole _)

theorem State.Balances.keyOnIdle (h : s.Balances l) : s.keyOnIdle.Balances l :=
  have ht := (h.unloopBoth 3).onCru fun u => { u with tableFull := false }
  .ite ht.takeKeyOn ((ht.log _).onCru _)

theorem State.Balances.keyTurnsOn (h : s.Balances l) : s.keyTurnsOn.Balances l := by
  unfold State.keyTurnsOn
  split
  · exact h.keyOnIdle
  · exact h.keyOnIdle
  · exact .ite (h.of_eq (by simp) (by simp)) h
  · exact h

theorem State.Balances.keyTurnsOff (h : s.Balances l) : s.keyTurnsOff.Balances l := by
  unfold State.keyTurnsOff
  split
  · exact h.onCru _
  · exact h.onCru _
  · exact .ite h (.ite h.roleByTable (h.of_eq (by simp) (by simp)))
  · exact h.roleByTable

theorem State.Balances.keyChange (h : s.Balances l) (on : Bool) : (s.keyChange on).Balances l :=
  .ite h (.ite h.keyTurnsOn h.keyTurnsOff)

/-! ### The Cab Table -/

theorem State.Balances.followTable (h : s.Balances l) : s.followTable.Balances l := .ite h h.roleByTable

theorem State.Balances.followConflict (h : s.Balances l) : s.followConflict.Balances l := .ite h (h.setRole _)

theorem State.Balances.roleOnAnnounce (h : s.Balances l) (a : Addr) (r : Announced) :
    (s.roleOnAnnounce a r).Balances l := by
  unfold State.roleOnAnnounce
  split
  · exact h.followTable
  · exact h.followTable
  · exact .ite (h.setRole _) h
  · exact .ite h (.ite (h.log _).roleByTable ((h.log _).setRole _))
  · exact h.onCru _
  · exact h.followConflict

theorem State.Balances.takeAnnounce (h : s.Balances l) (f : Frame) : (s.takeAnnounce f).Balances l := by
  unfold State.takeAnnounce
  dsimp only
  split
  · exact h.onCru _
  · exact .ite (h.of_eq (by simp) (by simp)) ((h.onCru _).roleOnAnnounce _ _)

theorem State.Balances.entryTimeout (h : s.Balances l) (a : Addr) : (s.entryTimeout a).Balances l := by
  have ht := h.onCru fun u => { u with cabs := u.cabs.filter fun e => e.cab != a }
  unfold State.entryTimeout State.roleOnRemoval
  split
  · exact ht.followTable
  · exact ht.onCru _
  · exact ht.followConflict
  · exact ht

theorem State.Balances.keyOffMoving (h : s.Balances l) (cause : Int) : (s.keyOffMoving cause).Balances l :=
  (h.log _).roleByTable

/-! ### The period, the inputs and the report -/

theorem State.Balances.period (h : s.Balances l) : s.period.Balances l := by
  unfold State.period State.releasingFinding
  dsimp only
  generalize hu : ((s.onTdu fun u => { u with periodTimer := some 20 }).findSpeed).judgeClosures = u
  have ht : u.Balances l := h.of_eq (by simp [← hu]) (by simp [← hu])
  have hc (p : Profile) : (u.computeDemand p).deadmanCheck.Balances l :=
    (ht.computeDemand p).of_eq (by simp) (by simp)
  exact .ite (hc _) (.ite ((hc _).keyOffMoving 1) ((hc _).onCru _))

theorem State.Balances.deliverChange (h : s.Balances l) (i : Input) (level : Bool) :
    (s.deliverChange i level).Balances l := by
  cases i with
  | key => exact (h.keyChange level).onSnu _
  | deadman => exact h.of_eq (by simp [State.deliverChange]) (by simp [State.deliverChange])
  | estop => exact .ite (h.emergency 1) h
  | doorRelease => exact h.doorChange level
  | horn => exact h.onSnu _
  | bell => exact .ite (h.onSnu _) h
  | routeLeft | routeStraight | routeRight => exact .ite (h.of_eq (by simp) (by simp)) h

theorem State.Balances.sendReport (h : s.Balances l) : s.sendReport.Balances l :=
  .ite ((h.sendOwn _ _).onMgu _) (h.sendOwn _ _)

end Sys2Proof.Machine
end

section
/-! SUPPORT. The laws of the buffers through every command: those that take a frame from the Local Dispatch
Queue, those of the line ports, and the rest, with the statement that every step keeps them. -/

namespace Sys2Proof.Machine

variable {s : State} {l : List Nat}

/-! ### Frames taken from the Local Dispatch Queue -/

theorem State.headOfKind_ldq {kind : Byte} {b : Nat} {f : Frame} (h : s.headOfKind kind = some (b, f)) :
    ∃ r, s.bqm.ldq = b :: r := by
  unfold State.headOfKind at h
  split at h
  · cases h
  · next c r hq =>
    split at h
    · cases h; exact ⟨r, hq⟩
    · cases h

/-- The head of the Local Dispatch Queue comes into the hands of its consumer (R52). -/
theorem State.Balances.takeHead {b : Nat} {r : List Nat} (h : s.Balances l) (hq : s.bqm.ldq = b :: r) :
    s.takeHead.Balances (b :: l) := by
  refine ⟨h.toCounted.change (fun c _ => ?_) (fun p c hc => h.receiver p c hc) h.maps, h.slot⟩
  have h1 : s.bqm.holds c = (s.bqm.egress.get .A).references.count c +
      (s.bqm.egress.get .B).references.count c + (b :: r).count c := by rw [Bqm.holds, hq]
  have h2 : s.takeHead.bqm.holds c = (s.bqm.egress.get .A).references.count c +
      (s.bqm.egress.get .B).references.count c + r.count c := by
    rw [Bqm.holds, show s.takeHead.bqm.ldq = r from congrArg List.tail hq]
    rfl
  change (s.bqm.buffer c).refs + _ = (s.bqm.buffer c).refs + _
  rw [h1, h2]
  simp only [List.count_cons]
  omega

theorem State.Balances.consumed {b : Nat} (h : s.Balances (b :: l)) : (s.consumed b).Balances l :=
  Balanced.release h

theorem State.Balances.consume {kind : Byte} {act : State → Frame → State} (h : s.Balances l)
    (acts : ∀ {t : State} {m : List Nat}, t.Balances m → ∀ f, (act t f).Balances m) :
    (s.consume kind act).Balances l := by
  unfold State.consume
  split
  · exact h
  · next b f hf =>
    obtain ⟨r, hr⟩ := State.headOfKind_ldq hf
    exact (acts (h.takeHead hr) f).consumed

/-- An action of the Management Unit keeps the laws, whatever is in the hands of the unit. -/
def Act.Balances (act : Act) : Prop :=
  ∀ (t : State) (f : Frame) (m : List Nat), t.Balances m → (act t f).1.Balances m

theorem State.Balances.reply (h : s.Balances l) (f : Frame) (a : Answer) : (s.reply f a).Balances l := by
  have hm : (s.mark f).Balances l :=
    .ite (Balanced.same (q := s.bqm) h (fun _ => rfl) (fun _ _ => rfl) rfl rfl h.maps) h
  exact (hm.sendOwn priorityReply (s.replyFrame f a)).of_eq (by simp [State.reply]) (by simp [State.reply])

/-- A command of the Management Unit keeps the laws: the frame's reference is in the hands of the unit from
its taking to its release (R52, R170). -/
theorem State.Balances.control {row : Instr} {act : Act} (h : s.Balances []) (acts : act.Balances) :
    (s.control row act).Balances [] := by
  unfold State.control
  split
  · exact h
  · next b f hf =>
    obtain ⟨r, hr⟩ := State.headOfKind_ldq hf
    have ho : (s.takeHead.obey f act).1.Balances [b] :=
      State.obey_ind (fun t f => acts t f [b]) (h.takeHead hr)
    exact .ite h ((ho.onMgu _).reply _ _).consumed.settleReset

/-! ### The actions of the Management Unit -/

theorem answering_balances (g : State → List Byte → Answer) : (answering g).Balances := fun _ _ _ h => h

theorem writeEntries_balances {α : Type} {lo hi size : Nat} {parse : Nat → List Byte → Option (Taken α)}
    {put : State → Nat → α → State} (hp : ∀ t i x, (put t i x).ports = t.ports)
    (hq : ∀ t i x, (put t i x).bqm = t.bqm) :
    Act.Balances fun t f => t.writeEntries lo hi size f.payload parse put :=
  fun _ _ m h => State.writeEntries_ind (P := fun t => t.Balances m)
    (fun t i x ht => ht.of_eq (hp t i x) (hq t i x)) h

theorem Egress.references_configure (e : Egress) (c : PortConfig) : (e.configure c).references = e.references := by
  have h (e : Egress) (k : Nat) : (e.retype c k).references = e.references := by
    unfold Egress.retype
    split
    · rfl
    · exact Egress.references_onQueue rfl
  have hc (e : Egress) : ({ e with config := c } : Egress).references = e.references := rfl
  rw [Egress.configure, hc, h, h, h, h]

/-- A change of one port's queues that keeps what they hold keeps the laws. -/
theorem Balanced.onEgress {u : Both LinePort} {q : Bqm} (h : Balanced u q l) (p : Port) {g : Egress → Egress}
    (hg : (g (q.egress.get p)).references = (q.egress.get p).references) : Balanced u (q.onEgress p g) l := by
  refine h.same (fun _ => rfl) (fun r b => ?_) rfl rfl h.maps
  rcases Port.eq_or_other p r with rfl | rfl
  · rw [Bqm.onEgress, Both.get_modify_same, hg]
  · rw [Bqm.onEgress, Both.get_modify_other]

theorem State.Balances.putPortConfig (h : s.Balances l) (i : Nat) (c : PortConfig) :
    (putPortConfig s i c).Balances l := by
  have ht (p : Port) : (s.onBqm fun q => q.onEgress p fun e => e.configure c).Balances l :=
    Balanced.onEgress h p (Egress.references_configure _ c)
  exact .ite (ht _) ((ht _).quiet rfl rfl rfl rfl)

/-- Entries taken from octets and written one after another keep what each such write keeps. -/
theorem putAll_parsed {P : State → Prop} {α : Type} {parse : Nat → List Byte → Option (Taken α)}
    {put : State → Nat → α → State}
    (puts : ∀ t i e x, P t → parse i e = some x → P (put t i x.value)) (l : List (Option (Taken α)))
    (i : Nat) (hl : ∀ k x, l[k]? = some (some x) → ∃ e, parse (i + k) e = some x) {s : State} (h : P s) :
    P (putAll put i l s) := by
  induction l generalizing i s with
  | nil => exact h
  | cons y l ih =>
    have hl' : ∀ k x, l[k]? = some (some x) → ∃ e, parse (i + 1 + k) e = some x := fun k x hk => by
      have := hl (k + 1) x (by simpa using hk)
      rwa [← Nat.add_assoc, Nat.add_right_comm] at this
    cases y with
    | none => exact ih _ hl' h
    | some x =>
      obtain ⟨e, he⟩ := hl 0 x rfl
      exact ih _ hl' (puts _ _ e _ h he)

theorem State.writeEntries_parsed {P : State → Prop} {α : Type} {parse : Nat → List Byte → Option (Taken α)}
    {put : State → Nat → α → State}
    (puts : ∀ t i e x, P t → parse i e = some x → P (put t i x.value)) {lo hi size : Nat}
    {payload : List Byte} (h : P s) : P (s.writeEntries lo hi size payload parse put).1 := by
  unfold State.writeEntries State.writeTaken
  dsimp only
  repeat' split
  · exact h
  · exact h
  · exact h
  · refine putAll_parsed puts _ _ (fun k x hk => ?_) h
    obtain ⟨hn, hx⟩ := List.getElem?_eq_some_iff.1 hk
    rw [List.getElem_map, List.getElem_range] at hx
    exact ⟨_, hx⟩

theorem clampNat_le {lo hi : Nat} (h : lo ≤ hi) (n : Nat) : clampNat lo hi n ≤ hi := by
  unfold clampNat
  split
  · exact h
  · split <;> omega

/-- A QUEUE_MAP entry written under the law of the Queue Maps keeps it: each queue number was clamped below
the queue count (R45). -/
theorem Bqm.MapLaw.write {q : Bqm} (h : q.MapLaw) {i : Nat} {e : List Byte} {x : Taken (Tab Nat 8)}
    (hx : parseQueueMap i e = some x) : Bqm.MapLaw { q with maps := q.maps.set (i - 1) x.value } := by
  intro k n hk hn
  by_cases hi : k = i - 1
  · subst hi
    rw [Tab.get_set_same _ _ _ _ hk]
    cases hx
    have hm : ((List.range 8).map fun k => clampNat 0 (i - 1) (num1 e k)).getD n 0 =
        clampNat 0 (i - 1) (num1 e n) := by simp [List.getD, hn]
    exact hm.trans_le (clampNat_le (Nat.zero_le _) _)
  · rw [Tab.get_set_ne _ _ _ _ _ (Ne.symm hi)]
    exact h k n hk hn

theorem State.Balances.putQueueMap {i : Nat} {e : List Byte} {x : Taken (Tab Nat 8)} (h : s.Balances l)
    (hx : parseQueueMap i e = some x) : (putQueueMap s i x.value).Balances l := by
  have hm : Bqm.MapLaw { s.bqm with maps := s.bqm.maps.set (i - 1) x.value } := h.maps.write hx
  exact Balanced.same (q := s.bqm) h (fun _ => rfl) (fun _ _ => rfl) rfl rfl hm

theorem writeQueueMap_balances :
    Act.Balances fun t f => t.writeEntries 1 4 8 f.payload parseQueueMap Machine.putQueueMap := by
  intro t f m h
  have puts (u : State) (i : Nat) (e : List Byte) (x : Taken (Tab Nat 8)) (hu : u.Balances m)
      (hx : parseQueueMap i e = some x) : (Machine.putQueueMap u i x.value).Balances m := hu.putQueueMap hx
  exact State.writeEntries_parsed (P := fun t => t.Balances m) puts h

theorem setMode_balances (m : PortMode) : (setMode m).Balances := by
  intro t f l h
  unfold setMode
  split
  · exact h.of_eq rfl rfl
  · split
    · exact h
    · exact h.changeMode _ _

theorem setCode_balances (c : LoopCode) : (setCode c).Balances := by
  intro t f l h
  unfold setCode
  split
  · exact h.of_eq rfl rfl
  · exact h.setLoopCode _ _

theorem commitRoute_balances : commitRoute.Balances := by
  intro t f l h
  unfold commitRoute
  dsimp only
  split
  · exact h
  · exact h.of_eq rfl rfl

theorem commitProfile_balances : commitProfile.Balances := by
  intro t f l h
  unfold commitProfile
  dsimp only
  split
  · exact h
  · split
    · exact h
    · exact .ite (h.onTdu _).takeKeyOn (h.onTdu _)

theorem noRow_balances : noRow.Balances := by
  intro t f l h
  unfold noRow
  split
  · exact h
  · exact h.of_eq rfl rfl

theorem setManager_balances : setManager.Balances := by
  intro t f l h
  unfold setManager
  dsimp only
  split
  · exact h
  · exact h.onMgu _

theorem preselect_balances : preselect.Balances := by
  intro t f l h
  unfold preselect
  split
  · exact h
  · split
    · exact h
    · exact h.of_eq (by simp) (by simp)

theorem resetPart_balances : resetPart.Balances := by
  intro t f l h
  unfold resetPart
  split
  · exact h
  · exact h.onMgu _

/-- The counters cleared (R174) are no part of the laws. -/
theorem State.Balances.clearCounters (h : s.Balances l) : s.clearCounters.Balances l := by
  have hg (e : Egress) : e.clearCounters.references = e.references := by
    refine Egress.references_congr fun n _ => ?_
    have hm := Tab.get_map (fun x : EgressQueue => { x with drops := 0 }) e.queues n EgressQueue.empty
    have he : (e.clearCounters.queue n).entries = _ := congrArg EgressQueue.entries hm
    exact he
  have hq : Balanced s.ports s.bqm.clearCounters l := by
    refine Balanced.same h (fun _ => rfl) (fun r b => ?_) rfl rfl h.maps
    rw [Bqm.clearCounters, Both.get_map, hg]
  have ht : (s.onBqm Bqm.clearCounters).Balances l := hq
  exact (ht.mapPorts (g := LinePort.clearCounters) (fun _ => rfl) (fun _ => rfl) (fun _ => rfl)
    fun _ => rfl).of_eq rfl rfl

theorem exec_control_balances {c : Instr} (hc : c ∈ controlRows) (h : s.Balances []) :
    ∃ t, exec c s = .next t ∧ t.Balances [] := by
  cases c
  case unknownCommand => exact ⟨_, rfl, h.control noRow_balances⟩
  case readTable | readState | readLog => exact ⟨_, rfl, h.control (answering_balances _)⟩
  case writeNode | writeClass | writeTagMap | writeWeights | writeProfile | writeTone | writeSoundMap |
      writeAttributeConfig =>
    exact ⟨_, rfl, h.control (writeEntries_balances (fun _ _ _ => rfl) fun _ _ _ => rfl)⟩
  case writePortConfig =>
    exact ⟨_, rfl, h.control fun t f m ht => State.writeEntries_ind (P := fun t => t.Balances m)
      (fun _ i x hu => hu.putPortConfig i x) ht⟩
  case writeQueueMap => exact ⟨_, rfl, h.control writeQueueMap_balances⟩
  case writeRoute =>
    exact ⟨_, rfl, h.control fun t f m ht => State.writeRoute_ind (P := fun t => t.Balances m)
      (fun _ _ _ hu => hu.of_eq rfl rfl) (fun _ _ _ hu => hu.of_eq rfl rfl) ht⟩
  case writePattern =>
    exact ⟨_, rfl, h.control fun t f m ht => State.writePattern_ind (P := fun t => t.Balances m)
      (fun _ _ _ hu => hu.of_eq rfl rfl) ht⟩
  case commitRoute => exact ⟨_, rfl, h.control commitRoute_balances⟩
  case commitProfile => exact ⟨_, rfl, h.control commitProfile_balances⟩
  case clearLatches =>
    exact ⟨_, rfl, h.control fun _ _ _ ht =>
      ht.mapPorts (fun _ => rfl) (fun _ => rfl) (fun _ => rfl) fun _ => rfl⟩
  case clearLog | clearAttributes => exact ⟨_, rfl, h.control fun _ _ _ ht => ht.of_eq rfl rfl⟩
  case clearCounters => exact ⟨_, rfl, h.control fun _ _ _ ht => ht.clearCounters⟩
  case setNormal | setLocalLoopback | setRemoteLoopback | setDisabled =>
    exact ⟨_, rfl, h.control (setMode_balances _)⟩
  case sendLoopup | sendLoopdown | stopLoopcode => exact ⟨_, rfl, h.control (setCode_balances _)⟩
  case setManager => exact ⟨_, rfl, h.control setManager_balances⟩
  case setReport => exact ⟨_, rfl, h.control fun _ _ _ ht => ht.onMgu _⟩
  case preselect => exact ⟨_, rfl, h.control preselect_balances⟩
  case resetPart => exact ⟨_, rfl, h.control resetPart_balances⟩
  all_goals simp [controlRows] at hc

/-! ### The commands of the line ports -/

theorem State.Balances.autoloopEnter {p : Port} (h : s.Balances []) (hm : s.mayAutoloop p = true) :
    (((s.enterRemote p).log (portEntry .autoloopEnter p)).settleReset).Balances [] := by
  have hn : (s.port p).mode = .normal := by
    simp only [State.mayAutoloop, Bool.and_eq_true, decide_eq_true_eq] at hm
    exact hm.1.1.1
  exact ((h.enterRemote (h.returnList_nil (by simp [hn]))).log _).settleReset

theorem State.settleReset_transmitting (s : State) (p : Port) :
    (s.settleReset.port p).transmitting = (s.port p).transmitting := by
  unfold State.settleReset
  repeat' split
  · rfl
  · rfl
  · rfl
  · next sender _ _ _ =>
    have hp : (s.controlReset sender).port p = (s.port p).controlReset := Both.get_map ..
    rw [hp, LinePort.controlReset_transmitting]

/-- The next output of a transmitter changes no holder (R11, R12). -/
theorem State.Balances.nextOutput (h : s.Balances l) (p : Port) (pair : LinePort → Bool) :
    (s.onPort p fun u => u.nextOutput (pair u)).Balances l :=
  h.quiet rfl rfl rfl rfl

theorem State.Balances.frameStart (h : s.Balances []) (p : Port) :
    ∃ t, exec (.frameStart p) s = .next t ∧ t.Balances [] := by
  refine ⟨_, rfl, ?_⟩
  split
  · next hr => exact h.startFrame (LinePort.receiving_hunt hr.1)
  · exact h

theorem State.Balances.frameEnd (h : s.Balances []) (p : Port) (f : Frame) :
    ∃ t, exec (.frameEnd p f) s = .next t ∧ t.Balances [] := by
  refine ⟨_, rfl, ?_⟩
  split
  · next b hb => exact .ite (h.endFrame hb f) h
  · exact h

theorem State.Balances.skippedFrameEnd (h : s.Balances []) (p : Port) :
    ∃ t, exec (.skippedFrameEnd p) s = .next t ∧ t.Balances [] := by
  refine ⟨_, rfl, ?_⟩
  split
  · next hr =>
    have hn : (s.port p).receiving = none := LinePort.receiving_frame hr.1
    have ht : (s.setRx p .hunt).Balances [] := h.quiet hn.symm rfl rfl rfl
    exact ht.quiet rfl rfl rfl rfl
  · exact h

theorem State.Balances.receiverUp (h : s.Balances []) (p : Port) :
    ∃ t, exec (.receiverUp p) s = .next t ∧ t.Balances [] := by
  refine ⟨_, rfl, ?_⟩
  split
  · next hr =>
    have hn : (s.port p).receiving = none := LinePort.receiving_idle (.inl hr.1)
    exact (h.quiet (g := fun u => u.enterRx .hunt) hn.symm rfl rfl rfl).log _
  · exact h

theorem State.Balances.fillPairSent (h : s.Balances []) (p : Port) :
    ∃ t, exec (.fillPairSent p) s = .next t ∧ t.Balances [] := by
  refine ⟨_, rfl, ?_⟩
  split
  · next ht => exact (h.ask (LinePort.transmitting_fill ht)).nextOutput p _
  · exact h

theorem State.Balances.frameSent (h : s.Balances []) (p : Port) :
    ∃ t, exec (.frameSent p) s = .next t ∧ t.Balances [] := by
  refine ⟨_, rfl, ?_⟩
  split
  · next b hb =>
    refine ((h.completeFrame hb).settleReset.ask ?_).nextOutput p _
    rw [State.settleReset_transmitting, State.completeFrame_port]
    rfl
  · exact h

end Sys2Proof.Machine
end

section
/-! SUPPORT. The laws of the buffers through the commands without a port or a CONTROL frame, through a bit time
and through every step. -/

namespace Sys2Proof.Machine

variable {s : State} {l : List Nat}

theorem LinePort.SameBody.receiving {u v : LinePort} (h : u.SameBody v) : u.receiving = v.receiving := by
  obtain ⟨hrx, -⟩ := h
  rw [LinePort.receiving, hrx]
  rfl

theorem LinePort.SameBody.holds {u v : LinePort} (h : u.SameBody v) (b : Nat) : u.holds b = v.holds b := by
  have hr := h.receiving
  obtain ⟨_, htx, _, _, _, _, _, _, _, _, hl⟩ := h
  have ht : u.transmitting = v.transmitting := by
    rw [LinePort.transmitting, htx]
    rfl
  rw [LinePort.holds, LinePort.holds, hr, ht, hl]

/-- A bit time moves no buffer. -/
theorem State.Balances.clock (h : s.Balances l) : s.clock.Balances l := by
  have hb (p : Port) : (s.clock.ports.get p).SameBody (s.ports.get p) := State.clock_body s p
  have hq : s.clock.bqm = s.bqm := s.clock_keeps.2.1
  refine ⟨⟨fun b hlt => ?_, fun p b hr => ?_, fun p hm => ?_, ?_⟩, ?_⟩
  · rw [hq, (hb .A).holds, (hb .B).holds]
    exact h.pool b hlt
  · rw [hq]
    exact h.receiver p b ((hb p).receiving ▸ hr)
  · obtain ⟨_, _, _, _, hmode, _, _, _, _, _, hlist⟩ := hb p
    rw [hlist]
    exact h.returns p (hmode ▸ hm)
  · exact hq ▸ h.maps
  · exact hq ▸ h.slot

theorem exec_line_balances {c : Instr} {p : Port} (h : s.Balances [])
    (hc : c ∈ [Instr.lengthError p, .syncLoss p, .receiverDown p, .autoloopEnter p, .autoloopExit p]) :
    ∃ t, exec c s = .next t ∧ t.Balances [] := by
  simp only [List.mem_cons, List.not_mem_nil, or_false] at hc
  rcases hc with rfl | rfl | rfl | rfl | rfl
  · exact ⟨_, rfl, .ite (h.lineError p _) h⟩
  · exact ⟨_, rfl, .ite (h.lineError p _) h⟩
  · exact ⟨_, rfl, .ite (h.goDown p) h⟩
  · refine ⟨_, rfl, ?_⟩
    split
    · next hm => exact h.autoloopEnter (Bool.and_eq_true_iff.1 hm).1
    · exact h
  · exact ⟨_, rfl, .ite (h.exitRemote p 1) h⟩

/-- Every command but a power-on reset and the CONTROL commands keeps the laws. -/
theorem exec_event_balances {c : Instr} (hr : c ∉ controlRows) (hp : ∀ straps, c ≠ .powerOnReset straps)
    (h : s.Balances []) : ∃ t, exec c s = .next t ∧ t.Balances [] := by
  cases c
  case powerOnReset straps => exact absurd rfl (hp straps)
  case frameStart p => exact h.frameStart p
  case frameEnd p f => exact h.frameEnd p f
  case skippedFrameEnd p => exact h.skippedFrameEnd p
  case receiverUp p => exact h.receiverUp p
  case fillPairSent p => exact h.fillPairSent p
  case frameSent p => exact h.frameSent p
  case lengthError p | syncLoss p | receiverDown p | autoloopEnter p | autoloopExit p =>
    exact exec_line_balances (p := p) h (by simp)
  case takeCabAnnounce => exact ⟨_, rfl, h.consume fun ht f => ht.takeAnnounce f⟩
  case takeInverterStatus => exact ⟨_, rfl, h.consume fun ht f => ht.of_eq (by simp) (by simp)⟩
  case takeStopPress => exact ⟨_, rfl, h.consume fun ht f => ht.stopPressTaken f⟩
  case announceTimerExpiry => exact ⟨_, rfl, .ite (h.onCru _).sendAnnounce h⟩
  case claimWindowExpiry | clearTimerExpiry => exact ⟨_, rfl, .ite (h.setRole _) h⟩
  case cabEntryTimeout cab => exact ⟨_, rfl, .ite (h.entryTimeout cab) h⟩
  case releasingTimerExpiry => exact ⟨_, rfl, .ite (h.keyOffMoving 2) h⟩
  case debouncedChange i level =>
    have ht : (s.setLevel i level).Balances [] := h.onCiu _
    exact ⟨_, rfl, .ite (ht.deliverChange i level) h⟩
  case graceTimerExpiry => exact ⟨_, rfl, .ite ((h.log _).emergency 2) h⟩
  case demandPeriod => exact ⟨_, rfl, .ite h.period h⟩
  case refreshTimerExpiry => exact ⟨_, rfl, .ite h.indicateRequested h⟩
  case reportTimerExpiry => exact ⟨_, rfl, .ite (h.sendReport.onMgu _) h⟩
  case handleSample => exact ⟨_, rfl, h.of_eq (by simp) (by simp)⟩
  case carrierGain | carrierLoss =>
    exact ⟨_, rfl, .ite (.ite (h.of_eq (by simp) (by simp)) (h.of_eq (by simp) (by simp))) h⟩
  case retryTimerExpiry =>
    refine ⟨_, rfl, ?_⟩
    split
    · exact .ite (h.of_eq (by simp) (by simp)) h
    · exact h
  case pointRequestTransmit | pointRequestSent =>
    refine ⟨_, rfl, ?_⟩
    split
    · exact h
    · exact .ite (h.of_eq (by simp [State.reportSent]) (by simp [State.reportSent])) h
  case learningTimerExpiry | loopReportHoldExpiry | handleFault | handleFaultCleared | telegramStart |
      loopLengthError | telegramReceived | inhibitTimerExpiry | stepEnd | recoveryTimerExpiry | bitJudged |
      cabLampFlash =>
    exact ⟨_, rfl, .ite (h.of_eq (by simp) (by simp)) h⟩
  all_goals exact absurd (by decide) hr

/-- The command at the front of the queue keeps the laws of the buffers, as a bit time does. -/
theorem State.Balances.step {t : State} (h : s.Balances []) (hs : step s = .next t) : t.Balances [] := by
  unfold Machine.step at hs
  split at hs
  · cases hs
    exact h.clock
  · next c rest _ =>
    have hq : ({ s with pending := rest } : State).Balances [] := h.of_eq rfl rfl
    by_cases hr : c ∈ controlRows
    · obtain ⟨u, hu, hb⟩ := exec_control_balances hr hq
      cases hs.symm.trans hu
      exact hb
    · by_cases hp : ∃ straps, c = .powerOnReset straps
      · obtain ⟨straps, rfl⟩ := hp
        cases hs
        exact (State.balances_iff _).2 (State.powerOnReset_fresh _ straps).bufferLaw
      · obtain ⟨u, hu, hb⟩ := exec_event_balances hr (fun straps k => hp ⟨straps, k⟩) hq
        cases hs.symm.trans hu
        exact hb

/-- Settles O56: the references in the places and in the hands of the unit at work balance the counts through
every part of every command, and between two commands no unit has one in hand. -/
theorem bufferReferencesAreKept : Obligations.BufferReferencesAreKept := by
  intro s t h hs
  exact (State.balances_iff t).1 (((State.balances_iff s).2 h).step hs)

end Sys2Proof.Machine
end

section
/-! SUPPORT. The frames taken from the Local Dispatch Queue by the Cab Role Unit and the Traction Demand Unit: the
announces that leave the role alone and the reports of the inverters. -/

namespace Sys2Proof.Machine

variable {s : State}

/-- A frame of the kind at the head is taken, acted on and released (R52). -/
theorem State.consume_head {kind : Byte} {act : State → Frame → State} {b : Nat} {f : Frame}
    (h : s.headOfKind kind = some (b, f)) : s.consume kind act = (act s.takeHead f).consumed b := by
  unfold State.consume
  rw [h]

/-! ### The announces that leave the role alone -/

/-- An announce from a cab with no entry is put at its place, by ascending address (R60). -/
theorem Cru.hear_new {u : Cru} {e : CabEntry} (h : u.holdsCab e.cab = false) :
    u.hear e = { u with cabs := insertCab e u.cabs } := by
  unfold Cru.hear
  rw [h]
  rfl

theorem any_insertCab (p : CabEntry → Bool) (e : CabEntry) (l : List CabEntry) :
    (insertCab e l).any p = (p e || l.any p) := by
  induction l with
  | nil => rfl
  | cons x l ih =>
    unfold insertCab
    split
    · rfl
    · simp only [List.any_cons, ih]
      ac_rfl

/-- An announce for which the table has no place reaches no entry (R60). -/
theorem State.takeAnnounce_full {f : Frame} {r : Announced} (hr : announceRole f.payload = some r)
    (hnew : s.cru.holdsCab (addrOf f.src) = false) (hlen : 4 ≤ s.cru.cabs.length) :
    s.takeAnnounce f = s.cabTableFull (addrOf f.src) := by
  unfold State.takeAnnounce
  rw [hr]
  exact if_pos ⟨hnew, hlen⟩

theorem State.takeAnnounce_rejected {f : Frame} (hr : announceRole f.payload = none) :
    s.takeAnnounce f = s.onCru fun u => { u with rejected := bump u.rejected } := by
  unfold State.takeAnnounce
  rw [hr]

/-- A claim heard in INACTIVE with no ACTIVE entry is written to the table alone (R60, R63). -/
theorem State.takeAnnounce_quietClaim {f : Frame} (hr : announceRole f.payload = some .claiming)
    (hnew : s.cru.holdsCab (addrOf f.src) = false) (hlen : s.cru.cabs.length < 4)
    (hrole : s.cru.role = .inactive) (hq : s.cru.hearsActive = false) :
    s.takeAnnounce f = s.onCru fun u => { u with
      cabs := insertCab { cab := addrOf f.src, role := .claiming, time := s.cmn.partTime, left := 500 } u.cabs } := by
  have hheard : s.cru.hear { cab := addrOf f.src, role := .claiming, time := s.cmn.partTime, left := 500 } = _ :=
    Cru.hear_new hnew
  unfold State.takeAnnounce State.onCru
  rw [hr]
  dsimp only
  rw [if_neg (by omega), hheard]
  have hquiet : (insertCab { cab := addrOf f.src, role := .claiming, time := s.cmn.partTime, left := 500 }
      s.cru.cabs).any (fun e => decide (e.role = .active)) = false := by
    rw [any_insertCab]
    exact hq
  unfold State.roleOnAnnounce State.followTable
  simp [hrole, Cru.tableRole, Cru.hearsActive, hquiet]

/-- Settles O18, by the branch of the announce: rejected, no place twice, and a claim. -/
theorem quietCabAnnounces : Obligations.QuietCabAnnounces := by
  refine ⟨fun s b f hf hr => ?_, fun s b f r hf hr hnew hlen hflag => ?_, fun s b f r hf hr hnew hlen hflag => ?_,
    fun s b f hf hr hnew hlen hrole hq => ?_⟩
  all_goals refine congrArg Host.Outcome.next ((State.consume_head hf).trans ?_)
  · rw [State.takeAnnounce_rejected hr]
    rfl
  · rw [State.takeAnnounce_full (s := s.takeHead) hr hnew hlen]
    unfold State.cabTableFull
    rw [if_neg (by simp [hflag])]
    rfl
  · rw [State.takeAnnounce_full (s := s.takeHead) hr hnew hlen]
    unfold State.cabTableFull
    rw [if_pos (by simpa using hflag)]
    rfl
  · rw [State.takeAnnounce_quietClaim (s := s.takeHead) hr hnew hlen hrole hq]
    rfl

/-! ### The reports of the inverters -/

/-- A report goes to the slot of its node, or to the free slot of the lowest number (R79). -/
theorem State.placeReport_slot {x : Slot} {i : Nat} (h : s.tdu.slotOf x.node = some i ∨
    (s.tdu.slotOf x.node = none ∧ s.tdu.freeSlot = some i)) : s.placeReport x = s.writeSlot i x := by
  unfold State.placeReport
  rcases h with h | ⟨h, hfree⟩
  · rw [h]
  · rw [h, hfree]

/-- A report with no slot to go to is told of once (R80). -/
theorem State.placeReport_overflow {x : Slot} (h : s.tdu.slotOf x.node = none) (hfree : s.tdu.freeSlot = none) :
    s.placeReport x = if s.tdu.inverterOverflow then s
      else (s.onTdu fun u => { u with inverterOverflow := true }).log
        { kind := .inverterOverflow, block := .tdu, node := some x.node } := by
  unfold State.placeReport
  rw [h, hfree]

/-- The write of a slot, with the SPEED_SOURCE event of a slot that enters FAULT (R79). -/
theorem State.writeSlot_eq (s : State) (i : Nat) (x : Slot) : s.writeSlot i x = { s with
    tdu := { s.tdu with slots := s.tdu.slots.set i (some x) }
    cmn := if x.state = .fault ∧ ((s.tdu.slots.get i none).map fun x => x.state) ≠ some .fault then
      s.cmn.count .speedSource else s.cmn } := by
  unfold State.writeSlot
  dsimp only
  split <;> rfl

/-- An accepted report is placed with the part time (R79). -/
theorem State.inverterStatus_report {f : Frame} {speed effort : Int} {st : InverterState}
    (h : inverterReport f.payload = some (speed, effort, st)) : s.inverterStatus f = s.placeReport
      { node := addrOf f.src, speed := speed, effort := effort, state := st, time := s.cmn.partTime } := by
  unfold State.inverterStatus
  rw [h]

theorem State.inverterStatus_rejected {f : Frame} (h : inverterReport f.payload = none) :
    s.inverterStatus f = s.onTdu fun u => { u with rejected := bump u.rejected } := by
  unfold State.inverterStatus
  rw [h]

/-- Settles O19, by the branch of the report: placed, rejected, or left over. -/
theorem inverterReportsFillTheTable : Obligations.InverterReportsFillTheTable := by
  refine ⟨fun s b f speed effort st i hf hr hi => ?_, fun s b f hf hr => ?_,
    fun s b f speed effort st hf hr hnone hfree => ?_⟩
  all_goals refine congrArg Host.Outcome.next ((State.consume_head hf).trans ?_)
  · have hplaced := (State.inverterStatus_report (s := s.takeHead) hr).trans (State.placeReport_slot hi)
    rw [hplaced, State.writeSlot_eq]
    rfl
  · rw [State.inverterStatus_rejected hr]
    rfl
  · have hplaced := (State.inverterStatus_report (s := s.takeHead) hr).trans
      (State.placeReport_overflow hnone hfree)
    rw [hplaced]
    have hflag : s.takeHead.tdu.inverterOverflow = s.tdu.inverterOverflow := rfl
    rw [hflag]
    split <;> rfl

end Sys2Proof.Machine
end

section
/-! SUPPORT. What the offer of a frame at the ports it is routed to leaves of the buffers and the queues, and the
generation of an own frame (R43, R46, R50). -/

namespace Sys2Proof.Machine

variable {s t : State} {p : Port} {priority b c n : Nat}

/-! ### One port -/

/-- An offer at a port is judged by that port's mode, its queues and its Queue Map (R46). -/
theorem State.offerOutcome_local (hp : t.port p = s.port p) (he : t.bqm.egress.get p = s.bqm.egress.get p)
    (hm : t.bqm.maps = s.bqm.maps) : t.offerOutcome p priority = s.offerOutcome p priority := by
  simp only [State.offerOutcome, Bqm.queueFor, hp, he, hm]
  rfl

theorem Bqm.queueFor_local {q q' : Bqm} (he : q'.egress.get p = q.egress.get p) (hm : q'.maps = q.maps) :
    q'.queueFor p priority = q.queueFor p priority := by
  simp only [Bqm.queueFor, he, hm]

/-- An offer at one port changes nothing of what an offer at the other finds. -/
theorem State.enqueue_outcome_other (s : State) (p : Port) (priority b k : Nat) :
    (s.enqueue p priority b).offerOutcome p.other k = s.offerOutcome p.other k :=
  State.offerOutcome_local (by rw [State.port, (s.enqueue_keeps p priority b).2.1]; rfl)
    (s.enqueue_other p priority b) (s.enqueue_maps p priority b)

/-- A queued frame stands at the tail of the queue its priority maps to, and each queue else holds what it held
(R46). -/
theorem State.enqueue_entries (s : State) (p : Port) (priority b : Nat) (hn : n < 4) :
    (((s.enqueue p priority b).bqm.egress.get p).queue n).entries =
      ((s.bqm.egress.get p).queue n).entries ++
        if n = s.bqm.queueFor p priority ∧ s.offerOutcome p priority = .queued then [b] else [] := by
  rw [State.enqueue_bqm]
  by_cases h : s.offerOutcome p priority = .queued
  · simp only [h, if_true, and_true, Bqm.retain, Bqm.onEgress, Both.get_modify_same, Egress.queue_onQueue hn]
    split <;> simp
  · simp only [h, if_false, and_false, Bqm.onEgress, Both.get_modify_same, List.append_nil]
    exact Egress.entries_onQueue rfl

theorem State.enqueue_buffer_ne (s : State) (p : Port) (priority : Nat) (hc : c ≠ b) :
    (s.enqueue p priority b).bqm.buffer c = s.bqm.buffer c := by
  rw [State.enqueue_bqm]
  split
  · exact Tab.get_set_ne _ _ _ _ _ hc.symm
  · rfl

theorem State.enqueue_frame (s : State) (p : Port) (priority b c : Nat) (hc : c < 96) :
    ((s.enqueue p priority b).bqm.buffer c).frame = (s.bqm.buffer c).frame := by
  by_cases h : c = b
  · subst h
    rw [State.enqueue_bqm]
    split
    · rw [Bqm.buffer_retain_same hc]
      rfl
    · rfl
  · rw [s.enqueue_buffer_ne p priority h]

/-! ### The ports of a destination -/

/-- Whether a frame offered at the ports of `x` is queued at the port (R46, R50). -/
def State.copied (s : State) (x : Both Bool) (priority : Nat) (p : Port) : Bool :=
  x.get p && decide (s.offerOutcome p priority = .queued)

/-- An offer at some ports leaves what an offer at port A leaves, where A is one of them, and at port B then. -/
theorem State.offerAt_eq (s : State) (x : Both Bool) (priority b : Nat) :
    s.offerAt x priority b = (s.offerAt ⟨x.a, false⟩ priority b).offerAt ⟨false, x.b⟩ priority b := rfl

theorem State.offerAt_maps (s : State) (x : Both Bool) (priority b : Nat) :
    (s.offerAt x priority b).bqm.maps = s.bqm.maps := by
  unfold State.offerAt
  dsimp only
  cases x.a <;> cases x.b <;> simp [State.enqueue_maps]

theorem State.offerAt_onlyA (s : State) (x : Bool) (priority b : Nat) :
    s.offerAt ⟨x, false⟩ priority b = if x then s.enqueue .A priority b else s := rfl

theorem State.offerAt_onlyB (s : State) (x : Bool) (priority b : Nat) :
    s.offerAt ⟨false, x⟩ priority b = if x then s.enqueue .B priority b else s := rfl

/-- A port out of the offer, and its Queue Map, are as they were. -/
theorem State.offerAt_outcomeB (s : State) (x : Bool) (priority b k : Nat) :
    (s.offerAt ⟨x, false⟩ priority b).offerOutcome .B k = s.offerOutcome .B k := by
  rw [State.offerAt_onlyA]
  split
  · exact s.enqueue_outcome_other .A priority b k
  · rfl

/-- A frame offered at some ports stands at the tail of its queue at each where it is queued (R46, R50). -/
theorem State.offerAt_entries (s : State) (x : Both Bool) (priority b : Nat) (p : Port) (hn : n < 4) :
    (((s.offerAt x priority b).bqm.egress.get p).queue n).entries =
      ((s.bqm.egress.get p).queue n).entries ++
        if n = s.bqm.queueFor p priority ∧ s.copied x priority p = true then [b] else [] := by
  have hA : ((s.offerAt ⟨x.a, false⟩ priority b).bqm.egress.get .A).queue n =
      ((s.offerAt x priority b).bqm.egress.get .A).queue n := by
    rw [State.offerAt_eq s x, State.offerAt_onlyB]
    split
    · exact congrArg (Egress.queue · n) ((s.offerAt ⟨x.a, false⟩ priority b).enqueue_other .B priority b).symm
    · rfl
  have hB : (s.offerAt ⟨x.a, false⟩ priority b).bqm.egress.get .B = s.bqm.egress.get .B := by
    rw [State.offerAt_onlyA]
    split
    · exact s.enqueue_other .A priority b
    · rfl
  cases p
  · rw [← hA, State.offerAt_onlyA, State.copied, show x.get .A = x.a from rfl]
    cases x.a
    · simp
    · simpa using s.enqueue_entries .A priority b hn
  · rw [State.offerAt_eq, State.offerAt_onlyB, State.copied, show x.get .B = x.b from rfl]
    cases x.b
    · simp [hB]
    · have h := (s.offerAt ⟨x.a, false⟩ priority b).enqueue_entries .B priority b hn
      rw [hB, Bqm.queueFor_local hB (s.offerAt_maps ..), State.offerAt_outcomeB] at h
      simpa using h

/-- Each copy queued is one more reference (R46). -/
theorem State.refs_offerAt (s : State) (x : Both Bool) (priority : Nat) (hb : b < 96) :
    ((s.offerAt x priority b).bqm.buffer b).refs = (s.bqm.buffer b).refs +
      (if s.copied x priority .A = true then 1 else 0) + if s.copied x priority .B = true then 1 else 0 := by
  rw [State.offerAt_eq, State.offerAt_onlyB, State.copied, State.copied, show x.get .A = x.a from rfl,
    show x.get .B = x.b from rfl]
  have hA : ((s.offerAt ⟨x.a, false⟩ priority b).bqm.buffer b).refs = (s.bqm.buffer b).refs +
      if (x.a && decide (s.offerOutcome .A priority = .queued)) = true then 1 else 0 := by
    rw [State.offerAt_onlyA]
    cases x.a
    · simp
    · simpa using s.refs_enqueue .A priority b hb
  rw [← hA]
  cases x.b
  · simp
  · have h := (s.offerAt ⟨x.a, false⟩ priority b).refs_enqueue .B priority b hb
    rw [State.offerAt_outcomeB] at h
    simpa using h

theorem State.offerAt_buffer_ne (s : State) (x : Both Bool) (priority : Nat) (hc : c ≠ b) :
    (s.offerAt x priority b).bqm.buffer c = s.bqm.buffer c := by
  unfold State.offerAt
  dsimp only
  cases x.a <;> cases x.b <;> simp [State.enqueue_buffer_ne _ _ _ hc]

theorem State.offerAt_frame (s : State) (x : Both Bool) (priority b : Nat) (hc : c < 96) :
    ((s.offerAt x priority b).bqm.buffer c).frame = (s.bqm.buffer c).frame := by
  unfold State.offerAt
  dsimp only
  cases x.a <;> cases x.b <;> simp [State.enqueue_frame _ _ _ _ _ hc]

/-! ### The generation of an own frame -/

/-- A buffer taken with a frame written in it, before the frame is offered at any port. -/
def State.drafted (s : State) (b : Nat) (f : Frame) : State := s.onBqm fun q => (q.take b).write b f

theorem State.drafted_buffer (s : State) (f : Frame) (hb : b < 96) :
    (s.drafted b f).bqm.buffer b = { refs := 1, frame := f } := by
  have htake : (s.bqm.take b).buffer b = { s.bqm.buffer b with refs := 1 } := Tab.get_set_same _ _ _ _ hb
  exact (Bqm.buffer_write_same hb).trans (congrArg (fun x : Buffer => { x with frame := f }) htake)

theorem State.drafted_buffer_ne (s : State) (f : Frame) (hc : c ≠ b) :
    (s.drafted b f).bqm.buffer c = s.bqm.buffer c :=
  (Tab.get_set_ne _ _ _ _ _ hc.symm).trans (Tab.get_set_ne _ _ _ _ _ hc.symm)

theorem State.drafted_outcome (s : State) (b : Nat) (f : Frame) (p : Port) (k : Nat) :
    (s.drafted b f).offerOutcome p k = s.offerOutcome p k :=
  State.offerOutcome_congr rfl rfl rfl

theorem State.drafted_copied (s : State) (b : Nat) (f : Frame) (x : Both Bool) (k : Nat) (p : Port) :
    (s.drafted b f).copied x k p = s.copied x k p := by
  rw [State.copied, State.drafted_outcome]
  rfl

theorem State.sendOwn_given {f : Frame} (h : s.bqm.firstFree = some b) : s.sendOwn priority f =
    ((s.drafted b f).offerAt (s.routes (addrOf f.dest)) priority b).onBqm fun q => q.release b := by
  unfold State.sendOwn
  rw [h]
  rfl

theorem State.sendOwn_failed {f : Frame} (h : s.bqm.firstFree = none) : s.sendOwn priority f = s.ownFailure := by
  unfold State.sendOwn
  rw [h]

section
variable {f : Frame} (hf : s.bqm.firstFree = some b)
include hf

theorem State.sendOwn_entries (p : Port) (hn : n < 4) :
    (((s.sendOwn priority f).bqm.egress.get p).queue n).entries =
      ((s.bqm.egress.get p).queue n).entries ++
        if n = s.bqm.queueFor p priority ∧ s.copied (s.routes (addrOf f.dest)) priority p = true then [b]
        else [] := by
  rw [State.sendOwn_given hf]
  have h := (s.drafted b f).offerAt_entries (s.routes (addrOf f.dest)) priority b p hn
  rw [State.drafted_copied] at h
  exact h

/-- The buffer of an own frame holds the frame with one reference for each copy queued (R43). -/
theorem State.sendOwn_buffer : (s.sendOwn priority f).bqm.buffer b =
    { frame := f
      refs := (if s.copied (s.routes (addrOf f.dest)) priority .A = true then 1 else 0) +
        if s.copied (s.routes (addrOf f.dest)) priority .B = true then 1 else 0 } := by
  obtain ⟨hb, -⟩ := Bqm.firstFree_some hf
  have hrefs := (s.drafted b f).refs_offerAt (s.routes (addrOf f.dest)) priority hb
  have hframe := (s.drafted b f).offerAt_frame (s.routes (addrOf f.dest)) priority b hb
  rw [State.drafted_buffer s f hb, State.drafted_copied, State.drafted_copied] at hrefs
  rw [State.drafted_buffer s f hb] at hframe
  rw [State.sendOwn_given hf]
  refine (Tab.get_set_same _ b _ _ hb).trans ?_
  dsimp only at hrefs ⊢
  rw [hrefs, hframe]
  congr 1
  omega

theorem State.sendOwn_buffer_ne (hc : c ≠ b) : (s.sendOwn priority f).bqm.buffer c = s.bqm.buffer c := by
  rw [State.sendOwn_given hf]
  refine (Tab.get_set_ne _ b c _ _ hc.symm).trans ?_
  exact ((s.drafted b f).offerAt_buffer_ne _ _ hc).trans (s.drafted_buffer_ne f hc)

end

/-- A broadcast is routed to both ports (R50). -/
theorem State.routes_broadcast {d : Addr} (h : d = broadcast) : s.routes d = Both.same true := by
  rw [State.routes, if_pos h]

/-- Settles O16: the frame of a broadcast is offered at both ports, and queued at both. -/
theorem ownBroadcastsAreQueuedAtBothPorts : Obligations.OwnBroadcastsAreQueuedAtBothPorts := by
  refine ⟨fun s priority b f hdest hf hA hB => ?_, fun s priority f hfree => ?_⟩
  · have hcopied (p : Port) : s.copied (s.routes (addrOf f.dest)) priority p = true := by
      rw [State.routes_broadcast hdest]
      cases p <;> simp [State.copied, Both.same, Both.get, hA, hB]
    have hbuffer := State.sendOwn_buffer (priority := priority) (f := f) hf
    rw [hcopied, hcopied] at hbuffer
    refine ⟨_, rfl, ?_, (Bqm.firstFree_some hf).2, by rw [hbuffer], by rw [hbuffer]; rfl,
      fun c hc => State.sendOwn_buffer_ne hf hc, fun p n hn => ?_⟩
    · have hA' : (s.drafted b f).offerOutcome .A priority = .queued := (State.drafted_outcome ..).trans hA
      have hB' : ((s.drafted b f).enqueue .A priority b).offerOutcome .B priority = .queued :=
        ((State.enqueue_outcome_other _ .A _ _ _).trans (State.drafted_outcome ..)).trans hB
      have hsend : s.sendOwn priority f =
          (((s.drafted b f).enqueue .A priority b).enqueue .B priority b).onBqm fun q => q.release b := by
        rw [State.sendOwn_given hf, State.routes_broadcast hdest]
        rfl
      rw [hsend, State.enqueue_queued hB', State.enqueue_queued hA']
      rfl
    · rw [State.sendOwn_entries hf p hn, hcopied]
      simp
  · rw [State.sendOwn_failed (Bqm.firstFree_none.2 hfree)]
    rfl

end Sys2Proof.Machine
end

section
/-! SUPPORT. The offer of a demand to the demand slot, and the demand sequence (R43, R53, R54, R103). -/

namespace Sys2Proof.Machine

variable {s t : State} {p r : Port} {b c n old : Nat} {f : Frame} {d : Int}

/-! ### A demand at the tail of a port's queue -/

theorem State.offerTail_slot (s : State) (p : Port) (b : Nat) : (s.offerTail p b).bqm.slot.get p =
    if s.offerOutcome p 7 = .queued then .waiting b else .notQueued := by
  refine (Both.get_set_same ..).trans ?_
  unfold State.wouldQueue
  by_cases h : s.offerOutcome p priorityDemand = .queued
  · rw [decide_eq_true h]
    exact (if_pos h).symm
  · rw [decide_eq_false h]
    exact (if_neg h).symm

theorem State.offerTail_entries (s : State) (p : Port) (b : Nat) (hn : n < 4) :
    (((s.offerTail p b).bqm.egress.get p).queue n).entries = ((s.bqm.egress.get p).queue n).entries ++
      if n = s.bqm.queueFor p 7 ∧ s.offerOutcome p 7 = .queued then [b] else [] :=
  s.enqueue_entries p priorityDemand b hn

theorem State.refs_offerTail (s : State) (p : Port) (b : Nat) (hc : c < 96) :
    ((s.offerTail p b).bqm.buffer c).refs =
      (s.bqm.buffer c).refs + if c = b ∧ s.offerOutcome p 7 = .queued then 1 else 0 :=
  s.refs_enqueue p priorityDemand b hc

theorem State.offerTail_frame (s : State) (p : Port) (b : Nat) (hc : c < 96) :
    ((s.offerTail p b).bqm.buffer c).frame = (s.bqm.buffer c).frame :=
  s.enqueue_frame p priorityDemand b c hc

theorem State.offerTail_buffer_ne (s : State) (p : Port) (hc : c ≠ b) :
    (s.offerTail p b).bqm.buffer c = s.bqm.buffer c :=
  s.enqueue_buffer_ne p priorityDemand hc

theorem State.offerTail_ownFailures (s : State) (p : Port) (b : Nat) :
    (s.offerTail p b).bqm.ownFailures = s.bqm.ownFailures := by
  refine (congrArg Bqm.ownFailures (s.enqueue_bqm p priorityDemand b)).trans ?_
  split <;> rfl

/-! ### The offer -/

theorem State.emitDemand_bqm (s : State) (d c : Int) (g : DemandFlags) :
    (s.emitDemand d g c).bqm = (s.offerDemand (s.demandFrame d g c (s.tdu.facts.v.getD 0)) d).bqm := by
  unfold State.emitDemand
  dsimp only
  split <;> rfl

theorem State.offerDemand_inPlace (h : s.bqm.rewritable = some b) : s.offerDemand f d =
    ((s.onBqm fun q => q.write b f).slotInPlace .A b).slotInPlace .B b := by
  unfold State.offerDemand
  rw [h]

theorem State.offerDemand_new (h : s.bqm.rewritable = none) (hf : s.bqm.firstFree = some b) :
    s.offerDemand f d = (((s.drafted b f).slotNew .A b).slotNew .B b).onBqm fun q => q.release b := by
  unfold State.offerDemand
  rw [h, hf]
  rfl

theorem State.offerDemand_failed (h : s.bqm.rewritable = none) (hf : s.bqm.firstFree = none) :
    s.offerDemand f d = (s.log { kind := .demandNotSent, block := .tdu, value := some d }).ownFailure := by
  unfold State.offerDemand
  rw [h, hf]

theorem State.slotInPlace_ownFailures (s : State) (p : Port) (b : Nat) :
    (s.slotInPlace p b).bqm.ownFailures = s.bqm.ownFailures := by
  unfold State.slotInPlace
  split
  · rfl
  · exact s.offerTail_ownFailures p b

theorem State.slotNew_ownFailures (s : State) (p : Port) (b : Nat) :
    (s.slotNew p b).bqm.ownFailures = s.bqm.ownFailures := by
  unfold State.slotNew
  split
  · rfl
  · exact s.offerTail_ownFailures p b

/-- A demand with a buffer, free or its own, is generated. -/
theorem State.offerDemand_ownFailures (h : s.canOfferDemand = true) :
    (s.offerDemand f d).bqm.ownFailures = s.bqm.ownFailures := by
  cases hw : s.bqm.rewritable with
  | some b =>
    rw [State.offerDemand_inPlace hw, State.slotInPlace_ownFailures, State.slotInPlace_ownFailures]
    rfl
  | none =>
    cases hf : s.bqm.firstFree with
    | some b =>
      rw [State.offerDemand_new hw hf, State.onBqm_bqm]
      exact (State.slotNew_ownFailures ..).trans (State.slotNew_ownFailures ..)
    | none => simp [State.canOfferDemand, hw, hf] at h

/-- The offer of a demand that is generated: the buffers and the attributes change, and the sequence advances
(R54, R103). -/
theorem State.emitDemand_generated (d c : Int) (g : DemandFlags) (h : s.canOfferDemand = true) :
    s.emitDemand d g c = { s with
      bqm := (s.emitDemand d g c).bqm
      tdu := { s.tdu with seq := s.tdu.seq + 1 }
      cmn := (s.emitDemand d g c).cmn } := by
  have htdu : (s.emitDemand d g c).tdu = { s.tdu with seq := s.tdu.seq + 1 } := by
    unfold State.emitDemand
    dsimp only
    rw [if_pos h, State.onTdu_tdu]
    simp
  obtain ⟨h1, h2, h3, h4, h5, h6, h7, h8, h9, h10, h11, h12⟩ := s.emitDemand_keeps d g c
  rw [← h1, ← h2, ← h3, ← h4, ← h5, ← h6, ← h7, ← h8, ← h9, ← h10, ← h11, ← h12, ← htdu]

/-! ### A demand that waits, rewritten in its buffer -/

theorem State.slotInPlace_waiting (h : s.bqm.slot.get p = .waiting c) : s.slotInPlace p b = s := by
  unfold State.slotInPlace
  rw [h]

theorem State.slotInPlace_tail (h : ∀ c, s.bqm.slot.get p ≠ .waiting c) : s.slotInPlace p b = s.offerTail p b := by
  unfold State.slotInPlace
  split
  · next c hc => exact absurd hc (h c)
  · rfl

/-- Where the demand waits at one port, its offer in place is its offer at the other. -/
theorem State.slotInPlace_both (h : s.bqm.slot.get p = .waiting b) :
    (s.slotInPlace .A b).slotInPlace .B b = s.slotInPlace p.other b := by
  cases p
  · rw [State.slotInPlace_waiting (s := s) h]
    rfl
  · refine State.slotInPlace_waiting (c := b) ?_
    unfold State.slotInPlace
    split
    · exact h
    · exact (s.sameSlot_offerTail .A b).2.trans h

/-- A demand that waits and has been taken at no port is rewritten in its buffer (R54). -/
theorem Bqm.rewritable_of_waiting {q : Bqm} (hw : q.slot.get p = .waiting b)
    (ho : q.slot.get p.other = .waiting b ∨ q.slot.get p.other = .flushed ∨
      q.slot.get p.other = .notQueued) : q.rewritable = some b := by
  unfold Bqm.rewritable
  cases p
  · rw [show q.slot.a = .waiting b from hw]
    rcases ho with ho | ho | ho <;> rw [show q.slot.b = _ from ho]
  · rw [show q.slot.b = .waiting b from hw]
    rcases ho with ho | ho | ho <;> rw [show q.slot.a = _ from ho]

/-- A demand taken at a port is not rewritten (R54). -/
theorem Bqm.rewritable_of_taken {q : Bqm} (h : q.slot.get p = .taken) : q.rewritable = none := by
  unfold Bqm.rewritable
  cases p
  · rw [show q.slot.a = .taken from h]
  · rw [show q.slot.b = .taken from h]
    cases q.slot.a <;> rfl

/-! ### A demand that takes the place of an old one -/

theorem Bqm.retain_frame (q : Bqm) (b : Nat) (hc : c < 96) :
    ((q.retain b).buffer c).frame = (q.buffer c).frame := by
  by_cases h : c = b
  · subst h
    rw [Bqm.buffer_retain_same hc]
  · exact congrArg Buffer.frame (Tab.get_set_ne _ _ _ _ _ (Ne.symm h))

theorem Bqm.release_frame (q : Bqm) (b : Nat) (hc : c < 96) :
    ((q.release b).buffer c).frame = (q.buffer c).frame := by
  by_cases h : c = b
  · subst h
    have hsame : (q.release c).buffer c = { q.buffer c with refs := (q.buffer c).refs - 1 } :=
      Tab.get_set_same _ _ _ _ hc
    rw [hsame]
  · exact congrArg Buffer.frame (Tab.get_set_ne _ _ _ _ _ (Ne.symm h))

theorem Bqm.replace_frame (q : Bqm) (p : Port) (old b : Nat) (hc : c < 96) :
    ((q.replace p old b).buffer c).frame = (q.buffer c).frame :=
  (Bqm.release_frame (Bqm.retain (q.onEgress p _) b) old hc).trans (Bqm.retain_frame (q.onEgress p _) b hc)

theorem Bqm.replace_entries (q : Bqm) (p : Port) (old b n : Nat) :
    (((q.replace p old b).egress.get p).queue n).entries =
      ((q.egress.get p).queue n).entries.map fun x => if x = old then b else x := by
  rw [Bqm.replace_egress, Both.get_modify_same]
  exact congrArg EgressQueue.entries (Tab.get_map (fun x : EgressQueue =>
    { x with entries := x.entries.map fun b' => if b' = old then b else b' }) _ n EgressQueue.empty)

theorem State.slotNew_waiting (h : s.bqm.slot.get p = .waiting old) :
    s.slotNew p b = s.onBqm fun q => q.replace p old b := by
  unfold State.slotNew
  rw [h]

theorem State.slotNew_taken (h : s.bqm.slot.get p = .taken) : s.slotNew p b = s.offerTail p b := by
  unfold State.slotNew
  rw [h]

/-- The new demand at both ports, where the old one waits at `p` and has been taken at the other: what the new
one leaves of the queues, of the slot and of the counts. -/
structure State.Succeeds (s t : State) (p : Port) (old b : Nat) : Prop where
  place : ∀ n, n < 4 → ((t.bqm.egress.get p).queue n).entries =
    ((s.bqm.egress.get p).queue n).entries.map fun x => if x = old then b else x
  waits : t.bqm.slot.get p = .waiting b
  tail : ∀ n, n < 4 → ((t.bqm.egress.get p.other).queue n).entries =
    ((s.bqm.egress.get p.other).queue n).entries ++
      if n = s.bqm.queueFor p.other 7 ∧ s.offerOutcome p.other 7 = .queued then [b] else []
  slot : t.bqm.slot.get p.other = if s.offerOutcome p.other 7 = .queued then .waiting b else .notQueued
  refs : (t.bqm.buffer b).refs = (s.bqm.buffer b).refs + 1 +
    if s.offerOutcome p.other 7 = .queued then 1 else 0
  frame : (t.bqm.buffer b).frame = (s.bqm.buffer b).frame
  old : t.bqm.buffer old = { s.bqm.buffer old with refs := (s.bqm.buffer old).refs - 1 }

/-- A buffer is known by its count and its frame. -/
theorem Bqm.buffer_eq {q : Bqm} {x : Buffer} (hr : (q.buffer c).refs = x.refs) (hf : (q.buffer c).frame = x.frame) :
    q.buffer c = x := by
  cases h : q.buffer c
  rw [h] at hr hf
  cases x
  cases hr
  cases hf
  rfl

section
variable (hb : b < 96) (hold : old < 96) (hne : old ≠ b) (hw : s.bqm.slot.get p = .waiting old)
  (htaken : s.bqm.slot.get p.other = .taken)
include hb hold hne

/-- The place given first, the tail of the other port second. -/
theorem State.succeeds_placeFirst (s : State) (p : Port) :
    s.Succeeds ((s.onBqm fun q => q.replace p old b).offerTail p.other b) p old b := by
  have hegress : (s.bqm.replace p old b).egress.get p.other = s.bqm.egress.get p.other :=
    (s.bqm.sameSlot_replace p old b).1
  have hout : (s.onBqm fun q => q.replace p old b).offerOutcome p.other 7 = s.offerOutcome p.other 7 :=
    State.offerOutcome_local rfl hegress rfl
  have hqueue : (s.bqm.replace p old b).queueFor p.other 7 = s.bqm.queueFor p.other 7 :=
    Bqm.queueFor_local hegress rfl
  obtain ⟨hother, hslot⟩ := (s.onBqm fun q => q.replace p old b).sameSlot_offerTail p.other b
  rw [Port.other_other] at hother hslot
  refine ⟨fun n hn => ?_, ?_, fun n hn => ?_, ?_, ?_, ?_, ?_⟩
  · rw [hother]
    exact Bqm.replace_entries ..
  · rw [hslot]
    exact Both.get_set_same ..
  · rw [State.offerTail_entries _ _ _ hn, hout, State.onBqm_bqm, hqueue, hegress]
  · rw [State.offerTail_slot, hout]
  · rw [State.refs_offerTail _ _ _ hb, hout, State.onBqm_bqm, Bqm.refs_replace _ _ _ _ hb]
    simp [hne.symm]
  · rw [State.offerTail_frame _ _ _ hb, State.onBqm_bqm, Bqm.replace_frame _ _ _ _ hb]
  · rw [State.offerTail_buffer_ne _ _ hne, State.onBqm_bqm]
    exact Bqm.buffer_eq ((Bqm.refs_replace _ _ _ _ hold).trans (by simp [hne])) (Bqm.replace_frame _ _ _ _ hold)

/-- The tail of the other port first, the place given second. -/
theorem State.succeeds_tailFirst (s : State) (p : Port) :
    s.Succeeds ((s.offerTail p.other b).onBqm fun q => q.replace p old b) p old b := by
  obtain ⟨hother, hslot⟩ := s.sameSlot_offerTail p.other b
  rw [Port.other_other] at hother hslot
  obtain ⟨hegress, hkept⟩ := (s.offerTail p.other b).bqm.sameSlot_replace p old b
  refine ⟨fun n hn => ?_, Both.get_set_same .., fun n hn => ?_, ?_, ?_, ?_, ?_⟩
  · rw [← hother]
    exact Bqm.replace_entries ..
  · rw [State.onBqm_bqm, hegress, State.offerTail_entries _ _ _ hn]
  · rw [State.onBqm_bqm, hkept, State.offerTail_slot]
  · rw [State.onBqm_bqm, Bqm.refs_replace _ _ _ _ hb, State.refs_offerTail _ _ _ hb]
    simp [hne.symm]
    omega
  · rw [State.onBqm_bqm, Bqm.replace_frame _ _ _ _ hb, State.offerTail_frame _ _ _ hb]
  · have hsame := s.offerTail_buffer_ne p.other hne
    rw [State.onBqm_bqm]
    refine Bqm.buffer_eq ((Bqm.refs_replace _ _ _ _ hold).trans ?_) ((Bqm.replace_frame _ _ _ _ hold).trans ?_)
    · simp [hne, hsame]
    · rw [hsame]

include hw htaken

theorem State.succeeds_slotNew : s.Succeeds ((s.slotNew .A b).slotNew .B b) p old b := by
  cases p
  · have htail : (s.onBqm fun q => q.replace .A old b).bqm.slot.get .B = .taken := htaken
    rw [State.slotNew_waiting hw, State.slotNew_taken htail]
    exact s.succeeds_placeFirst hb hold hne .A
  · have hplace : (s.offerTail .A b).bqm.slot.get .B = .waiting old := (s.sameSlot_offerTail .A b).2.trans hw
    rw [State.slotNew_taken (p := .A) htaken, State.slotNew_waiting hplace]
    exact s.succeeds_tailFirst hb hold hne .B

end

/-! ### The obligation -/

/-- The offer of a demand that waits at `p`, and has been taken at no port. -/
theorem State.offerDemand_waits (hw : s.bqm.slot.get p = .waiting b)
    (ho : s.bqm.slot.get p.other = .waiting b ∨ s.bqm.slot.get p.other = .flushed ∨
      s.bqm.slot.get p.other = .notQueued) :
    s.offerDemand f d = if s.bqm.slot.get p.other = .waiting b then s.onBqm fun q => q.write b f
      else (s.onBqm fun q => q.write b f).offerTail p.other b := by
  rw [State.offerDemand_inPlace (Bqm.rewritable_of_waiting hw ho),
    State.slotInPlace_both (s := s.onBqm fun q => q.write b f) hw]
  split
  · next h => exact State.slotInPlace_waiting (s := s.onBqm fun q => q.write b f) h
  · next h =>
    refine State.slotInPlace_tail (s := s.onBqm fun q => q.write b f) fun c hc => ?_
    rcases ho with ho | ho | ho
    · exact h ho
    · cases ho.symm.trans hc
    · cases ho.symm.trans hc

/-- What the offer of a demand that waits and has been taken at no port leaves (R53, R54). -/
theorem State.rewrittenInPlace (hb : b < 96) (hw : ∃ p, s.bqm.slot.get p = .waiting b)
    (hall : ∀ p, s.bqm.slot.get p = .waiting b ∨ s.bqm.slot.get p = .flushed ∨
      s.bqm.slot.get p = .notQueued) {t : State} (ht : t.bqm = (s.offerDemand f d).bqm) :
    (t.bqm.buffer b).frame = f ∧
      (∀ x, x ≠ b → t.bqm.buffer x = s.bqm.buffer x) ∧
      (∀ p, s.bqm.slot.get p = .waiting b →
        t.bqm.egress.get p = s.bqm.egress.get p ∧ t.bqm.slot.get p = .waiting b) ∧
      (∀ p, s.bqm.slot.get p ≠ .waiting b → s.offerOutcome p 7 = .queued →
        t.bqm.slot.get p = .waiting b ∧ (t.bqm.buffer b).refs = (s.bqm.buffer b).refs + 1 ∧
        ∀ n, n < 4 → ((t.bqm.egress.get p).queue n).entries = ((s.bqm.egress.get p).queue n).entries ++
          (if n = s.bqm.queueFor p 7 then [b] else [])) ∧
      ((∀ p, s.bqm.slot.get p = .waiting b ∨ s.offerOutcome p 7 ≠ .queued) →
        (t.bqm.buffer b).refs = (s.bqm.buffer b).refs) := by
  obtain ⟨p, hp⟩ := hw
  rw [ht, State.offerDemand_waits hp (hall p.other)]
  have hwritten : ((s.onBqm fun q => q.write b f).bqm.buffer b) = { s.bqm.buffer b with frame := f } :=
    Bqm.buffer_write_same hb
  have hkept {x : Nat} (hx : x ≠ b) : (s.onBqm fun q => q.write b f).bqm.buffer x = s.bqm.buffer x :=
    Tab.get_set_ne _ _ _ _ _ hx.symm
  by_cases ho : s.bqm.slot.get p.other = .waiting b
  · have hboth (r : Port) : s.bqm.slot.get r = .waiting b := by
      rcases Port.eq_or_other p r with rfl | rfl
      · exact hp
      · exact ho
    rw [if_pos ho]
    exact ⟨by rw [hwritten], fun x hx => hkept hx, fun r hr => ⟨rfl, hr⟩, fun r hr => absurd (hboth r) hr,
      fun _ => by rw [hwritten]⟩
  · have hout : (s.onBqm fun q => q.write b f).offerOutcome p.other 7 = s.offerOutcome p.other 7 :=
      State.offerOutcome_congr rfl rfl rfl
    have hrefs := (s.onBqm fun q => q.write b f).refs_offerTail p.other b hb
    have hsame := (s.onBqm fun q => q.write b f).sameSlot_offerTail p.other b
    rw [Port.other_other] at hsame
    rw [if_neg ho]
    rw [hout, hwritten] at hrefs
    refine ⟨?_, fun x hx => ?_, fun r hr => ?_, fun r hr hq => ?_, fun hnone => ?_⟩
    · rw [State.offerTail_frame _ _ _ hb, hwritten]
    · rw [State.offerTail_buffer_ne _ _ hx, hkept hx]
    · rcases Port.eq_or_other p r with rfl | rfl
      · exact ⟨hsame.1, hsame.2.trans hr⟩
      · exact absurd hr ho
    · rcases Port.eq_or_other p r with rfl | rfl
      · exact absurd hp hr
      · refine ⟨?_, ?_, fun n hn => ?_⟩
        · rw [State.offerTail_slot, hout, if_pos hq]
        · rw [hrefs, if_pos ⟨rfl, hq⟩]
        · rw [State.offerTail_entries _ _ _ hn, hout]
          simp only [hq, and_true]
          rfl
    · rw [hrefs, if_neg fun k => (hnone p.other).elim ho fun h => h k.2]
      rfl

/-- What the offer of a demand leaves where the old one waits at one port and has been taken at the other. -/
theorem State.succeeds_offerDemand (hw : s.bqm.slot.get p = .waiting old) (htaken : s.bqm.slot.get p.other = .taken)
    (hrefs : (s.bqm.buffer old).refs ≠ 0) (hf : s.bqm.firstFree = some b) :
    ∃ u : State, (s.drafted b f).Succeeds u p old b ∧
      (s.offerDemand f d).bqm = u.bqm.release b ∧ old ≠ b ∧ b < 96 := by
  obtain ⟨hb, h0⟩ := Bqm.firstFree_some hf
  have hne : old ≠ b := by
    rintro rfl
    exact hrefs h0
  have hold : old < 96 := Bqm.lt_of_refs hrefs
  refine ⟨_, State.succeeds_slotNew (s := s.drafted b f) hb hold hne hw htaken, ?_, hne, hb⟩
  rw [State.offerDemand_new (Bqm.rewritable_of_taken htaken) hf, State.onBqm_bqm]

/-- Settles O27: a demand generated or not, the demand rewritten in place, the demand that takes the place of an
old one, and the frame of a demand. -/
theorem demandSequenceCountsFrames : Obligations.DemandSequenceCountsFrames := by
  refine ⟨fun s d c g h => ?generated, fun s d c g hw hf => ?failed, fun s d c g b f hb hw hall hframe => ?inPlace,
    fun s d c g p old b f hw htaken hrefs hf hframe => ?new, fun _ _ _ _ _ => rfl⟩
  case generated =>
    have hcan : s.canOfferDemand = true := by simpa [State.canOfferDemand] using h
    have ht := State.emitDemand_generated d c g hcan
    refine ⟨_, rfl, ?_, congrArg State.tdu ht, ?_⟩
    · rw [congrArg State.tdu ht]
      exact ht
    · rw [State.emitDemand_bqm]
      exact State.offerDemand_ownFailures hcan
  case failed =>
    have hcan : s.canOfferDemand = false := by simp [State.canOfferDemand, hw, hf]
    unfold State.emitDemand
    rw [State.offerDemand_failed hw hf, hcan]
    rfl
  case inPlace =>
    exact ⟨_, rfl, State.rewrittenInPlace hb hw hall (hframe ▸ State.emitDemand_bqm s d c g)⟩
  case new =>
    obtain ⟨u, hu, hbqm, hne, hb⟩ := State.succeeds_offerDemand (d := d) (f := f) hw htaken hrefs hf
    have ht : (s.emitDemand d g c).bqm = u.bqm.release b := by rw [State.emitDemand_bqm, ← hframe, hbqm]
    have hout := s.drafted_outcome b f p.other 7
    have hdraft := s.drafted_buffer f hb
    have hcount : ((u.bqm.release b).buffer b).refs = (u.bqm.buffer b).refs - 1 :=
      congrArg Buffer.refs (Tab.get_set_same _ b _ _ hb)
    refine ⟨_, rfl, ?_⟩
    rw [ht]
    refine ⟨?_, hu.waits, hu.place, ?_, fun hq => ⟨?_, ?_, fun n hn => ?_⟩, fun hq => ⟨?_, ?_⟩⟩
    · rw [Bqm.release_frame _ _ hb, hu.frame, hdraft]
    · refine (Tab.get_set_ne _ b old _ _ hne.symm).trans (hu.old.trans ?_)
      rw [State.drafted_buffer_ne _ _ hne]
    · exact hu.slot.trans (if_pos (hout.trans hq))
    · rw [hcount, hu.refs, hdraft, if_pos (hout.trans hq)]
      rfl
    · refine (hu.tail n hn).trans ?_
      simp only [hout, hq, and_true]
      rfl
    · exact hu.slot.trans (if_neg fun h => hq (hout.symm.trans h))
    · rw [hcount, hu.refs, hdraft, if_neg fun h => hq (hout.symm.trans h)]
      rfl

end Sys2Proof.Machine
end

section
/-! SUPPORT. The automatic entry into REMOTE_LOOPBACK and the automatic exit, with the measure of a loop code
(R5, R16, R18, R19). -/

namespace Sys2Proof.Machine

variable {s : State} {p : Port} {n : Nat}

/-! ### The flush of a port's queues -/

theorem Egress.mem_references {e : Egress} {b : Nat} :
    b ∈ e.references ↔ ∃ n, n < 4 ∧ b ∈ (e.queue n).entries := by
  constructor
  · intro h
    simp only [Egress.references, List.mem_append] at h
    rcases h with ((h | h) | h) | h
    exacts [⟨3, by decide, h⟩, ⟨2, by decide, h⟩, ⟨1, by decide, h⟩, ⟨0, by decide, h⟩]
  · rintro ⟨n, hn, h⟩
    simp only [Egress.references, List.mem_append]
    interval_cases n <;> simp [h]

/-- A flush empties each queue of the port and counts what stood in it (R16, R46). -/
theorem Bqm.flush_queue (q : Bqm) (p : Port) (n : Nat) : ((q.flush p).egress.get p).queue n =
    { (q.egress.get p).queue n with
      entries := []
      drops := bumpBy ((q.egress.get p).queue n).drops ((q.egress.get p).queue n).entries.length } := by
  have hq : (q.flush p).egress.get p = (q.egress.get p).flush := by
    rw [Bqm.flush_eq]
    exact Both.get_modify_same ..
  rw [hq]
  exact Tab.get_map (fun x : EgressQueue =>
    { x with entries := [], drops := bumpBy x.drops x.entries.length }) _ n EgressQueue.empty

theorem Bqm.flush_other (q : Bqm) (p : Port) : (q.flush p).egress.get p.other = q.egress.get p.other := by
  rw [Bqm.flush_eq]
  exact Both.get_modify_other ..

theorem Bqm.flush_resetReply (q : Bqm) (p : Port) :
    (q.flush p).resetReply = q.resetReply.map fun r => r.flushed p (q.egress.get p).references := by
  rw [Bqm.flush_eq]

/-- A flush that removes a copy of the marked reply makes it done at the port (R56). -/
theorem Bqm.flush_marked {q : Bqm} {r : ResetReply} (hr : q.resetReply = some r)
    (h : ∃ n, n < 4 ∧ r.buffer ∈ ((q.egress.get p).queue n).entries) :
    (q.flush p).resetReply = some { r with undone := r.undone.set p false } := by
  rw [Bqm.flush_resetReply, hr]
  exact congrArg some (if_pos (Egress.mem_references.2 h))

theorem Bqm.flush_unmarked {q : Bqm} {r : ResetReply} (hr : q.resetReply = some r)
    (h : ∀ n, n < 4 → r.buffer ∉ ((q.egress.get p).queue n).entries) : (q.flush p).resetReply = some r := by
  rw [Bqm.flush_resetReply, hr]
  refine congrArg some (if_neg fun k => ?_)
  obtain ⟨n, hn, hb⟩ := Egress.mem_references.1 k
  exact h n hn hb

/-- With the copy of one port done, the marked reply is done when that of the other is (R56). -/
theorem Bqm.replyDone_of_set {q : Bqm} {r : ResetReply}
    (h : q.resetReply = some { r with undone := r.undone.set p false }) :
    q.replyDone = !r.undone.get p.other := by
  unfold Bqm.replyDone
  rw [h]
  cases p
  · exact Bool.true_and _
  · exact Bool.and_true _

/-! ### The entry and the exit -/

/-- The conditions of R18 under which a LOOPUP run is timed. -/
theorem State.mayAutoloop_iff : s.mayAutoloop p = true ↔ (s.port p).mode = .normal ∧
    (s.bqm.egress.get p).config.autoloop = true ∧ s.cru.role = .inactive ∧ (s.port p).rx = .hunt := by
  simp only [State.mayAutoloop, Bool.and_eq_true, decide_eq_true_eq, and_assoc]

theorem LinePort.persisted_iff {u : LinePort} {c : LoopCode} : u.persisted c = true ↔
    ∃ r, u.persistence = some r ∧ r.code = c ∧ 500000 ≤ r.micros := by
  unfold LinePort.persisted
  cases u.persistence <;> simp

/-- An AUTOLOOP_ENTER that is due: the entry effects of R16, the log, and the marked reply (R18, R56). -/
theorem exec_autoloopEnter (hm : s.mayAutoloop p = true) (hp : (s.port p).persisted .loopup = true) :
    exec (.autoloopEnter p) s =
      .next ((s.enterRemote p).log (portEntry .autoloopEnter p)).settleReset :=
  congrArg _ (if_pos (by rw [hm, hp]; rfl))

/-- While a marked reply is not done nothing is settled (R56). -/
theorem State.settleReset_undone (h : s.bqm.replyDone = false) : s.settleReset = s := by
  unfold State.settleReset
  split
  · rfl
  · exact if_pos h

/-! ### The measure of a loop code -/

/-- What a bit time leaves of what a receiver has heard. -/
theorem State.clock_heard (s : State) (p : Port) :
    (s.clock.port p).persistence = (s.receiveBit p).1.persistence ∧
      (s.clock.port p).front = (s.receiveBit p).1.front := by
  have h : s.clock.port p = ((s.clockPort .A).clockPort .B).port p := by
    unfold State.clock State.port
    rw [(State.countMicro_keeps _).2.1]
    rfl
  rw [h]
  cases p
  · exact ⟨rfl, rfl⟩
  · exact ⟨rfl, rfl⟩

/-- A code violation heard in HUNT goes to the search as no bit (R1, R5). -/
theorem State.hear_huntViolation {x : Bool} (hr : (s.port p).rx = .hunt) (hs : (s.port p).front.silent < 999) :
    s.hear p (x, x) = s.huntBit p ((s.port p).front.signal false) none := by
  have hv : validBitTime (x, x) = false := by simp [validBitTime]
  have hsil : ((s.port p).front.signal false).silent ≠ 1000 := by
    simp only [Front.signal, Bool.false_eq_true, if_false]; omega
  simp only [State.hear, hv, hr, reduceCtorEq, if_false, hsil, LinePort.inFrame_hunt hr, Bool.false_eq_true]

theorem State.hear_huntBit {b : Bool} (hr : (s.port p).rx = .hunt) :
    s.hear p (b, !b) = s.huntBit p ((s.port p).front.signal true) (some b) := by
  have hv : validBitTime (b, !b) = true := by cases b <;> rfl
  have hsil : ((s.port p).front.signal true).silent ≠ 1000 := by simp [Front.signal]
  simp only [State.hear, hv, hr, reduceCtorEq, if_false, hsil, LinePort.inFrame_hunt hr, Bool.false_eq_true,
    if_true]

/-- A code violation stops the measure of a loop code (R5, R18). -/
theorem State.timeRun_violation (s : State) (p : Port) : s.timeRun p none = none := rfl

/-- The sixteenth bit of a LOOPUP pair is found as one. -/
theorem Front.search_loopup {x : Front} (h : x.bits = (lineBits [0xCC, 0xCC]).take 15) :
    x.search (some true) = .fill .loopup := by
  have hw : x.window true = lineBits (fillPair .loopup) := by
    rw [Front.window, h]
    decide
  change recognise (x.window true) = _
  rw [hw]
  decide

/-- The measure of a LOOPUP run is a pair of 16 bit times longer at the end of each pair (R18). -/
theorem State.timeRun_loopup {k : Nat} (hm : s.mayAutoloop p = true)
    (hb : (s.port p).front.bits = (lineBits [0xCC, 0xCC]).take 15)
    (hp : (s.port p).persistence = some { code := .loopup, micros := k }) :
    s.timeRun p (some true) = some { code := .loopup, micros := k + 16 } := by
  unfold State.timeRun
  rw [Front.search_loopup hb]
  refine (if_pos hm).trans ?_
  rw [LinePort.longer, hp]
  rfl

/-- A measure that comes to 500 ms is found as AUTOLOOP_ENTER (R18). -/
theorem State.searchEvent_loopup {k : Nat} (hm : s.mayAutoloop p = true)
    (hb : (s.port p).front.bits = (lineBits [0xCC, 0xCC]).take 15)
    (hp : (s.port p).persistence = some { code := .loopup, micros := k }) (hk : 500000 ≤ k + 16) :
    s.searchEvent p (some true) = some (.autoloopEnter p) := by
  unfold State.searchEvent
  rw [Front.search_loopup hb, State.timeRun_loopup hm hb hp]
  dsimp only
  rw [if_neg (Nat.not_lt.2 hk)]
  rfl

/-- Settles O11: the entry and the exit, the flush, the marked reply, and the measure of a loop code. -/
theorem automaticLoopback : Obligations.AutomaticLoopback := by
  refine ⟨fun p s hmode hauto hrole hrx hreset hrun => ?enter, fun q p n hn => ?flush, fun q p r hr => ?reply,
    fun p s hmode hrx hrun => ?exit, fun p s hq hmode hrx hs => ⟨fun hauto hrole hb hp hl => ?found,
    fun x hl => ?violation⟩⟩
  case enter =>
    rw [exec_autoloopEnter (State.mayAutoloop_iff.2 ⟨hmode, hauto, hrole, hrx⟩) (LinePort.persisted_iff.2 hrun)]
    rcases hreset with h | h
    · rw [State.settleReset_none (s := (s.enterRemote p).log (portEntry .autoloopEnter p)) h]
      rfl
    · rw [State.settleReset_undone (s := (s.enterRemote p).log (portEntry .autoloopEnter p)) h]
      rfl
  case flush => exact ⟨by rw [Bqm.flush_queue], by rw [Bqm.flush_queue]; rfl, q.flush_other p⟩
  case reply =>
    refine ⟨fun h => ?_, Bqm.flush_unmarked hr⟩
    exact ⟨Bqm.flush_marked hr h, Bqm.replyDone_of_set (Bqm.flush_marked hr h)⟩
  case exit =>
    exact congrArg _ ((if_pos ⟨hmode, hrx, LinePort.persisted_iff.2 hrun⟩).trans (s.exitRemote_eq p 1))
  case found =>
    have hm : s.mayAutoloop p = true := State.mayAutoloop_iff.2 ⟨hmode, hauto, hrole, hrx⟩
    have hline := LinePort.lineNow_of_head hl
    have hevent : (s.hear p (true, !true)).2 = some (.autoloopEnter p) :=
      (State.hear_hunt hrx).trans (State.searchEvent_loopup hm hb hp (by decide))
    obtain ⟨t, ht, hc⟩ := step_hears hq (.inl hmode) hline hevent
    have hclock : step s = .next s.clock := by simp only [step, hq]
    cases hclock.symm.trans ht
    refine ⟨_, ht, hc, ?_⟩
    rw [(s.clock_heard p).1, State.receiveBit_line (.inl hmode), hline, ← Bool.not_true, State.hear_huntBit hrx]
    exact State.timeRun_loopup hm hb hp
  case violation =>
    refine ⟨s.clock, by simp only [step, hq], ?_⟩
    obtain ⟨hpers, hfront⟩ := s.clock_heard p
    rw [hpers, hfront, State.receiveBit_line (.inl hmode), LinePort.lineNow_of_head hl,
      State.hear_huntViolation hrx hs]
    exact ⟨s.timeRun_violation p, rfl⟩

end Sys2Proof.Machine
end

section
/-! SUPPORT. RESET_PART, its marked REPLY, and the control reset that follows the last copy of it (R56, R178). -/

namespace Sys2Proof.Machine

variable {s t : State} {p : Port} {priority b c n : Nat} {f g : Frame}

/-! ### The outcome of a pending reset -/

theorem State.resetBarred_false : s.resetBarred = false ↔ s.cru.role ≠ .active ∨ s.standing = true := by
  unfold State.resetBarred
  cases s.standing <;> simp

theorem State.resetBarred_true (hr : s.cru.role = .active) (hs : s.standing = false) : s.resetBarred = true := by
  rw [State.resetBarred, hs, decide_eq_true hr]
  rfl

theorem State.resetBarred_congr (hc : t.cru = s.cru) (ht : t.tdu = s.tdu) : t.resetBarred = s.resetBarred := by
  simp only [State.resetBarred, State.standing, hc, ht]

theorem State.settleReset_resets {sender : Addr} (h : s.mgu.pendingReset = some sender)
    (hd : s.bqm.replyDone = true) (hb : s.resetBarred = false) : s.settleReset = s.controlReset sender := by
  simp only [State.settleReset, h, hd, hb, Bool.true_eq_false, Bool.false_eq_true, if_false]

theorem State.settleReset_abandons {sender : Addr} (h : s.mgu.pendingReset = some sender)
    (hd : s.bqm.replyDone = true) (hb : s.resetBarred = true) : s.settleReset = s.abandonReset := by
  simp only [State.settleReset, h, hd, hb, Bool.true_eq_false, if_false, if_true]

theorem State.controlReset_port (s : State) (sender : Addr) (p : Port) :
    (s.controlReset sender).port p = (s.port p).controlReset := Both.get_map ..

/-- A control reset empties every queue and clears its drop counter (R57). -/
theorem State.controlReset_queue (s : State) (sender : Addr) (p : Port) (n : Nat) :
    ((s.controlReset sender).bqm.egress.get p).queue n = EgressQueue.empty := by
  have he : (s.controlReset sender).bqm.egress.get p = (s.bqm.egress.get p).controlReset := Both.get_map ..
  rw [he, Egress.queue, Egress.controlReset, Tab.get_fill]
  split <;> rfl

/-- What a control reset keeps: the tables, the readings, the manager and the own address (R178). -/
theorem State.controlReset_tables (s : State) (sender : Addr) :
    (s.controlReset sender).tdu.live = s.tdu.live ∧ (s.controlReset sender).tdu.odometer = s.tdu.odometer ∧
      (s.controlReset sender).tdu.movingTime = s.tdu.movingTime ∧
      (s.controlReset sender).jcu.live = s.jcu.live ∧ (s.controlReset sender).fsw.classes = s.fsw.classes ∧
      (s.controlReset sender).bqm.maps = s.bqm.maps ∧ (s.controlReset sender).snu.patterns = s.snu.patterns ∧
      (s.controlReset sender).mgu.manager = s.mgu.manager ∧ (s.controlReset sender).own = s.own :=
  ⟨rfl, rfl, rfl, rfl, rfl, rfl, rfl, rfl, rfl⟩

/-! ### What an own frame leaves of the rest -/

theorem State.enqueue_cmn (s : State) (p : Port) (priority b : Nat) :
    (s.enqueue p priority b).cmn = if s.offerOutcome p priority = .tailDrop then s.cmn.count .buffer else s.cmn := by
  unfold State.enqueue
  cases h : s.offerOutcome p priority <;> simp [State.count]

/-- An offer that meets no full queue counts no BUFFER event (R46). -/
theorem State.offerAt_cmn {x : Both Bool} (h : ∀ p, x.get p = true → s.offerOutcome p priority ≠ .tailDrop) :
    (s.offerAt x priority b).cmn = s.cmn := by
  have hA : (s.offerAt ⟨x.a, false⟩ priority b).cmn = s.cmn := by
    rw [State.offerAt_onlyA]
    split
    · next ha => rw [State.enqueue_cmn, if_neg (h .A ha)]
    · rfl
  rw [State.offerAt_eq, State.offerAt_onlyB]
  split
  · next hb => rw [State.enqueue_cmn, State.offerAt_outcomeB, if_neg (h .B hb), hA]
  · exact hA

theorem State.offerAt_single (s : State) (p : Port) (priority b : Nat) :
    s.offerAt ((Both.same false).set p true) priority b = s.enqueue p priority b := by cases p <;> rfl

theorem State.enqueue_resetReply (s : State) (p : Port) (priority b : Nat) :
    (s.enqueue p priority b).bqm.resetReply = s.bqm.resetReply := by
  rw [State.enqueue_bqm]
  split <;> rfl

theorem State.offerAt_resetReply (s : State) (x : Both Bool) (priority b : Nat) :
    (s.offerAt x priority b).bqm.resetReply = s.bqm.resetReply := by
  unfold State.offerAt
  dsimp only
  cases x.a <;> cases x.b <;> simp [State.enqueue_resetReply]

theorem State.sendOwn_resetReply (s : State) (priority : Nat) (f : Frame) :
    (s.sendOwn priority f).bqm.resetReply = s.bqm.resetReply := by
  unfold State.sendOwn
  split
  · rfl
  · exact State.offerAt_resetReply ..

theorem State.sendOwn_maps (s : State) (priority : Nat) (f : Frame) :
    (s.sendOwn priority f).bqm.maps = s.bqm.maps := by
  unfold State.sendOwn
  split
  · rfl
  · exact State.offerAt_maps ..

theorem State.sendOwn_cmn_failed (h : s.bqm.firstFree = none) :
    (s.sendOwn priority f).cmn = s.cmn.count .buffer := by
  rw [State.sendOwn_failed h]
  rfl

theorem State.sendOwn_cmn_given (h : s.bqm.firstFree = some b) :
    (s.sendOwn priority f).cmn = ((s.drafted b f).offerAt (s.routes (addrOf f.dest)) priority b).cmn := by
  rw [State.sendOwn_given h]
  rfl

/-! ### RESET_PART accepted -/

/-- The part with RESET_PART taken and counted, the reset pending and its REPLY marked, before the REPLY is
sent (R56, R178). -/
def State.resetMarked (s : State) (f : Frame) : State :=
  { s with
    bqm := { s.bqm with ldq := s.bqm.ldq.tail, resetReply := s.markFor (addrOf f.src) }
    mgu := { s.mgu with pendingReset := some (addrOf f.src), executed := bump s.mgu.executed } }

/-- The octet 11 calls for RESET_PART (R183). -/
theorem resetPart_row (hp : f.payload = [11]) :
    rowOf f.payload = .resetPart ∧ knownCode f.payload = true ∧ lengthFits f.payload = true := by
  rw [hp]
  exact ⟨rfl, rfl, rfl⟩

/-- The refusal condition reads the role and the speed, which the taking of a frame leaves. -/
theorem State.resetBarred_takeHead (s : State) : s.takeHead.resetBarred = s.resetBarred :=
  State.resetBarred_congr rfl rfl

theorem exec_resetPart_accepted (h : s.Commanded b f) (hp : f.payload = [11]) (hb : s.resetBarred = false) :
    ∃ g : Frame, g.dest = f.src ∧ exec .resetPart s =
      .next ((((s.resetMarked f).sendOwn 3 g).consumed b).settleReset) := by
  obtain ⟨hhead, hnone, hsrc⟩ := h
  obtain ⟨hrow, hcode, hlength⟩ := resetPart_row hp
  have hobey : s.takeHead.obey f resetPart =
      (s.takeHead.onMgu fun u => { u with pendingReset := some (addrOf f.src) }, Answer.ok []) := by
    unfold State.obey
    rw [if_neg (by simpa using hsrc), if_neg (by simp [hcode]), if_neg (by simp [hlength])]
    exact if_neg (by simp [State.resetBarred_takeHead, hb])
  refine ⟨s.replyFrame f (Answer.ok []), rfl, congrArg Host.Outcome.next ?_⟩
  unfold State.control
  rw [hhead]
  dsimp only
  rw [if_neg (by simp [hnone, hrow]), hobey]
  congr 2
  unfold State.reply State.drawCode
  rw [hp]
  rfl

/-- The part with RESET_PART answered, before the pending reset is settled (log entry 13). -/
def State.resetReplied (s : State) (b : Nat) (f g : Frame) : State := ((s.resetMarked f).sendOwn 3 g).consumed b

theorem State.resetReplied_keeps (s : State) (b : Nat) (f g : Frame) :
    (s.resetReplied b f g).own = s.own ∧ (s.resetReplied b f g).fsw = s.fsw ∧
      (s.resetReplied b f g).cru = s.cru ∧ (s.resetReplied b f g).tdu = s.tdu ∧
      (s.resetReplied b f g).jcu = s.jcu ∧ (s.resetReplied b f g).snu = s.snu := by
  simp [State.resetReplied, State.consumed, State.resetMarked]

theorem State.resetReplied_mgu (s : State) (b : Nat) (f g : Frame) : (s.resetReplied b f g).mgu =
    { s.mgu with pendingReset := some (addrOf f.src), executed := bump s.mgu.executed } := by
  simp [State.resetReplied, State.consumed, State.resetMarked]

theorem State.resetReplied_resetReply (s : State) (b : Nat) (f g : Frame) :
    (s.resetReplied b f g).bqm.resetReply = s.markFor (addrOf f.src) :=
  State.sendOwn_resetReply ..

theorem State.resetReplied_maps (s : State) (b : Nat) (f g : Frame) :
    (s.resetReplied b f g).bqm.maps = s.bqm.maps :=
  State.sendOwn_maps ..

theorem State.resetReplied_barred (s : State) (b : Nat) (f g : Frame) :
    (s.resetReplied b f g).resetBarred = s.resetBarred := by
  obtain ⟨-, -, hcru, htdu, -, -⟩ := s.resetReplied_keeps b f g
  exact State.resetBarred_congr hcru htdu

/-- The marked REPLY names its buffer and the ports at which a copy of it is queued (R56). -/
theorem State.markFor_given {d : Addr} (h : s.bqm.firstFree = some c) : ∃ r : ResetReply,
    s.markFor d = some r ∧ r.buffer = c ∧ ∀ p, r.undone.get p = s.copied (s.routes d) 3 p := by
  unfold State.markFor
  rw [h]
  exact ⟨_, rfl, rfl, fun p => by cases p <;> rfl⟩

theorem State.markFor_none {d : Addr} (h : s.bqm.firstFree = none) : s.markFor d = none := by
  unfold State.markFor
  rw [h]
  rfl

/-- The marked reply is done when no port has a copy left (R56). -/
theorem Bqm.replyDone_iff {q : Bqm} :
    q.replyDone = true ↔ ∀ r, q.resetReply = some r → ∀ p, r.undone.get p = false := by
  unfold Bqm.replyDone
  cases q.resetReply with
  | none => simp
  | some r =>
    simp only [Bool.and_eq_true, Bool.not_eq_true', Option.some.injEq, forall_eq']
    exact ⟨fun ⟨ha, hb⟩ p => by cases p; exacts [ha, hb], fun h => ⟨h .A, h .B⟩⟩

/-! #### No copy queued -/

/-- A REPLY without a buffer, or dropped at every port it is routed to, is done at once (R56). -/
theorem State.resetReplied_done (h : s.bqm.firstFree = none ∨
      ∀ p, (s.routes (addrOf f.src)).get p = true → s.offerOutcome p 3 ≠ .queued) :
    (s.resetReplied b f g).bqm.replyDone = true := by
  refine Bqm.replyDone_iff.2 fun r hr p => ?_
  rw [State.resetReplied_resetReply] at hr
  cases hf : s.bqm.firstFree with
  | none =>
    rw [State.markFor_none hf] at hr
    cases hr
  | some c =>
    obtain ⟨r', hr', -, hundone⟩ := State.markFor_given (d := addrOf f.src) hf
    cases hr'.symm.trans hr
    rw [hundone, State.copied]
    cases hx : (s.routes (addrOf f.src)).get p with
    | false => rfl
    | true =>
      rw [hf] at h
      have hdrop := (h.resolve_left (Option.some_ne_none c)) p hx
      rw [Bool.true_and, decide_eq_false hdrop]

theorem State.resetReplied_cmn_failed (h : s.bqm.firstFree = none) :
    (s.resetReplied b f g).cmn = s.cmn.count .buffer :=
  State.sendOwn_cmn_failed (s := s.resetMarked f) h

section
variable (hg : g.dest = f.src) (hf : s.bqm.firstFree = some c)
include hg hf

theorem State.resetReplied_cmn_given : (s.resetReplied b f g).cmn =
    (((s.resetMarked f).drafted c g).offerAt (s.routes (addrOf f.src)) 3 c).cmn :=
  (State.sendOwn_cmn_given (s := s.resetMarked f) hf).trans (by rw [hg]; rfl)

theorem State.resetReplied_cmn_modeDrop
    (hdrop : ∀ p, (s.routes (addrOf f.src)).get p = true → s.offerOutcome p 3 = .modeDrop) :
    (s.resetReplied b f g).cmn = s.cmn := by
  rw [State.resetReplied_cmn_given hg hf]
  refine State.offerAt_cmn fun p hp => ?_
  have hout : ((s.resetMarked f).drafted c g).offerOutcome p 3 = s.offerOutcome p 3 :=
    State.offerOutcome_congr rfl rfl rfl
  rw [hout, hdrop p hp]
  decide

theorem State.resetReplied_cmn_tailDrop (hx : s.routes (addrOf f.src) = (Both.same false).set p true)
    (hdrop : s.offerOutcome p 3 = .tailDrop) : (s.resetReplied b f g).cmn = s.cmn.count .buffer := by
  have hout : ((s.resetMarked f).drafted c g).offerOutcome p 3 = s.offerOutcome p 3 :=
    State.offerOutcome_congr rfl rfl rfl
  rw [State.resetReplied_cmn_given hg hf, hx, State.offerAt_single, State.enqueue_cmn, if_pos (hout.trans hdrop)]
  rfl

end

/-! ### The end of the marked REPLY -/

/-- The transmission of the last copy makes the marked REPLY done (R56). -/
theorem State.completeFrame_marked {r : ResetReply} (hr : s.bqm.resetReply = some r) (hb : r.buffer = c)
    (ho : r.undone.get p.other = false) : (s.completeFrame p c).bqm.replyDone = true := by
  have h : (s.completeFrame p c).bqm.resetReply = some { r with undone := r.undone.set p false } := by
    rw [State.completeFrame_eq]
    dsimp only
    rw [hr]
    exact congrArg some (if_pos hb)
  rw [Bqm.replyDone_of_set h, ho]
  rfl

theorem exec_frameSent_settles (ht : (s.port p).tx = .sending c) : exec (.frameSent p) s =
    .next ((((s.completeFrame p c).settleReset).ask p).onPort p
      fun u => u.nextOutput (decide (u.tx ≠ .silent))) := by
  have hx : (s.port p).transmitting = some c := by simp only [LinePort.transmitting, ht]
  change execFrameSent p s = _
  unfold execFrameSent
  rw [hx]

theorem State.ask_resetReply (s : State) (p : Port) : (s.ask p).bqm.resetReply = s.bqm.resetReply := by
  unfold State.ask
  dsimp only
  (repeat' split) <;> rfl

/-- After a control reset a port whose transmitter sends no frame goes on with fill (R11, R20, R57). -/
theorem State.controlReset_asks {sender : Addr} : ((s.controlReset sender).ask p) =
    (s.controlReset sender).onPort p fun u => { u with tx := .fill } :=
  State.ask_fills (.inl ⟨.inl (by rw [State.controlReset_port]; rfl),
    fun n _ => by rw [State.controlReset_queue]; rfl⟩)

/-! ### The obligation -/

/-- Settles O55: the refusal, the reset at once, the reset that waits, and its end by a transmission or by a
flush. -/
theorem resetPartWaitsForItsReply : Obligations.ResetPartWaitsForItsReply := by
  refine ⟨fun s b f h hp hrole hstand => ?busy, fun s b f h hp hfree hnone => ?atOnce,
    fun s b c f h hp hfree hf hq => ?waits, fun s p c sender ht hpend hr hfree => ?sent,
    fun s p c sender ht hpend hr hrole hstand => ?abandoned,
    fun s p r sender hmode hauto hrole hrx hrun hpend hr ho hmem => ?flushed⟩
  case busy =>
    obtain ⟨hrow, hcode, hlength⟩ := resetPart_row hp
    have hrefused : resetPart s.takeHead f = (s.takeHead, Answer.refused reasonBusy 0) :=
      if_pos ((s.resetBarred_takeHead).trans (State.resetBarred_true hrole hstand))
    have hpend : s.takeHead.mgu.pendingReset = none := by
      obtain ⟨-, hnone, -⟩ := h
      exact hnone
    have hanswered := State.control_answered (act := resetPart) h hrow hcode hlength (by rw [hrefused]; exact hpend)
    rw [hrefused] at hanswered
    exact congrArg _ hanswered
  case atOnce =>
    obtain ⟨g, hg, hexec⟩ := exec_resetPart_accepted h hp (State.resetBarred_false.2 hfree)
    have hsettle : (s.resetReplied b f g).settleReset = (s.resetReplied b f g).controlReset (addrOf f.src) :=
      State.settleReset_resets (by rw [State.resetReplied_mgu]) (State.resetReplied_done hnone)
        ((s.resetReplied_barred b f g).trans (State.resetBarred_false.2 hfree))
    obtain ⟨hown, hfsw, -, htdu, hjcu, hsnu⟩ := s.resetReplied_keeps b f g
    have htables := (s.resetReplied b f g).controlReset_tables (addrOf f.src)
    rw [htdu, hjcu, hfsw, s.resetReplied_maps, hsnu, s.resetReplied_mgu, hown] at htables
    refine ⟨_, (s.resetReplied b f g).cmn, hexec.trans (congrArg _ hsettle), rfl, rfl, rfl, rfl, rfl, rfl,
      State.resetReplied_cmn_failed, fun hsome hdrop => ?_, fun hsome p hx hdrop => ?_, rfl, htables⟩
    · obtain ⟨c, hc⟩ := Option.isSome_iff_exists.1 hsome
      exact State.resetReplied_cmn_modeDrop hg hc hdrop
    · obtain ⟨c, hc⟩ := Option.isSome_iff_exists.1 hsome
      exact State.resetReplied_cmn_tailDrop hg hc hx hdrop
  case waits =>
    obtain ⟨g, hg, hexec⟩ := exec_resetPart_accepted h hp (State.resetBarred_false.2 hfree)
    obtain ⟨r, hr, hbuffer, hundone⟩ := State.markFor_given (d := addrOf f.src) hf
    have hreply : (s.resetReplied b f g).bqm.resetReply = some r := (s.resetReplied_resetReply b f g).trans hr
    have hwaits : (s.resetReplied b f g).bqm.replyDone = false := by
      obtain ⟨p, hx, hqueued⟩ := hq
      refine Bool.eq_false_iff.2 fun hdone => ?_
      have hp := Bqm.replyDone_iff.1 hdone r hreply p
      rw [hundone, State.copied, hx, decide_eq_true hqueued] at hp
      cases hp
    obtain ⟨-, hfsw, hcru, htdu, hjcu, -⟩ := s.resetReplied_keeps b f g
    have hmgu := s.resetReplied_mgu b f g
    exact ⟨_, r, hexec.trans (congrArg _ (State.settleReset_undone hwaits)), congrArg Mgu.pendingReset hmgu,
      congrArg Mgu.executed hmgu, hreply, hbuffer, hundone, hcru, htdu, hjcu, hfsw⟩
  case sent =>
    obtain ⟨r, hr, hbuffer, ho⟩ := hr
    have hsettle : (s.completeFrame p c).settleReset = (s.completeFrame p c).controlReset sender :=
      State.settleReset_resets hpend (State.completeFrame_marked hr hbuffer ho) (State.resetBarred_false.2 hfree)
    have hport := State.controlReset_port (s.completeFrame p c) sender p
    rw [State.completeFrame_port] at hport
    rw [exec_frameSent_settles ht, hsettle, State.controlReset_asks, State.onPort_onPort]
    refine ⟨_, rfl, rfl, rfl, ?_, ?_, ?_, fun n _ => ?_, rfl⟩
    · rw [State.port_onPort_same, hport]
      rfl
    · rw [State.port_onPort_same, hport]
      rfl
    · rw [State.port_onPort_same, hport]
      rfl
    · exact congrArg EgressQueue.entries (State.controlReset_queue (s.completeFrame p c) sender p n)
  case abandoned =>
    obtain ⟨r, hr, hbuffer, ho⟩ := hr
    have hsettle : (s.completeFrame p c).settleReset = (s.completeFrame p c).abandonReset :=
      State.settleReset_abandons hpend (State.completeFrame_marked hr hbuffer ho)
        (State.resetBarred_true hrole hstand)
    rw [exec_frameSent_settles ht, hsettle]
    have hmgu : ((s.completeFrame p c).abandonReset.ask p).mgu = (s.completeFrame p c).abandonReset.mgu := by simp
    refine ⟨_, rfl, congrArg Mgu.pendingReset hmgu, by simp, State.ask_resetReply _ p,
      congrArg Mgu.refused hmgu, by simp⟩
  case flushed =>
    have hmarked := Bqm.flush_marked (p := p) hr hmem
    have hdone : ((s.enterRemote p).log (portEntry .autoloopEnter p)).bqm.replyDone = true :=
      (Bqm.replyDone_of_set hmarked).trans (by rw [ho]; rfl)
    have hfree : ((s.enterRemote p).log (portEntry .autoloopEnter p)).resetBarred = false :=
      State.resetBarred_false.2 (.inl (by simp [hrole]))
    have hsettle := State.settleReset_resets (s := (s.enterRemote p).log (portEntry .autoloopEnter p)) hpend hdone
      hfree
    rw [exec_autoloopEnter (State.mayAutoloop_iff.2 ⟨hmode, hauto, hrole, hrx⟩) (LinePort.persisted_iff.2 hrun),
      hsettle]
    refine ⟨_, rfl, rfl, rfl, rfl, ?_, ?_, fun q n _ => State.controlReset_queue _ sender q n, rfl⟩
    · rw [State.controlReset_port]
      rfl
    · have hport : ((s.enterRemote p).log (portEntry .autoloopEnter p)).port p =
          { s.port p with mode := .remoteLoopback, returnList := [], persistence := none } :=
        Both.get_modify_same ..
      rw [State.controlReset_port, hport, LinePort.controlReset, hrx]

end Sys2Proof.Machine
end

section
/-! SUPPORT. A change of role as an equation, unit by unit: the announce it ends with, what ACTIVE gives up as it is
left, and the statements about the announce, clear and releasing timers (R58, R59, R66, R67, R69, R90). -/

namespace Sys2Proof.Machine

variable {s t : State}

/-! ### Own frames -/

/-- The sending of an own frame changes the buffers and the attributes alone (R43, R46). -/
theorem State.sendOwn_eq (s : State) (priority : Nat) (f : Frame) : s.sendOwn priority f =
    { s with bqm := (s.sendOwn priority f).bqm, cmn := (s.sendOwn priority f).cmn } := by
  obtain ⟨h1, h2, h3, h4, h5, h6, h7, h8, h9, h10, h11, h12, h13⟩ := s.sendOwn_keeps priority f
  rw [← h1, ← h2, ← h3, ← h4, ← h5, ← h6, ← h7, ← h8, ← h9, ← h10, ← h11, ← h12, ← h13]

/-- The seq of a unit behind a frame that it sends: it advances when a buffer is free (R43, R59, R145). -/
def Bqm.seqAfter (q : Bqm) (seq : Byte) : Byte := if q.firstFree.isSome then seq + 1 else seq

theorem State.SendsAlike.bqm (h : s.SendsAlike t) : s.bqm = t.bqm := by
  obtain ⟨-, -, hbqm, -⟩ := h
  exact hbqm

theorem State.SendsAlike.cmn (h : s.SendsAlike t) : s.cmn = t.cmn := by
  obtain ⟨-, -, -, hcmn⟩ := h
  exact hcmn

theorem State.SendsAlike.seqAfter (h : s.SendsAlike t) : s.bqm.seqAfter = t.bqm.seqAfter :=
  congrArg Bqm.seqAfter h.bqm

/-! ### The announce -/

/-- The octets of a CAB_ANNOUNCE with a profile live (R59, R182). -/
theorem State.announceFrame_profile {p : Profile} (r : Announced) (h : s.tdu.live = some p) :
    s.announceFrame r = ownFrame s.own 63 0x10 6 s.cru.seq
      (oct1 (match r with | .claiming => 3 | .active => 4 | .conflict => 6) ++
        octFlag (s.addressed && s.level .key) ++ octS2 p.vehicleNumber) := by
  simp only [State.announceFrame, announcePayload, h, Option.getD_some]
  rfl

/-- A role that announces sends its frame (R59). -/
theorem State.sendAnnounce_announced {r : Announced} (h : announcedRole s.cru.role = some r) :
    s.sendAnnounce = { s with
      bqm := (s.sendOwn 6 (s.announceFrame r)).bqm
      cmn := (s.sendOwn 6 (s.announceFrame r)).cmn
      cru := { s.cru with seq := s.bqm.seqAfter s.cru.seq } } := by
  have hsend := s.sendOwn_eq 6 (s.announceFrame r)
  unfold State.sendAnnounce
  rw [h, show priorityAnnounce = 6 from rfl]
  dsimp only
  rw [hsend, State.canSend, Bqm.seqAfter]
  split <;> rfl

/-- Settles O21: the timer is set again, which the frame does not read, and the frame is sent. -/
theorem announcesAreSent : Obligations.AnnouncesAreSent := by
  intro s r p htimer hrole hlive
  let u := s.onCru fun x => { x with announceTimer := some 100 }
  have hexec : exec .announceTimerExpiry s = .next u.sendAnnounce := congrArg _ (if_pos htimer)
  have hframe := State.announceFrame_profile (s := u) r hlive
  have hsame : u.SendsAlike s := ⟨rfl, rfl, rfl, rfl⟩
  rw [State.sendAnnounce_announced (s := u) hrole, (hsame.sendOwn _ _).bqm, (hsame.sendOwn _ _).cmn] at hexec
  exact ⟨_, hexec, rfl, rfl, _, rfl, by rw [hframe]; rfl, by rw [hframe]; rfl⟩

/-! ### ACTIVE left -/

/-- The state once the final STOP_INDICATE is sent, which a record in IDLE has none of (R147). -/
def State.finalIndicate (s : State) : State :=
  if s.sru.record.state = .idle then s
  else s.sendOwn 4 (ownFrame s.own 63 0x31 4 s.sru.seq
    ([0] ++ oct2 s.sru.record.doors.toNat ++ octFlag s.sru.record.accessible))

theorem State.finalIndicate_idle (h : s.sru.record.state = .idle) : s.finalIndicate = s := if_pos h

theorem State.finalIndicate_eq (s : State) :
    s.finalIndicate = { s with bqm := s.finalIndicate.bqm, cmn := s.finalIndicate.cmn } := by
  unfold State.finalIndicate
  split
  · rfl
  · exact s.sendOwn_eq ..

/-- The final STOP_INDICATE depends on the own address and the record, besides what every frame does. -/
theorem State.SendsAlike.finalIndicate (h : s.SendsAlike t) (ho : s.own = t.own) (hs : s.sru = t.sru) :
    s.finalIndicate.SendsAlike t.finalIndicate := by
  unfold State.finalIndicate
  rw [ho, hs]
  split
  · exact h
  · exact h.sendOwn ..

/-- The Stop Request Unit with ACTIVE left (R147). -/
def Sru.ended (u : Sru) (q : Bqm) : Sru :=
  { u.emptied with seq := if u.record.state = .idle then u.seq else q.seqAfter u.seq }

theorem State.stopEnd_eq (s : State) : s.stopEnd =
    { s with bqm := s.finalIndicate.bqm, cmn := s.finalIndicate.cmn, sru := s.sru.ended s.bqm } := by
  unfold State.stopEnd State.finalIndicate Sru.ended
  split
  · rfl
  · let u := s.onSru fun x => { x with record := { x.record with state := .inhibit } }
    have hsame : u.SendsAlike s := ⟨rfl, rfl, rfl, rfl⟩
    have hsend := u.sendOwn_eq 4 u.indicateFrame
    rw [(hsame.sendOwn _ _).bqm, (hsame.sendOwn _ _).cmn] at hsend
    have hindicate : u.indicate = if u.canSend then (u.sendOwn 4 u.indicateFrame).onSru fun x =>
      { x with seq := x.seq + 1 } else u.sendOwn 4 u.indicateFrame := rfl
    have hfree : u.canSend = s.bqm.firstFree.isSome := rfl
    change u.indicate.onSru Sru.emptied = _
    rw [hindicate, hsend, hfree, Bqm.seqAfter]
    split <;> rfl

/-- The Junction Unit with ACTIVE left (R138). -/
def Jcu.ended (u : Jcu) : Jcu :=
  { u with contexts := [], overflow := false, preselection := none, routeLamp := false }

/-- The Sound Unit without the junctions' requests (R136, R137). -/
def Snu.junctionsQuiet (u : Snu) : Snu := (u.setWarning false).setAlertJunction false

/-- The Loop Link Unit with ACTIVE left: listening ends, and a test is abandoned (R114, R116). -/
def Llu.ended (u : Llu) : Llu := { (if u.carrier then u.stopListening else u) with test := none }

theorem State.loopOff_eq (s : State) : s.loopOff = { s with llu := s.llu.ended } := rfl

/-- The Sound Unit with traction OFF entered (R90). -/
def Tdu.silence (u : Tdu) (x : Snu) : Snu := if u.state = .off then x else x.setEmergency false

theorem State.tractionOff_eq (s : State) :
    s.tractionOff = { s with tdu := s.tdu.stopped, snu := s.tdu.silence s.snu } := by
  unfold State.tractionOff Tdu.stopped Tdu.silence
  split <;> rfl

/-- What ACTIVE held is closed, all but the traction: the contexts, the stop record and listening (R69). -/
def State.commandClosed (s : State) : State :=
  { s with
    bqm := s.finalIndicate.bqm, cmn := s.finalIndicate.cmn
    jcu := s.jcu.ended, sru := s.sru.ended s.bqm, llu := s.llu.ended, snu := s.snu.junctionsQuiet }

theorem State.junctionEnd_stopEnd_loopOff (s : State) : s.junctionEnd.stopEnd.loopOff = s.commandClosed := by
  have hsame : s.junctionEnd.SendsAlike s := ⟨rfl, rfl, rfl, rfl⟩
  have hsent := hsame.finalIndicate rfl rfl
  rw [State.loopOff_eq, State.stopEnd_eq, hsent.bqm, hsent.cmn]
  rfl

/-- What is sent as ACTIVE is left does not read the Cab Role Unit. -/
theorem State.commandClosed_onCru (s : State) (g : Cru → Cru) :
    (s.onCru g).commandClosed = s.commandClosed.onCru g := by
  have hsame : (s.onCru g).SendsAlike s := ⟨rfl, rfl, rfl, rfl⟩
  have hsent := hsame.finalIndicate rfl rfl
  unfold State.commandClosed
  rw [hsent.bqm, hsent.cmn]
  rfl

/-- ACTIVE left for another role (R69, R90). -/
theorem State.departFrom_active (s : State) (new : Role) : s.departFrom .active new =
    if new = .conflict then { s.commandClosed with tdu := s.tdu.held }
    else { s.commandClosed with tdu := s.tdu.stopped, snu := s.tdu.silence s.commandClosed.snu } := by
  rw [← State.junctionEnd_stopEnd_loopOff]
  have htdu : s.junctionEnd.stopEnd.tdu = s.tdu := by simp
  simp only [State.departFrom]
  split
  · rw [State.tractionHold_eq, State.loopOff_eq, State.loopOff_eq, htdu]
  · rw [State.tractionOff_eq, State.loopOff_eq, State.loopOff_eq, htdu]

/-- The table's role taken in ACTIVE: nothing is announced (R58, R65, R66, R69, R90). -/
theorem State.roleByTable_active (h : s.cru.role = .active) : s.roleByTable =
    { s.commandClosed with
      cru := s.cru.enter s.cru.tableRole
      tdu := s.tdu.stopped
      snu := (s.tdu.silence s.commandClosed.snu).setAlertRole false } := by
  have hne : s.cru.tableRole ≠ .conflict := by
    rcases s.cru.tableRole_cases with h | h <;> rw [h] <;> decide
  rw [State.roleByTable_silent, h, State.departFrom_active, if_neg hne, State.commandClosed_onCru]
  rfl

/-- With the record in IDLE no STOP_INDICATE is sent (R147). -/
theorem State.commandClosed_idle (h : s.sru.record.state = .idle) :
    s.commandClosed.bqm = s.bqm ∧ s.commandClosed.cmn = s.cmn := by
  simp only [State.commandClosed, State.finalIndicate_idle h, and_self]

theorem Tdu.stopped_state (u : Tdu) : u.stopped.state = .off := by
  unfold Tdu.stopped
  split
  · assumption
  · rfl

/-- Releasing ends: the entry is logged, then the table's role is taken (R66). -/
theorem State.keyOffMoving_active (cause : Int) (h : s.cru.role = .active) :
    s.keyOffMoving cause =
      { (s.log { kind := .keyOffMoving, block := .cru, value := some cause }).commandClosed with
        cru := s.cru.enter s.cru.tableRole
        tdu := s.tdu.stopped
        snu := (s.tdu.silence s.commandClosed.snu).setAlertRole false } :=
  State.roleByTable_active (s := s.log { kind := .keyOffMoving, block := .cru, value := some cause }) h

/-! ### The clear timer and the releasing timer -/

/-- A claim made in BLOCKED: no unit but the role's is left, and the announce is sent (R67, R69). -/
theorem State.setRole_claiming_blocked (h : s.cru.role = .blocked) : s.setRole .claiming =
    ((s.onCru fun u => u.enter .claiming).onSnu fun u => u.setAlertRole false).sendAnnounce := by
  simp only [State.setRole, h, State.departFrom]
  rfl

/-- Settles O23: the claim by what it sends, the end of releasing by what ACTIVE gives up. -/
theorem blockedClaimsAndReleasingEnds : Obligations.BlockedClaimsAndReleasingEnds := by
  refine ⟨fun s p hrole htimer hlive => ?_, fun s hrole hrel htimer => ?_⟩
  · let u := (s.onCru fun x => x.enter .claiming).onSnu fun x => x.setAlertRole false
    have hexec : exec .clearTimerExpiry s = .next (s.setRole .claiming) := congrArg _ (if_pos ⟨hrole, htimer⟩)
    have hframe := State.announceFrame_profile (s := u) .claiming hlive
    have hsame : u.SendsAlike s := ⟨rfl, rfl, rfl, rfl⟩
    rw [State.setRole_claiming_blocked hrole, State.sendAnnounce_announced (s := u) (r := .claiming) rfl,
      (hsame.sendOwn _ _).bqm, (hsame.sendOwn _ _).cmn] at hexec
    exact ⟨_, hexec, rfl, by simp [u, Cru.enter, announcedRole, Role.alerts, Bqm.seqAfter], rfl, _, rfl,
      by rw [hframe]; rfl, by rw [hframe]; rfl⟩
  · have hexec : exec .releasingTimerExpiry s = .next (s.keyOffMoving 2) :=
      congrArg _ (if_pos ⟨hrole, hrel, htimer⟩)
    obtain ⟨-, -, hannounce, hlamp, -⟩ := s.cru.enter_tableRole
    rw [State.keyOffMoving_active 2 hrole] at hexec
    exact ⟨_, hexec, rfl, rfl, rfl, hannounce, hlamp, rfl, s.tdu.stopped_state, rfl, rfl, rfl, rfl,
      fun hidle => (State.commandClosed_idle (s := s.log _) hidle).2, rfl, rfl, rfl, rfl, rfl⟩

end Sys2Proof.Machine
end

section
/-! SUPPORT. The Cab Table after an announce and after a removal, the role that each decides, and the statements about
CAB_ANNOUNCE, CAB_ENTRY_TIMEOUT and CAB_LAMP_FLASH (R60, R61, R63 to R70). -/

namespace Sys2Proof.Machine

variable {s t : State} {u : Cru} {e x : CabEntry} {l : List CabEntry} {a : Addr} {r : Announced}

/-! ### The Cab Table -/

theorem mem_insertCab : e ∈ insertCab x l ↔ e = x ∨ e ∈ l := by
  induction l with
  | nil => simp [insertCab]
  | cons y l ih =>
    unfold insertCab
    split
    · simp
    · simp only [List.mem_cons, ih]
      exact or_left_comm

theorem length_insertCab (x : CabEntry) (l : List CabEntry) : (insertCab x l).length = l.length + 1 := by
  induction l with
  | nil => rfl
  | cons y l ih =>
    unfold insertCab
    split
    · rfl
    · rw [List.length_cons, ih, List.length_cons]

/-- A table in ascending order takes a cab with no entry at its place (R60). -/
theorem insertCab_ascends (h : (l.map fun e => e.cab.toNat).Pairwise (· < ·)) (hx : ∀ e ∈ l, e.cab ≠ x.cab) :
    ((insertCab x l).map fun e => e.cab.toNat).Pairwise (· < ·) := by
  induction l with
  | nil => simp [insertCab]
  | cons y l ih =>
    simp only [List.map_cons, List.pairwise_cons, List.forall_mem_map] at h
    obtain ⟨hy, hl⟩ := h
    have hyx : y.cab.toNat ≠ x.cab.toNat := fun h => hx y (by simp) (BitVec.eq_of_toNat_eq h)
    unfold insertCab
    split
    next hlt =>
      have hlt : x.cab.toNat < y.cab.toNat := hlt
      simp only [List.map_cons, List.pairwise_cons, List.forall_mem_cons, List.forall_mem_map]
      exact ⟨⟨hlt, fun e he => hlt.trans (hy e he)⟩, hy, hl⟩
    next hge =>
      have hge : ¬ x.cab.toNat < y.cab.toNat := hge
      simp only [List.map_cons, List.pairwise_cons, List.forall_mem_map, mem_insertCab]
      refine ⟨fun e he => ?_, ih hl fun e he => hx e (by simp [he])⟩
      rcases he with rfl | he
      · omega
      · exact hy e he

theorem Cru.holdsCab_iff : u.holdsCab a = true ↔ ∃ e ∈ u.cabs, e.cab = a := by
  simp [Cru.holdsCab]

theorem Cru.not_holdsCab_iff : u.holdsCab a = false ↔ ∀ e ∈ u.cabs, e.cab ≠ a := by
  simp [Cru.holdsCab]

/-- An announce from a cab with an entry takes that entry's place (R60). -/
theorem Cru.hear_held (h : u.holdsCab x.cab = true) :
    u.hear x = { u with cabs := u.cabs.map fun e => if e.cab = x.cab then x else e } :=
  if_pos h

/-- The table after an announce: the entry of the announce, and those of the other cabs as they were (R60). -/
theorem Cru.mem_hear : e ∈ (u.hear x).cabs ↔ e = x ∨ (e ∈ u.cabs ∧ e.cab ≠ x.cab) := by
  cases h : u.holdsCab x.cab with
  | true =>
    obtain ⟨y, hy, hyx⟩ := Cru.holdsCab_iff.1 h
    rw [Cru.hear_held h]
    simp only [List.mem_map]
    constructor
    · rintro ⟨z, hz, rfl⟩
      split
      · exact .inl rfl
      next hne => exact .inr ⟨hz, hne⟩
    · rintro (rfl | ⟨he, hne⟩)
      · exact ⟨y, hy, if_pos hyx⟩
      · exact ⟨e, he, if_neg hne⟩
  | false =>
    have hother := Cru.not_holdsCab_iff.1 h
    rw [Cru.hear_new h, mem_insertCab]
    exact or_congr_right ⟨fun he => ⟨he, hother e he⟩, And.left⟩

/-- The table keeps its law through an announce that it has an entry or a place for (section 4.3, R60). -/
theorem Cru.hear_tableLaw (h : u.TableLaw) (hplace : u.holdsCab x.cab = true ∨ u.cabs.length < 4) :
    (u.hear x).TableLaw := by
  obtain ⟨hlen, hasc⟩ := h
  cases hheld : u.holdsCab x.cab with
  | true =>
    have hcabs : (u.cabs.map fun e => if e.cab = x.cab then x else e).map (fun e => e.cab.toNat) =
        u.cabs.map fun e => e.cab.toNat := by
      rw [List.map_map]
      refine List.map_congr_left fun e _ => ?_
      simp only [Function.comp_apply]
      split
      next he => rw [he]
      · rfl
    rw [Cru.hear_held hheld, Cru.TableLaw, List.length_map, hcabs]
    exact ⟨hlen, hasc⟩
  | false =>
    have hlt : u.cabs.length < 4 := hplace.resolve_left (by simp [hheld])
    rw [Cru.hear_new hheld, Cru.TableLaw, length_insertCab]
    exact ⟨hlt, insertCab_ascends hasc (Cru.not_holdsCab_iff.1 hheld)⟩

/-! ### The role rules -/

/-- Where the role follows the table, it is the table's role (R63). -/
theorem State.followTable_role (s : State) : s.followTable.cru.role = s.cru.tableRole := by
  unfold State.followTable
  split
  · assumption
  · exact s.setRole_role _

theorem State.followTable_cabs (s : State) : s.followTable.cru.cabs = s.cru.cabs := by
  unfold State.followTable
  split
  · rfl
  · exact s.setRole_cabs _

theorem State.followConflict_role (h : s.cru.role = .conflict) :
    s.followConflict.cru.role = if s.cru.hearsCommand then .conflict else .active := by
  unfold State.followConflict
  split
  · exact h
  · exact s.setRole_role _

theorem State.followConflict_cabs (s : State) : s.followConflict.cru.cabs = s.cru.cabs := by
  unfold State.followConflict
  split
  · rfl
  · exact s.setRole_cabs _

theorem State.meetCommand_role (s : State) (a : Addr) :
    (s.meetCommand a).cru.role = if s.cru.releasing then s.cru.tableRole else .conflict := by
  unfold State.meetCommand
  split
  · exact State.setRole_role _ _
  · exact State.setRole_role _ _

theorem State.meetCommand_cabs (s : State) (a : Addr) : (s.meetCommand a).cru.cabs = s.cru.cabs := by
  unfold State.meetCommand
  split
  · exact State.setRole_cabs _ _
  · exact State.setRole_cabs _ _

/-- The role after an announce, with the table already written (R63 to R68). -/
theorem State.roleOnAnnounce_role (s : State) (a : Addr) (r : Announced) :
    (s.roleOnAnnounce a r).cru.role = match s.cru.role with
      | .inactive => s.cru.tableRole
      | .passive => s.cru.tableRole
      | .claiming => if r ≠ .claiming ∨ a < s.own then .blocked else .claiming
      | .active => if r = .claiming then .active
        else if s.cru.releasing then s.cru.tableRole else .conflict
      | .blocked => .blocked
      | .conflict => if s.cru.hearsCommand then .conflict else .active := by
  cases h : s.cru.role <;> simp only [State.roleOnAnnounce, h]
  case inactive => exact s.followTable_role
  case passive => exact s.followTable_role
  case claiming =>
    split
    · exact s.setRole_role _
    · exact h
  case active =>
    split
    · exact h
    · exact s.meetCommand_role a
  case blocked => exact h
  case conflict => exact State.followConflict_role h

/-- The role rule leaves the table as it is written. -/
theorem State.roleOnAnnounce_cabs (s : State) (a : Addr) (r : Announced) :
    (s.roleOnAnnounce a r).cru.cabs = s.cru.cabs := by
  cases h : s.cru.role <;> simp only [State.roleOnAnnounce, h]
  case inactive => exact s.followTable_cabs
  case passive => exact s.followTable_cabs
  case claiming =>
    split
    · exact s.setRole_cabs _
    · rfl
  case active =>
    split
    · rfl
    · exact s.meetCommand_cabs a
  case blocked => rfl
  case conflict => exact s.followConflict_cabs

/-- What the roles read of the unit is read of its table alone. -/
theorem Cru.hears_of_cabs {u v : Cru} (h : u.cabs = v.cabs) :
    u.tableRole = v.tableRole ∧ u.hearsCommand = v.hearsCommand :=
  ⟨by unfold Cru.tableRole Cru.hearsActive; rw [h], by unfold Cru.hearsCommand; rw [h]⟩

theorem Cru.tableLaw_of_cabs {u v : Cru} (h : u.cabs = v.cabs) (hv : v.TableLaw) : u.TableLaw := by
  unfold Cru.TableLaw
  rw [h]
  exact hv

/-! ### An entry removed -/

theorem State.roleOnRemoval_cabs (s : State) : s.roleOnRemoval.cru.cabs = s.cru.cabs := by
  cases h : s.cru.role <;> simp only [State.roleOnRemoval, h]
  case passive => exact s.followTable_cabs
  case blocked => rfl
  case conflict => exact s.followConflict_cabs

/-- The clear timer runs exactly while no other is in command (R67). -/
theorem Cru.followClear_isSome (u : Cru) :
    u.followClear.clearTimer.isSome = true ↔ u.hearsCommand = false := by
  unfold Cru.followClear
  split <;> simp_all

/-- The unit with the entry of a cab removed (R61). -/
def State.withoutCab (s : State) (a : Addr) : State :=
  s.onCru fun u => { u with cabs := u.cabs.filter fun e => e.cab != a }

/-- An expiry of an entry that has no time left (R61). -/
theorem exec_cabEntryTimeout (h : ∃ e ∈ s.cru.cabs, e.cab = a ∧ e.left = 0) :
    exec (.cabEntryTimeout a) s = .next (s.withoutCab a).roleOnRemoval := by
  have hdue : s.cru.cabDue a = true := by simpa [Cru.cabDue] using h
  exact congrArg _ (if_pos hdue)

/-- Settles O24: the removal leaves the role alone, or the role follows the table that it leaves. -/
theorem cabEntriesTimeOut : Obligations.CabEntriesTimeOut := by
  refine ⟨fun a s hdue hrole => ?_, fun a s hdue => ?_, fun s htimer => congrArg _ (if_pos htimer)⟩
  · have hstay : (s.withoutCab a).roleOnRemoval = s.withoutCab a := by
      rcases hrole with h | h | h <;> simp only [State.roleOnRemoval, State.withoutCab, State.onCru_cru, h]
    rw [exec_cabEntryTimeout hdue, hstay]
    rfl
  · have hcabs := (s.withoutCab a).roleOnRemoval_cabs
    obtain ⟨htable, hhears⟩ := Cru.hears_of_cabs hcabs
    refine ⟨_, exec_cabEntryTimeout hdue, hcabs, fun h => ?_, fun h => ?_, fun h => ?_⟩
    all_goals have hrole : (s.withoutCab a).cru.role = _ := h
    · rw [htable]
      simpa only [State.roleOnRemoval, hrole] using (s.withoutCab a).followTable_role
    · rw [hhears]
      simp only [State.roleOnRemoval, hrole]
      exact ⟨hrole, (s.withoutCab a).cru.followClear_isSome⟩
    · rw [hhears]
      simpa only [State.roleOnRemoval, hrole] using State.followConflict_role hrole

end Sys2Proof.Machine
end

section
/-! SUPPORT. The statement about CAB_ANNOUNCE: what ROLE_CONFLICT does beside the role (R60, R63 to R69, R90; log
entries 11, 25, 40). -/

namespace Sys2Proof.Machine

variable {s v : State} {b : Nat} {f : Frame} {a : Addr} {r : Announced} {p : Profile}

/-- An announce that the table has an entry or a place for is written with the part time, and the role judged
(R60). -/
theorem State.takeAnnounce_placed (hr : announceRole f.payload = some r)
    (hplace : s.cru.holdsCab (addrOf f.src) = true ∨ s.cru.cabs.length < 4) :
    s.takeAnnounce f = (s.onCru fun u =>
      u.hear { cab := addrOf f.src, role := r, time := s.cmn.partTime, left := 500 }).roleOnAnnounce
        (addrOf f.src) r := by
  have hroom : ¬ (s.cru.holdsCab (addrOf f.src) = false ∧ 4 ≤ s.cru.cabs.length) := by
    rintro ⟨hnew, hfull⟩
    rcases hplace with h | h
    · rw [hnew] at h
      exact absurd h (by decide)
    · omega
  unfold State.takeAnnounce
  rw [hr]
  exact if_neg hroom

theorem Cru.hear_eq (u : Cru) (e : CabEntry) : u.hear e = { u with cabs := (u.hear e).cabs } := by
  unfold Cru.hear
  split <;> rfl

/-- The table with the announce at the head of the Local Dispatch Queue taken and written. -/
def State.heard (s : State) (a : Addr) (r : Announced) : State :=
  s.takeHead.onCru fun u => u.hear { cab := a, role := r, time := s.cmn.partTime, left := 500 }

theorem State.heard_cru (s : State) (a : Addr) (r : Announced) :
    (s.heard a r).cru = { s.cru with cabs := (s.heard a r).cru.cabs } := Cru.hear_eq ..

/-- A CAB_ANNOUNCE with an entry or a place in the table (R60). -/
theorem exec_takeCabAnnounce (hf : s.headOfKind kindCabAnnounce = some (b, f))
    (hr : announceRole f.payload = some r)
    (hplace : s.cru.holdsCab (addrOf f.src) = true ∨ s.cru.cabs.length < 4) :
    exec .takeCabAnnounce s =
      .next (((s.heard (addrOf f.src) r).roleOnAnnounce (addrOf f.src) r).consumed b) :=
  congrArg _ ((State.consume_head hf).trans
    (congrArg (State.consumed · b) (State.takeAnnounce_placed (s := s.takeHead) hr hplace)))

/-- The announce heard, with ROLE_CONFLICT in the log (R65, R66). -/
def State.conflictLogged (s : State) (a : Addr) (r : Announced) : State :=
  (s.heard a r).log { kind := .roleConflict, block := .cru, node := some a }

/-- An ACTIVE cab that hears another in command logs it, and goes to CONFLICT or ends its releasing (R65, R66). -/
theorem State.roleOnAnnounce_active (hrole : s.cru.role = .active) (hr : r ≠ .claiming) :
    (s.heard a r).roleOnAnnounce a r = if s.cru.releasing then (s.conflictLogged a r).roleByTable
      else (s.conflictLogged a r).setRole .conflict := by
  have hactive : (s.heard a r).cru.role = .active := by rw [State.heard_cru]; exact hrole
  have hreleasing : (s.heard a r).cru.releasing = s.cru.releasing := by rw [State.heard_cru]
  simp only [State.roleOnAnnounce, hactive, if_neg hr, State.meetCommand, hreleasing]
  rfl

theorem Tdu.held_live (u : Tdu) : u.held.live = u.live := by
  unfold Tdu.held
  split <;> rfl

/-- CONFLICT entered from ACTIVE: what ACTIVE held is closed, RUN goes to HOLD, and the announce is sent last of all
(R65, R69, R90; log entry 11). -/
theorem State.setRole_conflict_active (h : s.cru.role = .active) (hlive : s.tdu.live = some p) :
    s.setRole .conflict = { s.commandClosed with
      bqm := (s.commandClosed.sendOwn 6 (ownFrame s.own 63 0x10 6 s.cru.seq
        ([6] ++ octFlag (s.addressed && s.level .key) ++ octS2 p.vehicleNumber))).bqm
      cmn := (s.commandClosed.sendOwn 6 (ownFrame s.own 63 0x10 6 s.cru.seq
        ([6] ++ octFlag (s.addressed && s.level .key) ++ octS2 p.vehicleNumber))).cmn
      cru := { s.cru.enter .conflict with seq := s.commandClosed.bqm.seqAfter s.cru.seq }
      tdu := s.tdu.held
      snu := s.commandClosed.snu.setAlertRole true } := by
  let u := { s.commandClosed with
    cru := s.cru.enter .conflict, tdu := s.tdu.held, snu := s.commandClosed.snu.setAlertRole true }
  have hset : s.setRole .conflict = u.sendAnnounce := by
    simp only [State.setRole, h, State.departFrom_active, State.commandClosed_onCru]
    rfl
  have hframe := State.announceFrame_profile (s := u) (p := p) .conflict ((s.tdu.held_live).trans hlive)
  have hsame : u.SendsAlike s.commandClosed := ⟨rfl, rfl, rfl, rfl⟩
  rw [hset, State.sendAnnounce_announced (s := u) (r := .conflict) rfl, (hsame.sendOwn _ _).bqm,
    (hsame.sendOwn _ _).cmn, hframe]
  rfl

theorem Cru.enter_conflict (u : Cru) : u.enter .conflict = { u with
    role := .conflict, releasing := false, releasingTimer := none, announceTimer := some 100, claimWindow := none
    clearTimer := none, pendingKeyOn := false, lamp := true, flashTimer := some 500 } := by
  simp [Cru.enter, announcedRole, Role.alerts]

/-- The Cab Role Unit in the table's role: every timer stopped, the lamp dark, a pending key-on left (R58). -/
theorem Cru.enter_table (u : Cru) : u.enter u.tableRole = { u with
    role := u.tableRole, releasing := false, releasingTimer := none, announceTimer := none, claimWindow := none
    clearTimer := none, lamp := false, flashTimer := none } := by
  rcases u.tableRole_cases with h | h <;> simp [Cru.enter, h, announcedRole, Role.alerts]

/-- The two units that ACTIVE left closes, as R147 and R114 have them. -/
theorem Sru.ended_eq (u : Sru) (q : Bqm) : u.ended q = { u with
    record := { state := .idle, doors := 0, accessible := false, firstPress := none, presses := 0 }
    inhibitTimer := none, refreshTimer := none, lamp := false
    seq := if u.record.state ≠ .idle ∧ q.firstFree.isSome then u.seq + 1 else u.seq } := by
  unfold Sru.ended Sru.emptied Bqm.seqAfter
  by_cases h : u.record.state = .idle <;> simp [h, StopRecord.empty]

theorem Llu.ended_silent {u : Llu} (h : u.carrier = false) : u.ended = { u with test := none } := by
  unfold Llu.ended
  rw [if_neg (by rw [h]; decide)]

theorem Llu.ended_listening {u : Llu} (h : u.carrier = true) : u.ended = { u.stopListening with test := none } := by
  unfold Llu.ended
  rw [if_pos h]

/-- The frame that follows the close of ACTIVE is sent behind the final STOP_INDICATE (R147). -/
theorem State.commandClosed_sendsAlike (s : State) : s.commandClosed.SendsAlike s.finalIndicate := by
  rw [s.finalIndicate_eq]
  exact ⟨rfl, rfl, rfl, rfl⟩

theorem State.SendsAlike.trans {t u : State} (h : s.SendsAlike t) (k : t.SendsAlike u) : s.SendsAlike u := by
  obtain ⟨hports, hfsw, hbqm, hcmn⟩ := h
  obtain ⟨kports, kfsw, kbqm, kcmn⟩ := k
  exact ⟨hports.trans kports, hfsw.trans kfsw, hbqm.trans kbqm, hcmn.trans kcmn⟩

/-- What the conflict sends first: the final STOP_INDICATE, with the announce taken from the Local Dispatch Queue
and ROLE_CONFLICT in the log (R65, R147). -/
theorem State.conflictLogged_sendsAlike (s : State) (a : Addr) (r : Announced) :
    (s.conflictLogged a r).commandClosed.SendsAlike ({ s with
      bqm := { s.bqm with ldq := s.bqm.ldq.tail }
      cmn := s.cmn.note { kind := .roleConflict, block := .cru, node := some a } } : State).finalIndicate :=
  (State.commandClosed_sendsAlike _).trans (State.SendsAlike.finalIndicate ⟨rfl, rfl, rfl, rfl⟩ rfl rfl)

/-- Settles O17: an announce in ACTIVE by what closes ACTIVE and, not releasing, by the entry into CONFLICT; every
announce by the table it is written to and the role rule. -/
theorem cabAnnounceDecidesTheRole : Obligations.CabAnnounceDecidesTheRole := by
  refine ⟨fun s v b f x p hf hx hne hplace hrole hlive hv => ?_, fun s b f r hf hr hlaw hplace => ?_⟩
  · have hexec := exec_takeCabAnnounce hf hx hplace
    have hsame : (s.conflictLogged (addrOf f.src) x).commandClosed.SendsAlike v :=
      hv ▸ s.conflictLogged_sendsAlike (addrOf f.src) x
    have hcru : (s.conflictLogged (addrOf f.src) x).cru =
        { s.cru with cabs := (s.heard (addrOf f.src) x).cru.cabs } := s.heard_cru (addrOf f.src) x
    have hactive : (s.conflictLogged (addrOf f.src) x).cru.role = .active := by rw [hcru]; exact hrole
    rw [State.roleOnAnnounce_active hrole hne] at hexec
    cases hrel : s.cru.releasing with
    | false =>
      rw [hrel, if_neg (by decide), State.setRole_conflict_active hactive hlive, Cru.enter_conflict, hcru,
        hsame.seqAfter, (hsame.sendOwn _ _).bqm, (hsame.sendOwn _ _).cmn] at hexec
      exact ⟨_, hexec, rfl, rfl, Sru.ended_eq _ _, Llu.ended_silent, Llu.ended_listening,
        fun _ => ⟨rfl, rfl, rfl, _, rfl, rfl, rfl⟩, fun h => absurd h (by decide)⟩
    | true =>
      rw [hrel, if_pos rfl, State.roleByTable_active hactive, Cru.enter_table, hcru] at hexec
      exact ⟨_, hexec, rfl, rfl, Sru.ended_eq _ _, Llu.ended_silent, Llu.ended_listening,
        fun h => absurd h (by decide), fun _ hon => ⟨rfl, if_neg hon,
          congrArg (Snu.setAlertRole · false) (if_neg hon), congrArg (Bqm.release · b) hsame.bqm, hsame.cmn⟩⟩
  · have hexec := exec_takeCabAnnounce hf hr hplace
    have hcru := s.heard_cru (addrOf f.src) r
    have hcabs := (s.heard (addrOf f.src) r).roleOnAnnounce_cabs (addrOf f.src) r
    have hrole := (s.heard (addrOf f.src) r).roleOnAnnounce_role (addrOf f.src) r
    obtain ⟨htable, hhears⟩ := Cru.hears_of_cabs hcabs
    obtain ⟨hbefore, hreleasing⟩ : (s.heard (addrOf f.src) r).cru.role = s.cru.role ∧
        (s.heard (addrOf f.src) r).cru.releasing = s.cru.releasing := by rw [hcru]; exact ⟨rfl, rfl⟩
    have hkept : (s.cru.hear { cab := addrOf f.src, role := r, time := s.cmn.partTime, left := 500 }).TableLaw :=
      Cru.hear_tableLaw hlaw hplace
    rw [hbefore, hreleasing, ← htable, ← hhears] at hrole
    refine ⟨_, hexec, fun e => Iff.trans (Iff.of_eq (congrArg (e ∈ ·) hcabs)) Cru.mem_hear,
      Cru.tableLaw_of_cabs hcabs hkept, hrole⟩

end Sys2Proof.Machine
end

section
/-! SUPPORT. The staged tables: what a write of ROUTE or PROFILE leaves in the shadow, what a commit judges and makes
live, and the statement about them (R62, R93, R94, R120, R121, R171, R172; log entries 13, 29). -/

namespace Sys2Proof.Machine

variable {s u : State} {b : Nat} {f : Frame} {row : Instr} {act : Act} {a : Answer}

/-- A command with its row whose action leaves the Management Unit alone is acted on and answered (R170). -/
theorem State.control_acts (h : s.Commanded b f) (hr : rowOf f.payload = row) (hk : knownCode f.payload = true)
    (hl : lengthFits f.payload = true) (hact : act s.takeHead f = (u, a)) (hu : u.mgu = s.mgu) :
    s.control row act = u.answered b f a := by
  rw [State.control_answered h hr hk hl, hact]
  rw [hact, hu]
  exact h.2.1

/-! ### Fields -/

/-- An optional field of two octets, absent with all ones (R181). -/
theorem takeOpt_pair (lo hi : Nat) (x y : Byte) : takeOpt 0xFFFF lo hi (x.toNat + 256 * y.toNat) =
    { value := if x = 255 ∧ y = 255 then none else some (clampNat lo hi (x.toNat + 256 * y.toNat))
      clamps := if x = 255 ∧ y = 255 then 0 else offRange lo hi (x.toNat + 256 * y.toNat) } := by
  have hones (z : Byte) : z = 255 ↔ z.toNat = 255 := by rw [← BitVec.toNat_inj]; rfl
  have habsent : x.toNat + 256 * y.toNat = 0xFFFF ↔ x = 255 ∧ y = 255 := by
    rw [hones, hones]
    have := x.isLt
    have := y.isLt
    omega
  unfold takeOpt
  by_cases h : x = 255 ∧ y = 255
  · rw [if_pos (habsent.2 h), if_pos h, if_pos h]
  · rw [if_neg fun k => h (habsent.1 k), if_neg h, if_neg h]

/-- An optional field of one octet, absent with all ones (R181). -/
theorem takeOpt_single (lo hi : Nat) (x : Byte) : takeOpt 0xFF lo hi x.toNat =
    { value := if x = 255 then none else some (clampNat lo hi x.toNat)
      clamps := if x = 255 then 0 else offRange lo hi x.toNat } := by
  have habsent : x.toNat = 0xFF ↔ x = 255 := by rw [← BitVec.toNat_inj]; rfl
  unfold takeOpt
  by_cases h : x = 255
  · rw [if_pos (habsent.2 h), if_pos h, if_pos h]
  · rw [if_neg fun k => h (habsent.1 k), if_neg h, if_neg h]

/-- The signed number in two octets (R181). -/
theorem numS2_pair (x y : Byte) : numS2 [x, y] 0 = (y ++ x).toInt := by
  have hnum : num2 [x, y] 0 = x.toNat + 256 * y.toNat := rfl
  have hword : BitVec.ofNat 16 (x.toNat + 256 * y.toNat) = y ++ x := by
    refine BitVec.eq_of_toNat_eq ?_
    have hx := x.isLt
    have hy := y.isLt
    rw [BitVec.toNat_append, ← Nat.shiftLeft_add_eq_or_of_lt hx, BitVec.toNat_ofNat, Nat.shiftLeft_eq]
    omega
  rw [numS2, hnum, hword]

theorem clampInt_eq {lo hi : Int} (h : lo ≤ hi) (n : Int) : clampInt lo hi n = max lo (min hi n) := by
  unfold clampInt
  split
  · omega
  · split <;> omega

theorem profileRange_ordered (i : Nat) : (profileRange i).1 ≤ (profileRange i).2 := by
  unfold profileRange
  split <;> decide

/-- Field `i` of a profile set is field `i` of its list set (R93). -/
theorem Profile.fields_setField (p : Profile) {i : Nat} (v : Int) (h1 : 1 ≤ i) (h19 : i ≤ 19) :
    (p.setField i v).fields = p.fields.set (i - 1) v := by
  interval_cases i <;> rfl

/-! ### Writes -/

/-- The entry of a route as its eight octets give it (R120, R183). -/
theorem parseRoute_octets {d : Byte} {dir : Direction} (k : Nat) (j0 j1 a0 a1 c0 c1 l : Byte)
    (h : directionOf d.toNat = some dir) : parseRoute k [j0, j1, d, a0, a1, c0, c1, l] = some
      { value :=
          { junction := clampNat 1 4095 (j0.toNat + 256 * j1.toNat), direction := dir
            straightCap := if a0 = 255 ∧ a1 = 255 then none
              else some (clampNat 0 1000 (a0.toNat + 256 * a1.toNat))
            divergingCap := if c0 = 255 ∧ c1 = 255 then none
              else some (clampNat 0 1000 (c0.toNat + 256 * c1.toNat))
            junctionLength := if l = 255 then none else some (clampNat 5 200 l.toNat) }
        clamps := offRange 1 4095 (j0.toNat + 256 * j1.toNat) +
          (if a0 = 255 ∧ a1 = 255 then 0 else offRange 0 1000 (a0.toNat + 256 * a1.toNat)) +
          (if c0 = 255 ∧ c1 = 255 then 0 else offRange 0 1000 (c0.toNat + 256 * c1.toNat)) +
          if l = 255 then 0 else offRange 5 200 l.toNat } := by
  have hd : directionOf (num1 [j0, j1, d, a0, a1, c0, c1, l] 2) = some dir := h
  have ha : takeOpt 0xFFFF 0 1000 (num2 [j0, j1, d, a0, a1, c0, c1, l] 3) = _ := takeOpt_pair 0 1000 a0 a1
  have hc : takeOpt 0xFFFF 0 1000 (num2 [j0, j1, d, a0, a1, c0, c1, l] 5) = _ := takeOpt_pair 0 1000 c0 c1
  have hl : takeOpt 0xFF 5 200 (num1 [j0, j1, d, a0, a1, c0, c1, l] 7) = _ := takeOpt_single 5 200 l
  simp only [parseRoute, hd, ha, hc, hl, Option.map_some]
  rfl

/-- A WRITE_TABLE of the ROUTE header, at index 0 (R120, R171). -/
theorem State.writeRoute_header {l : List Byte} {x : Taken RouteHeader} (s : State) (hlen : l.length = 13)
    (hx : parseHeader 0 l = some x) :
    s.writeRoute (2 :: 7 :: 0 :: 0 :: l) = (putHeader s 0 x.value, Answer.clamped x.clamps []) := by
  have hindex : num2 (2 :: 7 :: 0 :: 0 :: l) 2 = 0 := rfl
  have hdrop : (2 :: 7 :: 0 :: 0 :: l).drop 4 = l := rfl
  rw [State.writeRoute, if_pos hindex, hdrop, if_neg (not_not_intro hlen), hx]
  rfl

/-- A WRITE_TABLE of one ROUTE entry, with an index of two octets (R120, R171). -/
theorem State.writeRoute_entry {i0 i1 : Byte} {l : List Byte} {x : Taken RouteEntry} (s : State)
    (hlen : l.length = 8) (h1 : 1 ≤ i0.toNat + 256 * i1.toNat) (h256 : i0.toNat + 256 * i1.toNat ≤ 256)
    (hx : parseRoute (i0.toNat + 256 * i1.toNat) l = some x) :
    s.writeRoute (2 :: 7 :: i0 :: i1 :: l) =
      (putRoute s (i0.toNat + 256 * i1.toNat) x.value, Answer.clamped x.clamps []) := by
  have hindex : num2 (2 :: 7 :: i0 :: i1 :: l) 2 = i0.toNat + 256 * i1.toNat := rfl
  have hdrop : (2 :: 7 :: i0 :: i1 :: l).drop 4 = l := rfl
  have hinside : firstOutside 1 256 (i0.toNat + 256 * i1.toNat) 1 = none := by
    unfold firstOutside
    rw [if_neg (by omega), if_neg (by omega)]
  have hchunk : chunk 8 l 0 = l := by rw [chunk, Nat.zero_mul, List.drop_zero, ← hlen, List.take_length]
  unfold State.writeRoute State.writeEntries
  simp only [hindex, hdrop, hlen, if_neg (show ¬ i0.toNat + 256 * i1.toNat = 0 by omega), Nat.reduceAdd,
    Nat.add_one_sub_one, Nat.reduceDiv, hinside, List.range_one, List.map_singleton, Nat.add_zero, hchunk, hx]
  rfl

/-! ### Commits -/

/-- Junctions that rise strictly have no first entry that fails (R121). -/
theorem firstFall_none {l : List RouteEntry} (i : Nat) (h : (l.map fun e => e.junction).Pairwise (· < ·)) :
    firstFall i l = none := by
  induction l generalizing i with
  | nil => rfl
  | cons x l ih =>
    cases l with
    | nil => rfl
    | cons y l =>
      rw [List.map_cons, List.pairwise_cons] at h
      obtain ⟨hx, hl⟩ := h
      have hxy : ¬ y.junction ≤ x.junction := Nat.not_le.2 (hx _ (by simp))
      rw [firstFall, if_neg hxy, ih _ hl]

/-- The first entry that fails, where those before it rise (R121). -/
theorem firstFall_some {l : List RouteEntry} (i k : Nat) (hk : k + 1 < l.length)
    (hup : ((l.take (k + 1)).map fun e => e.junction).Pairwise (· < ·))
    (hfall : (l.map fun e => e.junction).getD (k + 1) 0 ≤ (l.map fun e => e.junction).getD k 0) :
    firstFall i l = some (i + k + 1) := by
  induction k generalizing i l with
  | zero =>
    obtain _ | ⟨x, _ | ⟨y, l⟩⟩ := l
    · simp at hk
    · simp at hk
    · exact if_pos hfall
  | succ k ih =>
    obtain _ | ⟨x, _ | ⟨y, l⟩⟩ := l
    · simp at hk
    · simp at hk
    · simp only [List.take_succ_cons, List.map_cons, List.pairwise_cons] at hup
      obtain ⟨hx, hrest⟩ := hup
      have hxy : ¬ y.junction ≤ x.junction := Nat.not_le.2 (hx _ (by simp))
      have hlater := ih (l := y :: l) (i + 1) (by simpa using hk) (by simpa using hrest) hfall
      rw [firstFall, if_neg hxy, hlater]
      congr 1
      omega

/-- The route that a commit makes live, where its junctions rise strictly (R121). -/
theorem commitRoute_rising (h : ((s.jcu.shadow.data.take s.jcu.shadowHeader.count).map
      fun e => e.junction).Pairwise (· < ·)) :
    commitRoute s f = (s.onJcu fun u => { u with
      live := some { header := u.shadowHeader, entries := s.jcu.shadow.data.take s.jcu.shadowHeader.count } },
      Answer.ok []) := by
  simp only [commitRoute, firstFall_none 1 h]

theorem commitRoute_falling {i : Nat}
    (h : firstFall 1 (s.jcu.shadow.data.take s.jcu.shadowHeader.count) = some i) :
    commitRoute s f = (s, Answer.refused reasonInvalid i) := by
  simp only [commitRoute, h]

/-- A calibration that rises (R93, R94). -/
def Profile.Rises (p : Profile) : Prop := p.hb < p.hn1 ∧ p.hn1 ≤ p.hn2 ∧ p.hn2 < p.hp

theorem commitProfile_sound (h : s.tdu.shadow.Rises) (hj : s.tdu.shadow.jerk ≤ s.tdu.shadow.rateLimit) :
    commitProfile s f = (if s.cru.pendingKeyOn then (s.onTdu fun u => { u with live := some u.shadow }).takeKeyOn
      else s.onTdu fun u => { u with live := some u.shadow }, Answer.ok []) := by
  unfold commitProfile
  exact (if_neg (not_not_intro h)).trans (if_neg (not_not_intro hj))

theorem commitProfile_falling (h : ¬ s.tdu.shadow.Rises) :
    commitProfile s f = (s, Answer.refused reasonInvalid 1) := if_pos h

theorem commitProfile_jerky (h : s.tdu.shadow.Rises) (hj : s.tdu.shadow.rateLimit < s.tdu.shadow.jerk) :
    commitProfile s f = (s, Answer.refused reasonInvalid 2) :=
  (if_neg (not_not_intro h)).trans (if_pos (Int.not_le.2 hj))

theorem State.takeKeyOn_eq (s : State) : s.takeKeyOn = s.setRole s.cru.keyOnRole := by
  unfold State.takeKeyOn Cru.keyOnRole
  split <;> rfl

/-- A change of role leaves the live profile (R90, R94). -/
theorem Tdu.follow_live (u : Tdu) (old new : Role) (estop : Bool) : (u.follow old new estop).live = u.live := by
  have hstopped (u : Tdu) : u.stopped.live = u.live := by unfold Tdu.stopped; split <;> rfl
  have hfreed (u : Tdu) : u.freed.live = u.live := by unfold Tdu.freed; split <;> rfl
  have hstarted (u : Tdu) : (u.started estop).live = u.live := by
    unfold Tdu.started
    split
    · rfl
    · split <;> rfl
  unfold Tdu.follow
  dsimp only
  cases old <;> split <;> simp [hstopped, hfreed, hstarted, Tdu.held_live, apply_ite Tdu.live]

theorem State.answered_keeps (s : State) (b : Nat) (f : Frame) (a : Answer) :
    (s.answered b f a).tdu = s.tdu ∧ (s.answered b f a).cru = s.cru := by
  simp [State.answered]

/-- Settles O52: each write by the entry its octets give, each commit by the judgement of its shadow. -/
theorem stagedTablesAreCommitted : Obligations.StagedTablesAreCommitted := by
  refine ⟨?header, ?entry, ?field, ?route, ?profile⟩
  case header =>
    intro s b f r0 r1 l0 l1 u0 u1 a0 a1 c0 c1 j n0 n1 h hp
    have hact := State.writeRoute_header s.takeHead
      (l := [r0, r1, l0, l1, u0, u1, a0, a1, c0, c1, j, n0, n1]) rfl rfl
    rw [← hp] at hact
    exact congrArg _ (State.control_acts (act := fun t g => t.writeRoute g.payload) h (by rw [hp]; rfl)
      (by rw [hp]; rfl) (by rw [hp]; rfl) hact rfl)
  case entry =>
    intro s b f i0 i1 j0 j1 d a0 a1 c0 c1 l i dir h hp hi h1 h256 hd
    subst hi
    have hact := State.writeRoute_entry s.takeHead rfl h1 h256 (parseRoute_octets _ j0 j1 a0 a1 c0 c1 l hd)
    rw [← hp] at hact
    exact congrArg _ (State.control_acts (act := fun t g => t.writeRoute g.payload) h (by rw [hp]; rfl)
      (by rw [hp]; rfl) (by rw [hp]; rfl) hact rfl)
  case field =>
    intro s b f i x y v h hp h1 h19 hv
    have hfield : parseField i.toNat [x, y] = some
        { value := max (profileRange i.toNat).1 (min (profileRange i.toNat).2 v)
          clamps := if (profileRange i.toNat).1 ≤ v ∧ v ≤ (profileRange i.toNat).2 then 0 else 1 } := by
      rw [parseField, numS2_pair, ← hv, clampInt_eq (profileRange_ordered _)]
    have hex := exec_write_one .writeProfile h hp hfield rfl rfl rfl (by decide) ⟨h1, h19⟩ fun _ _ _ => rfl
    exact ⟨_, hex, rfl, Profile.fields_setField _ _ h1 h19⟩
  case route =>
    intro s b f l h hp hl
    subst hl
    have hcontrol (u : State) (a : Answer) (hact : commitRoute s.takeHead f = (u, a)) (hu : u.mgu = s.mgu) :
        exec .commitRoute s = .next (u.answered b f a) :=
      congrArg _ (State.control_acts h (by rw [hp]; rfl) (by rw [hp]; rfl) (by rw [hp]; rfl) hact hu)
    refine ⟨fun hrise => hcontrol _ _ (commitRoute_rising (s := s.takeHead) hrise) rfl,
      fun k hk hup hfall => ?_⟩
    have hfirst := firstFall_some 1 k hk hup hfall
    rw [show 1 + k + 1 = k + 2 by omega] at hfirst
    exact hcontrol _ _ (commitRoute_falling (s := s.takeHead) hfirst) rfl
  case profile =>
    intro s b f p h hp hshadow
    subst hshadow
    have hcontrol (u : State) (a : Answer) (hact : commitProfile s.takeHead f = (u, a)) (hu : u.mgu = s.mgu) :
        exec .commitProfile s = .next (u.answered b f a) :=
      congrArg _ (State.control_acts h (by rw [hp]; rfl) (by rw [hp]; rfl) (by rw [hp]; rfl) hact hu)
    refine ⟨fun hrise hjerk hpend => ?_, fun hrise hjerk hpend => ?_,
      fun hfall => hcontrol _ _ (commitProfile_falling (s := s.takeHead) hfall) rfl,
      fun hrise hjerk => hcontrol _ _ (commitProfile_jerky (s := s.takeHead) hrise hjerk) rfl⟩
    all_goals
      have hact := commitProfile_sound (s := s.takeHead) (f := f) hrise hjerk
      have hpend : s.takeHead.cru.pendingKeyOn = _ := hpend
      rw [hpend] at hact
    · exact hcontrol _ _ hact rfl
    · let u := s.takeHead.onTdu fun u => { u with live := some u.shadow }
      have hact : commitProfile s.takeHead f = (u.setRole s.cru.keyOnRole, Answer.ok []) :=
        hact.trans (congrArg (·, Answer.ok []) u.takeKeyOn_eq)
      obtain ⟨-, -, -, hmgu, -⟩ := u.setRole_keeps s.cru.keyOnRole
      obtain ⟨htdu, hcru⟩ := (u.setRole s.cru.keyOnRole).answered_keeps b f (Answer.ok [])
      obtain ⟨n, hrole⟩ := u.setRole_cru s.cru.keyOnRole
      obtain ⟨hpending, -⟩ := s.cru.enter_keyOnRole
      refine ⟨_, hcontrol _ _ hact hmgu, ?_, ?_, ?_⟩
      · rw [htdu, State.setRole_tdu, Tdu.follow_live]
        rfl
      · rw [hcru, hrole]
        exact hpending
      · rw [hcru, hrole]
        rfl

end Sys2Proof.Machine
end

section
/-! SUPPORT. The closures of a demand period (R133, R134), the cap (R99, R124), and the stages as functions of what they
are given (R97, R99 to R101). -/

namespace Sys2Proof.Machine

variable {s t r : State} {closed : Ctx → Option (Option LogInfo)} {l : List Ctx} {x : Ctx}

/-! ### Closures -/

/-- No context of the list with the junction is closed. -/
def spared (closed : Ctx → Option (Option LogInfo)) (l : List Ctx) (j : Nat) : Bool :=
  l.all fun x => (closed x).isNone || x.junction != j

theorem spared_append (l l' : List Ctx) (j : Nat) :
    spared closed (l ++ l') j = (spared closed l j && spared closed l' j) :=
  List.all_append

theorem spared_single_kept (h : closed x = none) (j : Nat) : spared closed [x] j = true := by
  simp [spared, h]

theorem spared_single_closed {e : Option LogInfo} (h : closed x = some e) (j : Nat) :
    spared closed [x] j = (j != x.junction) := by
  simp [spared, h, bne_comm]

/-- The log with the entry of a context's closure, if it is closed and has one (R134). -/
def logClosure (closed : Ctx → Option (Option LogInfo)) (c : Cmn) (x : Ctx) : Cmn :=
  match closed x with
  | some (some e) => c.note e
  | _ => c

/-- `r` is `t` with the closed contexts of `l` gone from the list, their requests withdrawn, and the overflow flag
cleared where there are any (R134). -/
structure State.ClosedOver (t r : State) (closed : Ctx → Option (Option LogInfo)) (l : List Ctx) : Prop where
  frame : r = { t with jcu := r.jcu, llu := r.llu, snu := r.snu, cmn := r.cmn }
  contexts : r.jcu.contexts = t.jcu.contexts.filter fun y => spared closed l y.junction
  overflow : r.jcu.overflow = (t.jcu.overflow && l.all fun x => (closed x).isNone)
  preselection : r.jcu.preselection = t.jcu.preselection
  lastIdent : r.jcu.lastIdent = t.jcu.lastIdent
  llu : r.llu = { t.llu with queue := t.llu.queue.filter fun q => spared closed l q.junction }
  cmn : r.cmn = l.foldl (logClosure closed) t.cmn

theorem State.ClosedOver.trans {l' : List Ctx} {u : State} (h : t.ClosedOver r closed l)
    (k : r.ClosedOver u closed l') : t.ClosedOver u closed (l ++ l') where
  frame := by rw [k.frame, h.frame]
  contexts := by
    rw [k.contexts, h.contexts, List.filter_filter]
    simp only [spared_append, Bool.and_comm]
  overflow := by rw [k.overflow, h.overflow, List.all_append, Bool.and_assoc]
  preselection := k.preselection.trans h.preselection
  lastIdent := k.lastIdent.trans h.lastIdent
  llu := by
    rw [k.llu, h.llu, List.filter_filter]
    simp only [spared_append, Bool.and_comm]
  cmn := by rw [k.cmn, h.cmn, List.foldl_append]

/-- One context judged: it stands, or it is closed (R133, R134). -/
theorem State.judgeClosure_closedOver (h : closed x = x.closure t.tdu.odometer t.tdu.movingTime) :
    t.ClosedOver (t.judgeClosure x) closed [x] := by
  unfold State.judgeClosure
  rw [← h]
  cases hx : closed x with
  | none => constructor <;> simp [spared_single_kept hx, logClosure, hx]
  | some e => cases e <;> constructor <;>
      simp [spared_single_closed hx, logClosure, hx, State.closeCtx, State.judgeJunctions, State.log, State.onJcu,
        State.onLlu, State.onSnu, State.onCmn, Llu.withdraw]

/-- The contexts of a list judged one after another, by the readings as they stand (R133, R134). -/
theorem State.foldl_judgeClosure (l : List Ctx) (t : State)
    (h : ∀ x, closed x = x.closure t.tdu.odometer t.tdu.movingTime) :
    t.ClosedOver (l.foldl State.judgeClosure t) closed l := by
  induction l generalizing t with
  | nil => constructor <;> simp [spared]
  | cons x l ih =>
    have hfirst := State.judgeClosure_closedOver (h x)
    have htdu : (t.judgeClosure x).tdu = t.tdu := by simp
    exact hfirst.trans (ih (t.judgeClosure x) fun y => by rw [htdu]; exact h y)

/-- With no two contexts of one junction, a context is spared where it is not itself closed (R123). -/
theorem spared_self (h : (l.map fun x => x.junction).Nodup) (hx : x ∈ l) :
    spared closed l x.junction = (closed x).isNone := by
  rw [Bool.eq_iff_iff, spared, List.all_eq_true]
  constructor
  · intro hall
    simpa using hall x hx
  · intro hnone y hy
    by_cases hj : y.junction = x.junction
    · rw [List.inj_on_of_nodup_map h hy hx hj, hnone, Bool.true_or]
    · simp [hj]

/-- The closures of a period at known speed (R133, R134). -/
theorem State.judgeClosures_known (hknown : s.tdu.facts.v.isSome = true) :
    s.ClosedOver s.judgeClosures (fun x => x.closure s.tdu.odometer s.tdu.movingTime) s.jcu.contexts := by
  have hfold : s.judgeClosures = s.jcu.contexts.foldl State.judgeClosure s := if_pos hknown
  rw [hfold]
  exact State.foldl_judgeClosure _ _ fun _ => rfl

theorem State.judgeClosures_unknown (h : s.tdu.facts.v = none) : s.judgeClosures = s :=
  if_neg (by rw [State.speedKnown, h]; decide)

/-- What closes a PASSED context: its distance or its time since the clear (R133). -/
theorem Ctx.cleared_iff (x : Ctx) (odo moving : Word) : x.cleared odo moving = true ↔
    (∃ o l, x.odoCleared = some o ∧ x.trainLength = some l ∧ l * 1000 ≤ (odo - o).toNat) ∨
      ∃ m, x.movingCleared = some m ∧ 120000 ≤ (moving - m).toNat := by
  change _ ↔ (∃ o l, _ ∧ _ ∧ l * 1000 ≤ elapsed odo o) ∨ ∃ m, _ ∧ 120000 ≤ elapsed moving m
  unfold Ctx.cleared
  cases x.odoCleared <;> cases x.trainLength <;> cases x.movingCleared <;> simp

theorem Ctx.closure_passed (h : x.state = .passed) (odo moving : Word) :
    x.closure odo moving = if x.cleared odo moving then some none else none := if_pos h

/-! ### The cap -/

/-- The least of a value and the members of a list (R99). -/
theorem foldl_min_least (m : Int) (l : List Int) :
    l.foldl min m ≤ m ∧ (∀ k ∈ l, l.foldl min m ≤ k) ∧ (l.foldl min m = m ∨ l.foldl min m ∈ l) := by
  induction l generalizing m with
  | nil => simp
  | cons k l ih =>
    obtain ⟨hle, hall, hone⟩ := ih (min m k)
    rw [List.foldl_cons, List.forall_mem_cons, List.mem_cons]
    refine ⟨by omega, ⟨by omega, hall⟩, ?_⟩
    rcases hone with h | h
    · omega
    · exact .inr (.inr h)

theorem State.capC_eq (s : State) (m : Int) :
    s.capC m = ((s.jcu.caps s.degraded).map (Nat.cast : Nat → Int)).foldl min m := by
  unfold State.capC
  rw [bind_pure_comp]
  rfl

theorem Jcu.mem_caps {u : Jcu} {degraded : Bool} {k : Nat} : k ∈ u.caps degraded ↔
    (∃ x ∈ u.contexts, x.cap degraded = k) ∨ (u.overflow = true ∧ k = u.unconfirmedSpeed) := by
  unfold Jcu.caps
  cases u.overflow <;> simp

/-- C is the least of the top speed and the caps of the junctions, and one of them (R99). -/
theorem State.capC_least (s : State) (m : Int) :
    s.capC m ≤ m ∧ (∀ x ∈ s.jcu.contexts, s.capC m ≤ (x.cap s.degraded : Int)) ∧
      (s.jcu.overflow = true → s.capC m ≤ (s.jcu.unconfirmedSpeed : Int)) ∧
      (s.capC m = m ∨ (∃ x ∈ s.jcu.contexts, s.capC m = (x.cap s.degraded : Int)) ∨
        (s.jcu.overflow = true ∧ s.capC m = (s.jcu.unconfirmedSpeed : Int))) := by
  obtain ⟨hle, hall, hone⟩ := foldl_min_least m ((s.jcu.caps s.degraded).map (Nat.cast : Nat → Int))
  rw [← State.capC_eq] at hle hall hone
  rw [List.forall_mem_map] at hall
  refine ⟨hle, fun x hx => hall _ (Jcu.mem_caps.2 (.inl ⟨x, hx, rfl⟩)),
    fun ho => hall _ (Jcu.mem_caps.2 (.inr ⟨ho, rfl⟩)), hone.imp_right fun hmem => ?_⟩
  obtain ⟨k, hk, hc⟩ := List.mem_map.1 hmem
  rcases Jcu.mem_caps.1 hk with ⟨x, hx, rfl⟩ | ⟨ho, rfl⟩
  · exact .inl ⟨x, hx, hc.symm⟩
  · exact .inr ⟨ho, hc.symm⟩

/-! ### The stages -/

theorem Work.powerCut_above {w : Work} (h : 0 < w.d) : w.powerCut = { w with d := 0, r := 0, cut := true } := if_pos h

theorem Work.powerCut_below {w : Work} (h : w.d ≤ 0) : w.powerCut = w := if_neg (by omega)

theorem stageState_run (p : Profile) (dh : Int) (w : Work) : stageState p false dh w = { w with dt := dh } := rfl

theorem stageState_hold (p : Profile) (dh : Int) (w : Work) :
    stageState p true dh w = ({ w with dt := p.holdBrake } : Work).powerCut := rfl

/-- Stage 4 at or above the cap (R99). -/
theorem stageCapKnown_above {p : Profile} {c v : Int} {w : Work} (h : c ≤ v) :
    stageCapKnown p c v w = { ({ w with dt := min w.dt 0 } : Work).powerCut with
      dt := if c + p.overspeedMargin ≤ v then min (min w.dt 0) p.overspeedBrake else min w.dt 0 } := by
  have hdt : ({ w with dt := min w.dt 0 } : Work).powerCut.dt = min w.dt 0 := by
    unfold Work.powerCut
    split <;> rfl
  unfold stageCapKnown
  rw [if_pos h]
  dsimp only
  by_cases hover : c + p.overspeedMargin ≤ v
  · rw [if_pos hover, if_pos hover, hdt]
  · rw [if_neg hover, if_neg hover]
    generalize ({ w with dt := min w.dt 0 } : Work).powerCut = y at hdt ⊢
    rw [← hdt]

/-- Stage 4 below the cap and within the taper band, with power asked (R99). -/
theorem stageCapKnown_taper {p : Profile} {c v : Int} {w : Work} (h : v < c) (hdt : 0 < w.dt)
    (hband : c - p.taperBand < v) :
    stageCapKnown p c v w = { w with dt := (w.dt * (c - v)).tdiv p.taperBand } := by
  rw [stageCapKnown, if_neg (by omega), if_pos ⟨hdt, hband⟩]

/-- Stage 4 elsewhere below the cap (R99). -/
theorem stageCapKnown_free {p : Profile} {c v : Int} {w : Work} (h : v < c)
    (hfree : w.dt ≤ 0 ∨ v ≤ c - p.taperBand) : stageCapKnown p c v w = w := by
  rw [stageCapKnown, if_neg (by omega), if_neg (by omega)]

/-- Stage 4 at unknown speed (R100). -/
theorem stageCap_unknown (p : Profile) (c : Int) (tripped : Bool) (w : Work) : stageCap p c none tripped w =
    { w with dt := if c = 0 then min (min w.dt p.blindLimit) 0 else min w.dt p.blindLimit } := by
  unfold stageCap
  dsimp only
  split <;> rfl

end Sys2Proof.Machine
end

section
/-! SUPPORT. A demand period in RUN or HOLD, from its opening to the dead-man check and the finding for releasing, and
the statement about it (R66, R77, R95 to R103). -/

namespace Sys2Proof.Machine

variable {s u v : State} {p : Profile} {h : Nat}

/-! ### The opening -/

/-- The state in which the stages of a demand period begin: the timer running again, the speed facts found, and the
contexts closed that the readings close (R95). -/
def State.opened (s : State) : State :=
  ((s.onTdu fun x => { x with periodTimer := some 20 }).findSpeed).judgeClosures

/-- The readings leave the drive as it is (R85, R86). -/
theorem Tdu.advance_keeps (u : Tdu) : u.advance.state = u.state ∧ u.advance.periodTimer = u.periodTimer ∧
    u.advance.grace = u.grace ∧ u.advance.live = u.live := by
  unfold Tdu.advance
  split <;> exact ⟨rfl, rfl, rfl, rfl⟩

theorem State.findSpeed_tdu (s : State) :
    ∃ g : SpeedFacts, s.findSpeed.tdu = Tdu.advance { s.tdu with facts := g } := by
  refine ⟨findFacts (s.tdu.readySpeeds s.cmn.partTime) s.tdu.periodD, ?_⟩
  unfold State.findSpeed
  dsimp only
  split <;> rfl

theorem State.opened_tdu (s : State) : s.opened.tdu.state = s.tdu.state ∧ s.opened.tdu.periodTimer = some 20 ∧
    s.opened.tdu.grace = s.tdu.grace ∧ s.opened.tdu.live = s.tdu.live := by
  obtain ⟨g, hfound⟩ := (s.onTdu fun x => { x with periodTimer := some 20 }).findSpeed_tdu
  have htdu : s.opened.tdu = (s.onTdu fun x => { x with periodTimer := some 20 }).findSpeed.tdu := by
    simp [State.opened]
  rw [htdu, hfound]
  exact Tdu.advance_keeps _

theorem State.opened_keeps (s : State) :
    s.opened.cru = s.cru ∧ s.opened.ciu = s.ciu ∧ s.opened.sru = s.sru := by
  simp [State.opened]

/-! ### The stages and the frame -/

theorem State.emitDemand_tdu (s : State) (d c : Int) (g : DemandFlags) :
    ∃ n, (s.emitDemand d g c).tdu = { s.tdu with seq := n } := by
  unfold State.emitDemand
  dsimp only
  split
  · exact ⟨s.tdu.seq + 1, by simp⟩
  · exact ⟨s.tdu.seq, by simp⟩

theorem State.slipOnset_eq (s : State) (slip : Bool) : s.slipOnset slip =
    { s with cmn := if slip = true ∧ s.tdu.slip = false then s.cmn.count .adhesion else s.cmn } := by
  unfold State.slipOnset
  split <;> rfl

/-- The stages of a period drive it (R95 to R103). -/
theorem State.drivePeriod_drives (u : State) (p : Profile) (h : Nat) :
    u.Drives p h (u.drivePeriod p (handleTarget p u.ciu.fault h) (u.capC p.maxSpeed)) := by
  refine ⟨_, _, _, _, _, _, _, _, rfl, rfl, rfl, rfl, rfl, rfl, rfl, rfl, ?_⟩
  unfold State.drivePeriod
  dsimp only
  rw [State.slipOnset_eq]
  rfl

/-- The drive behind the stages: D is the demand of the period, and what the stages do not touch stands (R95). -/
theorem State.drivePeriod_tdu (u : State) (p : Profile) (dh c : Int) :
    (u.drivePeriod p dh c).tdu.state = u.tdu.state ∧ (u.drivePeriod p dh c).tdu.periodTimer = u.tdu.periodTimer ∧
    (u.drivePeriod p dh c).tdu.grace = u.tdu.grace ∧ (u.drivePeriod p dh c).tdu.live = u.tdu.live ∧
    (u.drivePeriod p dh c).tdu.facts = u.tdu.facts ∧
    (u.drivePeriod p dh c).tdu.periodD = (u.drivePeriod p dh c).tdu.d := by
  unfold State.drivePeriod
  dsimp only
  generalize hw : State.onTdu _ _ = w
  obtain ⟨n, htdu⟩ := w.emitDemand_tdu _ _ _
  rw [htdu, ← hw, State.slipOnset_eq]
  exact ⟨rfl, rfl, rfl, rfl, rfl, rfl⟩

theorem State.computeDemand_drives (hstate : u.tdu.state = .run ∨ u.tdu.state = .hold) (hh : u.ciu.handle = some h) :
    u.computeDemand p = u.drivePeriod p (handleTarget p u.ciu.fault h) (u.capC p.maxSpeed) := by
  have hne : u.tdu.state ≠ .emergency := by rcases hstate with hs | hs <;> rw [hs] <;> decide
  have hdraw : u.drawHandle = u := if_neg (by rw [hh]; simp)
  have hleave (dh : Int) : u.leaveEmergency dh = u := if_neg fun k => hne k.1
  have hread : u.readHandle = (h : Int) := by rw [State.readHandle, hh]
  unfold State.computeDemand
  dsimp only
  rw [hdraw, hleave, if_neg hne, hread]

/-! ### Behind the stages -/

/-- The dead-man check, with a profile live (R77). -/
theorem State.deadmanCheck_profile (hdrive : v.tdu.driving = true) (hlive : v.tdu.live = some p)
    (hd : v.tdu.periodD = v.tdu.d) : v.deadmanCheck =
      if v.level .deadman = false ∧ v.tdu.grace = none ∧ (0 < v.tdu.d ∨ v.standing = false) then
        { v with tdu := { v.tdu with grace := some (p.deadmanGrace * 100).toNat } }
      else v := by
  have hstart : v.onTdu Tdu.startGrace =
      { v with tdu := { v.tdu with grace := some (p.deadmanGrace * 100).toNat } } := by
    simp only [State.onTdu, Tdu.startGrace, hlive]
  unfold State.deadmanCheck
  rw [hdrive, hd, hstart]
  simp only [true_and, gt_iff_lt]

theorem State.deadmanCheck_facts (v : State) : v.deadmanCheck.tdu.facts = v.tdu.facts := by
  unfold State.deadmanCheck Tdu.startGrace
  split
  · rw [State.onTdu_tdu]
    split <;> rfl
  · rfl

/-- What a period reads behind its stages stands as the period began with it. -/
theorem State.standing_of_facts {s t : State} (h : s.tdu.facts = t.tdu.facts) : s.standing = t.standing := by
  unfold State.standing
  rw [h]

theorem State.level_of_ciu {s t : State} (h : s.ciu = t.ciu) (i : Input) : s.level i = t.level i := by
  unfold State.level
  rw [h]

theorem State.releasingFinding_none (hr : s.cru.role ≠ .active ∨ s.cru.releasing = false) :
    s.releasingFinding = s := if_pos hr

/-- Releasing goes on where the speed is not known standing (R66). -/
theorem State.releasingFinding_moving (hr : s.cru.role = .active) (hrel : s.cru.releasing = true)
    (hst : s.standing = false) : s.releasingFinding = { s with
      cru := { s.cru with
        releasingTimer := if s.tdu.facts.v.isSome then none else some (s.cru.releasingTimer.getD 10000) } } := by
  have hin : ¬ (s.cru.role ≠ .active ∨ s.cru.releasing = false) := by simp [hr, hrel]
  unfold State.releasingFinding
  rw [if_neg hin, hst]
  rfl

theorem State.releasingFinding_standing (hr : s.cru.role = .active) (hrel : s.cru.releasing = true)
    (hst : s.standing = true) : s.releasingFinding = s.keyOffMoving 1 := by
  have hin : ¬ (s.cru.role ≠ .active ∨ s.cru.releasing = false) := by simp [hr, hrel]
  unfold State.releasingFinding
  rw [if_neg hin, if_pos hst]

/-- The state behind the stages of a period, the contexts closed and the frame offered. -/
def State.driven (s : State) (p : Profile) (h : Nat) : State :=
  s.opened.drivePeriod p (handleTarget p s.opened.ciu.fault h) (s.opened.capC p.maxSpeed)

/-- A period in RUN or HOLD: the stages, the dead-man check and the finding for releasing (R95). -/
theorem exec_demandPeriod_driving (hstate : s.tdu.state = .run ∨ s.tdu.state = .hold)
    (htimer : s.tdu.periodTimer = some 0) (hlive : s.tdu.live = some p) (hh : s.ciu.handle = some h) :
    exec .demandPeriod s = .next
      (s.driven p h).deadmanCheck.releasingFinding := by
  have hne : s.tdu.state ≠ .off := by rcases hstate with hs | hs <;> rw [hs] <;> decide
  obtain ⟨hopen, -⟩ := s.opened_tdu
  obtain ⟨-, hciu, -⟩ := s.opened_keeps
  have hperiod : exec .demandPeriod s =
      .next (s.opened.computeDemand (s.tdu.live.getD s.tdu.shadow)).deadmanCheck.releasingFinding :=
    congrArg _ (if_pos ⟨hne, htimer⟩)
  rw [hperiod, hlive, Option.getD_some, State.computeDemand_drives (by rwa [hopen]) (by rwa [hciu])]
  rfl

theorem State.driven_tdu (s : State) (p : Profile) (h : Nat) :
    (s.driven p h).tdu.state = s.tdu.state ∧ (s.driven p h).tdu.periodTimer = some 20 ∧
    (s.driven p h).tdu.grace = s.tdu.grace ∧ (s.driven p h).tdu.live = s.tdu.live ∧
    (s.driven p h).tdu.facts = s.opened.tdu.facts ∧ (s.driven p h).tdu.periodD = (s.driven p h).tdu.d := by
  obtain ⟨ostate, otimer, ograce, olive⟩ := s.opened_tdu
  obtain ⟨vstate, vtimer, vgrace, vlive, vfacts, vd⟩ :=
    s.opened.drivePeriod_tdu p (handleTarget p s.opened.ciu.fault h) (s.opened.capC p.maxSpeed)
  exact ⟨vstate.trans ostate, vtimer.trans otimer, vgrace.trans ograce, vlive.trans olive, vfacts, vd⟩

theorem State.driven_keeps (s : State) (p : Profile) (h : Nat) :
    (s.driven p h).cru = s.cru ∧ (s.driven p h).ciu = s.ciu ∧ (s.driven p h).sru = s.sru := by
  simp [State.driven, State.opened_keeps]

/-- The dead-man check of a period in RUN or HOLD (R77). -/
theorem State.driven_deadmanCheck (hstate : s.tdu.state = .run ∨ s.tdu.state = .hold)
    (hlive : s.tdu.live = some p) : (s.driven p h).deadmanCheck =
      if s.level .deadman = false ∧ s.tdu.grace = none ∧
          (0 < (s.driven p h).tdu.d ∨ s.opened.standing = false) then
        { s.driven p h with tdu := { (s.driven p h).tdu with grace := some (p.deadmanGrace * 100).toNat } }
      else s.driven p h := by
  obtain ⟨vstate, -, vgrace, vlive, vfacts, vd⟩ := s.driven_tdu p h
  obtain ⟨-, vciu, -⟩ := s.driven_keeps p h
  have hdriving : (s.driven p h).tdu.driving = true := by
    rw [Tdu.driving, vstate]
    rcases hstate with hs | hs <;> rw [hs] <;> rfl
  rw [State.deadmanCheck_profile hdriving (vlive.trans hlive) vd, State.level_of_ciu vciu, vgrace,
    State.standing_of_facts vfacts]

/-- What the finding for releasing reads of the state behind the dead-man check. -/
theorem State.driven_checked (s : State) (p : Profile) (h : Nat) :
    (s.driven p h).deadmanCheck.cru = s.cru ∧ (s.driven p h).deadmanCheck.sru = s.sru ∧
    (s.driven p h).deadmanCheck.bqm = (s.driven p h).bqm ∧ (s.driven p h).deadmanCheck.cmn = (s.driven p h).cmn ∧
    (s.driven p h).deadmanCheck.tdu.facts = s.opened.tdu.facts := by
  obtain ⟨-, -, -, -, vfacts, -⟩ := s.driven_tdu p h
  obtain ⟨vcru, -, vsru⟩ := s.driven_keeps p h
  obtain ⟨-, -, -, wbqm, wcru, -, -, -, wsru, -, wcmn, -⟩ := (s.driven p h).deadmanCheck_keeps
  exact ⟨wcru.trans vcru, wsru.trans vsru, wbqm, wcmn, (s.driven p h).deadmanCheck_facts.trans vfacts⟩

/-- Settles O36: the period by its opening, its stages and what follows them; the closures, the cap and the stages each
by the lemma about them. -/
theorem demandPeriodDrives : Obligations.DemandPeriodDrives := by
  refine ⟨?period, fun s => State.judgeClosures_unknown, ?closures, ?closure, fun u m unconfirmed hun => ?cap,
    fun p dh w => ⟨stageState_run p dh w,
      fun hd => (stageState_hold p dh w).trans (Work.powerCut_above hd),
      fun hd => (stageState_hold p dh w).trans (Work.powerCut_below hd)⟩, ?known,
    fun p c tripped w => stageCap_unknown p c tripped w,
    fun p f x w => ⟨rfl, rfl, rfl⟩, fun hold door c v => ⟨rfl, rfl⟩, fun _ _ _ _ _ _ _ _ _ => rfl⟩
  case cap =>
    subst hun
    exact u.capC_least m
  case closures =>
    intro s closed hknown hnodup hclosed
    subst hclosed
    have hover := State.judgeClosures_known hknown
    refine ⟨_, rfl, hover.frame, hover.contexts.trans ?_, hover.overflow, hover.preselection, hover.lastIdent,
      hover.llu, hover.cmn.trans ?_⟩
    · exact List.filter_congr fun x hx => spared_self hnodup hx
    · rfl
  case closure =>
    intro x odo moving
    refine ⟨fun hpassed => ?_, fun hne => ?_⟩
    · rw [Ctx.closure_passed hpassed, ← Ctx.cleared_iff]
      cases x.cleared odo moving <;> simp
    · exact if_neg hne
  case known =>
    intro p c v w x hx
    subst hx
    refine ⟨fun hle hd => ?_, fun hle hd => ?_, fun hlt hdt hband => stageCapKnown_taper hlt hdt hband,
      fun hlt hfree => stageCapKnown_free hlt hfree, rfl⟩
    · exact (stageCapKnown_above hle).trans (by rw [Work.powerCut_below (w := { w with dt := min w.dt 0 }) hd])
    · exact (stageCapKnown_above hle).trans (by rw [Work.powerCut_above (w := { w with dt := min w.dt 0 }) hd])
  case period =>
    intro s u p h hstate htimer hlive hh hu
    change u = s.opened at hu
    subst hu
    have hexec := exec_demandPeriod_driving hstate htimer hlive hh
    obtain ⟨vstate, vtimer, -⟩ := s.driven_tdu p h
    obtain ⟨wcru, wsru, wbqm, wcmn, wfacts⟩ := s.driven_checked p h
    have hstanding := State.standing_of_facts wfacts
    refine ⟨s.driven p h, (s.driven p h).deadmanCheck, s.opened.drivePeriod_drives p h, vstate, vtimer,
      State.driven_deadmanCheck hstate hlive, fun hr => ?_, fun hr hrel hst => ?_, fun hr hrel hst => ?_⟩
    · rw [hexec, State.releasingFinding_none (by rwa [wcru])]
    · rw [hexec, State.releasingFinding_moving (by rwa [wcru]) (by rwa [wcru]) (by rwa [hstanding]), wcru, wfacts]
    · rw [State.releasingFinding_standing (by rwa [wcru]) (by rwa [wcru]) (by rwa [hstanding]),
        State.keyOffMoving_active 1 (by rwa [wcru]), wcru] at hexec
      refine ⟨_, hexec, rfl, rfl, rfl, (s.driven p h).deadmanCheck.tdu.stopped_state, rfl, rfl, fun hidle => ?_⟩
      obtain ⟨hbqm, hcmn⟩ := State.commandClosed_idle (s := (s.driven p h).deadmanCheck.log
        { kind := .keyOffMoving, block := .cru, value := some 1 }) ((congrArg (·.record.state) wsru).trans hidle)
      exact ⟨hbqm.trans wbqm, hcmn.trans (congrArg (Cmn.note · _) wcmn)⟩

end Sys2Proof.Machine
end

section
/-! SUPPORT. A debounced change of an input of the cab, and the statements about the emergency stop, the dead-man and
the door release (R75 to R78, R91, R144, R145). -/

namespace Sys2Proof.Machine

variable {s : State} {i : Input} {on : Bool}

/-! ### The change of an input -/

/-- A debounced change that is due: the level, then the consumers of the input (R75, R76). -/
theorem exec_debouncedChange (h : (s.ciu.input i).due on = true) :
    exec (.debouncedChange i on) s = .next ((s.setLevel i on).deliverChange i on) :=
  congrArg _ (if_pos h)

theorem exec_debouncedChange_early (h : (s.ciu.input i).due on = false) :
    exec (.debouncedChange i on) s = .next s :=
  congrArg _ (if_neg (by simp [h]))

theorem inputIndex_lt (i : Input) : inputIndex i < 9 := by
  cases i <;> decide

theorem State.level_of_setLevel {t : State} (h : t.ciu = (s.setLevel i on).ciu) : t.level i = on := by
  rw [State.level, Ciu.input, h]
  exact congrArg InputState.level (Tab.get_set_same _ _ _ _ (inputIndex_lt i))

/-! ### The emergency stop and the grace timer -/

theorem Tdu.driving_iff (u : Tdu) : u.driving = true ↔ u.state = .run ∨ u.state = .hold := by
  simp [Tdu.driving]

theorem State.estopChange_driving (h : s.tdu.driving = true) : s.estopChange true = s.emergency 1 :=
  if_pos ⟨rfl, h⟩

/-- In OFF and in EMERGENCY the emergency stop changes no more than its level (R91). -/
theorem State.estopChange_other (h : s.tdu.state = .off ∨ s.tdu.state = .emergency) : s.estopChange on = s := by
  have hn : ¬ s.tdu.driving = true := by
    rw [Tdu.driving_iff]
    rcases h with h | h <;> rw [h] <;> decide
  exact if_neg fun ⟨_, k⟩ => hn k

theorem exec_graceTimerExpiry (hd : s.tdu.driving = true) (hg : s.tdu.grace = some 0) :
    exec .graceTimerExpiry s = .next
      ((s.log { kind := .deadman, block := .tdu, value := some s.tdu.periodD }).emergency 2) :=
  congrArg _ (if_pos ⟨hd, hg⟩)

/-- The emergency frame as a demand: the speed is blind where V is not known (R91). -/
theorem State.emergencyFrame_eq (u : State) : u.emergencyFrame =
    u.emitDemand (-1000) { emergency := true, hold := false, blind := u.tdu.facts.v.isNone, sand := false }
      (u.capC (u.tdu.live.getD u.tdu.shadow).maxSpeed) := by
  rw [State.emergencyFrame, State.speedKnown, Option.not_isSome]

/-- Settles O26: the brake is put on in the state behind the level, or behind the DEADMAN entry. -/
theorem emergencyStopBrakes : Obligations.EmergencyStopBrakes := by
  refine ⟨fun s hs hdue => ⟨_, rfl, ?_⟩, fun s hs hg => ⟨_, rfl, ?_⟩, State.emergencyFrame_eq, fun s hs hdue => ?_⟩
  · have hdrive : (s.setLevel .estop true).tdu.driving = true := s.tdu.driving_iff.2 hs
    exact (exec_debouncedChange hdue).trans (congrArg _ (State.estopChange_driving hdrive))
  · exact exec_graceTimerExpiry (s.tdu.driving_iff.2 hs) hg
  · exact (exec_debouncedChange hdue).trans
      (congrArg _ (State.estopChange_other (s := s.setLevel .estop true) hs))

/-! ### The dead-man -/

theorem State.deadmanChange_released {p : Profile} (hd : s.tdu.driving = true) (hg : s.tdu.grace = none)
    (hm : 0 < s.tdu.periodD ∨ s.standing = false) (hl : s.tdu.live = some p) :
    s.deadmanChange false = { s with tdu := { s.tdu with grace := some (p.deadmanGrace * 100).toNat } } := by
  have hstart : s.tdu.startGrace = { s.tdu with grace := some (p.deadmanGrace * 100).toNat } := by
    simp only [Tdu.startGrace, hl]
  rw [← hstart, State.deadmanChange, if_neg Bool.false_ne_true, if_pos ⟨hd, hg, hm⟩]
  rfl

/-- With no demand to drive and the tram known standing, a release starts nothing (R77). -/
theorem State.deadmanChange_safe (hd : s.tdu.periodD ≤ 0) (hs : s.standing = true) : s.deadmanChange false = s := by
  have hm : ¬ (0 < s.tdu.periodD ∨ s.standing = false) := by simp [hd, hs]
  rw [State.deadmanChange, if_neg Bool.false_ne_true, if_neg fun ⟨_, _, k⟩ => hm k]

/-- Settles O28: the consumer of the dead-man, in the state behind its new level. -/
theorem deadmanStartsTheGraceTimer : Obligations.DeadmanStartsTheGraceTimer := by
  refine ⟨fun s p hdue hs hg hm hl => ?_, fun s hdue hd hs => ?_, fun s hdue => exec_debouncedChange hdue⟩
  · exact (exec_debouncedChange hdue).trans (congrArg _
      (State.deadmanChange_released (s := s.setLevel .deadman false) (s.tdu.driving_iff.2 hs) hg hm hl))
  · exact (exec_debouncedChange hdue).trans
      (congrArg _ (State.deadmanChange_safe (s := s.setLevel .deadman false) hd hs))

/-! ### The door release -/

theorem State.doorChange_serve (hr : s.cru.role = .active) (h : s.sru.record.state ≠ .serving) :
    s.doorChange true = s.serve := by
  unfold State.doorChange
  rw [if_neg (by simp [hr])]
  cases hst : s.sru.record.state with
  | serving => exact absurd hst h
  | idle => rfl
  | requested => rfl
  | inhibit => rfl

theorem State.doorChange_inhibit (hr : s.cru.role = .active) (h : s.sru.record.state = .serving) :
    s.doorChange false = s.inhibit := by
  unfold State.doorChange
  rw [if_neg (by simp [hr]), h]

theorem State.doorChange_other (hr : s.cru.role ≠ .active) : s.doorChange on = s := if_pos hr

/-- The octets of a STOP_INDICATE: of the state it tells REQUESTED and SERVING (R145, R182). -/
theorem State.indicateFrame_eq (s : State) : s.indicateFrame = ownFrame s.own 63 0x31 4 s.sru.seq
    (oct1 (match s.sru.record.state with
        | .requested => 1
        | .serving => 2
        | _ => 0) ++ oct2 s.sru.record.doors.toNat ++ octFlag s.sru.record.accessible) := by
  unfold State.indicateFrame indicatePayload
  cases s.sru.record.state <;> rfl

/-- A STOP_INDICATE sends its frame, and its seq advances when a buffer is free (R145). -/
theorem State.indicate_eq (s : State) : s.indicate =
    { s with
      bqm := (s.sendOwn 4 s.indicateFrame).bqm
      cmn := (s.sendOwn 4 s.indicateFrame).cmn
      sru := { s.sru with seq := s.bqm.seqAfter s.sru.seq } } := by
  have hsend := s.sendOwn_eq 4 s.indicateFrame
  unfold State.indicate
  rw [show priorityIndicate = 4 from rfl]
  dsimp only
  rw [hsend, State.canSend, Bqm.seqAfter]
  split <;> rfl

/-- Settles O29: SERVING and INHIBIT are entered in the state behind the new level, and then told. -/
theorem doorReleaseServesTheStop : Obligations.DoorReleaseServesTheStop := by
  refine ⟨fun s hdue hr hs => ⟨_, rfl, ?_⟩, fun s hdue hr hs => ⟨_, rfl, ?_⟩, fun u => ?_, fun s on hdue hr => ?_⟩
  · exact (exec_debouncedChange hdue).trans
      (congrArg _ (State.doorChange_serve (s := s.setLevel .doorRelease true) hr hs))
  · exact (exec_debouncedChange hdue).trans
      (congrArg _ (State.doorChange_inhibit (s := s.setLevel .doorRelease false) hr hs))
  · rw [State.indicate_eq]
    exact ⟨rfl, _, congrArg (u.sendOwn 4) u.indicateFrame_eq, rfl⟩
  · exact (exec_debouncedChange hdue).trans
      (congrArg _ (State.doorChange_other (s := s.setLevel .doorRelease on) hr))

end Sys2Proof.Machine
end

section
/-! SUPPORT. The samples of the handle and the reading of the inputs, with the statement about them (R73 to R75, R88;
log entries 20, 38 and 47). -/

namespace Sys2Proof

theorem Tab.get_mapIdx {α β : Type} {n : Nat} (f : Nat → α → β) (t : Tab α n) {i : Nat} (d : α) (e : β)
    (h : i < n) : (t.mapIdx f).get i e = f i (t.get i d) := by
  simp [Tab.get, Tab.mapIdx, List.getD, t.size, h]

end Sys2Proof

namespace Sys2Proof.Machine

variable {s : State}

/-! ### The samples -/

/-- A sample that declares no fault is taken by the Cab Input Unit alone (R73). -/
theorem State.takeSample_quiet {n : Nat} (h : s.ciu.declares n = false) :
    s.takeSample n = { s with ciu := s.ciu.sample n } :=
  if_neg (by simp [h])

/-- A sample that declares a fault is logged with its H (R74, log entry 20). -/
theorem State.takeSample_declares {n : Nat} (h : s.ciu.declares n = true) :
    s.takeSample n = { s with
      ciu := { s.ciu.sample n with fault := true }
      cmn := s.cmn.note
        { kind := .handleFault, block := .ciu, value := some (handleValue (s.ciu.shift n) : Int) } } :=
  if_pos h

theorem Ciu.shift_eq (u : Ciu) (n : Nat) :
    u.shift n = if u.window = [] then List.replicate 8 n else u.window.tail ++ [n] := by
  simp only [Ciu.shift, List.isEmpty_iff]

theorem handleInRange_iff (h : Nat) : handleInRange h = true ↔ 8 ≤ h ∧ h ≤ 1015 := decide_eq_true_iff

theorem Ciu.declares_iff (u : Ciu) (n : Nat) : u.declares n = true ↔
    u.fault = false ∧ ¬ (8 ≤ (u.shift n).sum / 8 ∧ (u.shift n).sum / 8 ≤ 1015) := by
  rw [← handleInRange_iff]
  simp [Ciu.declares, handleValue]

theorem Ciu.declares_faulty {u : Ciu} (n : Nat) (h : u.fault = true) : u.declares n = false := by
  simp [Ciu.declares, h]

/-- With no fault standing nothing measures how long H is in range (R74). -/
theorem Ciu.sample_sound {u : Ciu} (n : Nat) (h : u.fault = false) : u.sample n =
    { u with window := u.shift n, handle := some ((u.shift n).sum / 8), inRange := none } := by
  simp only [Ciu.sample, h, handleValue, Bool.false_and, Bool.false_eq_true, if_false]

theorem Ciu.sample_faulty {u : Ciu} (n : Nat) (h : u.fault = true) : u.sample n =
    { u with
      window := u.shift n, handle := some ((u.shift n).sum / 8)
      inRange := if 8 ≤ (u.shift n).sum / 8 ∧ (u.shift n).sum / 8 ≤ 1015 then some (u.inRange.getD 0) else none } := by
  simp only [Ciu.sample, h, handleValue, handleInRange_iff, Bool.true_and]

theorem exec_handleSample (x : BitVec 10) : exec (.handleSample x) s = .next (s.takeSample x.toNat) := rfl

theorem exec_handleFault {x : BitVec 10} (h : s.ciu.declares x.toNat = true) :
    exec (.handleFault x) s = .next (s.takeSample x.toNat) :=
  congrArg _ (if_pos h)

theorem exec_handleFaultCleared (hf : s.ciu.fault = true) (hr : 100 ≤ s.ciu.inRange.getD 0) :
    exec .handleFaultCleared s = .next (s.onCiu fun u => { u with fault := false, inRange := none }) :=
  congrArg _ (if_pos (by simp [hf, hr]))

/-! ### The reading of an input -/

/-- A stability timer at 10 ms is one that runs and has come to 10 ms (R75). -/
theorem InputState.due_iff (x : InputState) (on : Bool) : x.due on = true ↔
    x.pin = on ∧ x.level ≠ on ∧ ∃ n, x.stability = some n ∧ 10 ≤ n := by
  cases h : x.stability <;> simp [InputState.due, h]

/-- The level at the pin of an input at the coming millisecond: the next one, or the one it keeps (log entry 38). -/
def Ciu.pinAhead (u : Ciu) (i : Input) : Bool :=
  match u.ahead with
  | [] => (u.input i).pin
  | l :: _ => l.get (inputIndex i) (u.input i).pin

theorem Ciu.tick_input (u : Ciu) (i : Input) : u.tick.input i = (u.input i).read (u.pinAhead i) := by
  have htick : u.tick.input i =
      u.readInputs.get (inputIndex i) { pin := false, level := false, stability := none } := rfl
  rw [htick, Ciu.readInputs, Ciu.pinAhead]
  cases u.ahead with
  | nil =>
    exact Tab.get_map (fun x : InputState => x.read x.pin) u.inputs (inputIndex i)
      { pin := false, level := false, stability := none }
  | cons l k => exact Tab.get_mapIdx _ u.inputs _ _ (inputIndex_lt i)

theorem InputState.read_eq (x : InputState) (pin : Bool) : x.read pin =
    { pin := pin, level := x.level
      stability := if pin = x.level then none else some (min 10 (x.stability.getD 0 + 1)) } := by
  by_cases h : pin = x.level <;> simp [InputState.read, follow, h]

/-- The tenth reading away from the debounced level makes the change due (R75). -/
theorem InputState.read_due {x : InputState} {pin : Bool} (hp : pin ≠ x.level) (hn : 9 ≤ x.stability.getD 0) :
    (x.read pin).due pin = true := by
  rw [InputState.due_iff, InputState.read_eq, if_neg hp]
  exact ⟨rfl, hp.symm, _, rfl, by omega⟩

/-- The readings of an input behind a reset, its pin keeping its level: an inactive one agrees with the debounced
level, and an active one is measured from the first reading on (R75, R88). -/
theorem Ciu.ticks_cleared {u : Ciu} (i : Input) (hu : u.ahead = []) (n : Nat) :
    (Ciu.tick^[n] u.cleared).ahead = [] ∧
    (Ciu.tick^[n] u.cleared).input i =
      { pin := (u.input i).pin, level := false
        stability := if (u.input i).pin = true ∧ 0 < n then some (min 10 n) else none } := by
  induction n with
  | zero => exact ⟨hu, by simp [Ciu.cleared_input]⟩
  | succ n ih =>
    obtain ⟨hahead, hinput⟩ := ih
    rw [Function.iterate_succ_apply']
    refine ⟨by simp [Ciu.tick, hahead], ?_⟩
    have hcount : min 10 ((if 0 < n then some (min 10 n) else none).getD 0 + 1) = min 10 (n + 1) := by
      split
      · rw [Option.getD_some]; omega
      · rw [Option.getD_none]; omega
    rw [Ciu.tick_input, Ciu.pinAhead, hahead, hinput, InputState.read_eq]
    cases (u.input i).pin with
    | false => simp
    | true => simp [hcount]

/-! ### The end of a millisecond -/

theorem Ciu.change_due {u : Ciu} {i : Input} {on : Bool} (h : (u.input i).due on = true) :
    .debouncedChange i on ∈ u.change i := by
  unfold Ciu.change
  cases on with
  | true => simp [h]
  | false =>
    obtain ⟨hpin, -⟩ := (InputState.due_iff ..).1 h
    have hnot : ¬ (u.input i).due true = true := fun k => by
      obtain ⟨hpin', -⟩ := (InputState.due_iff ..).1 k
      exact absurd (hpin.symm.trans hpin') (by decide)
    simp [h, hnot]

/-- Of what is due as a millisecond ends the sample comes first (R73, log entry 47). -/
theorem State.due_sample (s : State) : ∃ l, s.due = .handleSample s.ciu.wiper :: l ∧
    ∀ i on, (s.ciu.input i).due on = true → .debouncedChange i on ∈ l := by
  refine ⟨s.due.tail, ?_, fun i on h => ?_⟩
  · simp only [State.due, List.cons_append, List.tail_cons]
  · have hi : i ∈ allInputs := by cases i <;> decide
    have hchange : .debouncedChange i on ∈ allInputs.flatMap s.ciu.change :=
      List.mem_flatMap.2 ⟨i, hi, Ciu.change_due h⟩
    simp only [State.due, List.cons_append, List.tail_cons, List.append_assoc]
    exact List.mem_append_left _ hchange

/-- The queue behind a bit time: what the ports find, what the loop port finds, and what is due as a millisecond
ends. -/
theorem State.clock_pending (s : State) : s.clock.pending =
    s.pending ++ s.portEvents .A ++ s.portEvents .B ++ s.loopEvents ++
      if s.cmn.micros + 1 < 1000 then []
      else ((((s.clockPort .A).clockPort .B).clockLoop.onSnu Snu.clock).onCmn
        fun c => { c with micros := 0 }).tick.due :=
  State.countMicro_pending _

/-- The thousandth bit time, with no command waiting: the inputs are read, and the sample of the handle waits before
all else that is due (R73, R75). -/
theorem step_milli (hp : s.pending = []) (hm : s.cmn.micros = 999) :
    ∃ t l, step s = .next t ∧ t.ciu = s.ciu.tick ∧
      t.pending = s.portEvents .A ++ s.portEvents .B ++ s.loopEvents ++ .handleSample s.ciu.tick.wiper :: l ∧
      ∀ i on, (s.ciu.tick.input i).due on = true → .debouncedChange i on ∈ l := by
  obtain ⟨-, -, hmilli⟩ := s.clock_units
  obtain ⟨-, -, -, hciu, -⟩ := hmilli (by omega)
  obtain ⟨l, hdue, hl⟩ := ((((s.clockPort .A).clockPort .B).clockLoop.onSnu Snu.clock).onCmn
    fun c => { c with micros := 0 }).tick.due_sample
  refine ⟨s.clock, l, by simp only [step, hp], hciu, ?_, hl⟩
  rw [State.clock_pending, if_neg (by omega), hdue, hp]
  rfl

/-- Settles O31: each sample by what it declares, each input by its reading, and what is due by the end of a
millisecond. -/
theorem cabInputsAreSampledAndDebounced : Obligations.CabInputsAreSampledAndDebounced := by
  refine ⟨fun s hp hm => ?sampled, fun s x w hw hf hlo hhi => ?sound, fun s x w hw hf hout => ?declared,
    fun s x w hw hf => ?faulty, fun s hf hr => exec_handleFaultCleared hf hr, InputState.due_iff,
    fun s i pin hp hm hpin => ?read, fun u i n hu => ?reset, fun s i on h => exec_debouncedChange_early h,
    fun s i on h => ?changed⟩
  case sampled =>
    obtain ⟨t, l, hstep, hciu, hpending, -⟩ := step_milli hp hm
    exact ⟨t, l, hstep, congrArg Ciu.wiper hciu, congrArg Ciu.wiperAhead hciu, hpending⟩
  case sound =>
    rw [← Ciu.shift_eq] at hw
    subst hw
    have hquiet : s.ciu.declares x.toNat = false :=
      Bool.eq_false_iff.2 fun k => by
        obtain ⟨-, hout⟩ := (s.ciu.declares_iff _).1 k
        exact hout ⟨hlo, hhi⟩
    rw [exec_handleSample, State.takeSample_quiet hquiet, Ciu.sample_sound _ hf]
  case declared =>
    rw [← Ciu.shift_eq] at hw
    subst hw
    have hdeclares : s.ciu.declares x.toNat = true := (s.ciu.declares_iff _).2 ⟨hf, by omega⟩
    rw [exec_handleFault hdeclares, State.takeSample_declares hdeclares, Ciu.sample_sound _ hf]
    rfl
  case faulty =>
    rw [← Ciu.shift_eq] at hw
    subst hw
    rw [exec_handleSample, State.takeSample_quiet (Ciu.declares_faulty _ hf), Ciu.sample_faulty _ hf]
  case read =>
    have hahead : pin = s.ciu.pinAhead i := hpin
    obtain ⟨t, l, hstep, hciu, hpending, hl⟩ := step_milli hp hm
    have hinput := s.ciu.tick_input i
    rw [← hahead] at hinput
    refine ⟨t, hstep, congrArg Ciu.ahead hciu, ?_, fun hne hn => ?_⟩
    · rw [hciu, hinput, InputState.read_eq]
      rfl
    · have hmem := hl i pin (by rw [hinput]; exact InputState.read_due hne hn)
      rw [hpending]
      exact List.mem_append_right _ (List.mem_cons_of_mem _ hmem)
  case reset =>
    obtain ⟨-, hinput⟩ := Ciu.ticks_cleared i hu n
    rw [hinput, Bool.eq_iff_iff, InputState.due_iff]
    cases (u.input i).pin with
    | false => simp
    | true => simpa using fun hn : 10 ≤ n => (by omega : 0 < n)
  case changed =>
    obtain ⟨-, -, hciu, -⟩ := (s.setLevel i on).deliverChange_keeps i on
    exact ⟨_, exec_debouncedChange h, State.level_of_setLevel hciu, hciu⟩

end Sys2Proof.Machine
end

section
/-! SUPPORT. The speed facts and the readings of a demand period, with the statement about them (R81 to R83, R85,
R86). -/

namespace Sys2Proof.Machine

/-! ### The speed facts -/

/-- The lowest of some axle speeds is one of them, and none is lower (R82). -/
theorem lowest_spec (x : Int) (l : List Int) : lowest x l ∈ x :: l ∧ ∀ y ∈ x :: l, lowest x l ≤ y :=
  List.min?_eq_some_iff.1 List.min?_cons'

/-- The highest of some axle speeds is one of them, and none is higher (R82). -/
theorem highest_spec (x : Int) (l : List Int) : highest x l ∈ x :: l ∧ ∀ y ∈ x :: l, y ≤ highest x l :=
  List.max?_eq_some_iff.1 List.max?_cons'

theorem findFacts_v_isNone (l : List Int) (d : Int) : (findFacts l d).v = none ↔ l = [] := by
  cases l <;> simp [findFacts, SpeedFacts.cleared]

/-- V is the lowest axle speed where the last D does not brake, and the highest where it does (R82). -/
theorem findFacts_v {l : List Int} (d : Int) (hl : l ≠ []) : ∃ v, (findFacts l d).v = some v ∧ v ∈ l ∧
    (0 ≤ d → ∀ x ∈ l, v ≤ x) ∧ (d < 0 → ∀ x ∈ l, x ≤ v) := by
  cases l with
  | nil => exact absurd rfl hl
  | cons x l =>
    obtain ⟨hlow, hle⟩ := lowest_spec x l
    obtain ⟨hhigh, hge⟩ := highest_spec x l
    refine ⟨_, rfl, ?_⟩
    by_cases hd : d ≥ 0
    · rw [if_pos hd]
      exact ⟨hlow, fun _ => hle, fun k => absurd hd (not_le.2 k)⟩
    · rw [if_neg hd]
      exact ⟨hhigh, fun k => absurd k hd, fun _ => hge⟩

/-- One axle speed has no spread (R82). -/
theorem findFacts_one {l : List Int} (d : Int) (hl : l.length = 1) : (findFacts l d).s = none := by
  obtain ⟨x, rfl⟩ := List.length_eq_one_iff.1 hl
  rfl

/-- The spread of two axle speeds or more is the highest less the lowest (R82). -/
theorem findFacts_spread {l : List Int} (d : Int) (hl : 2 ≤ l.length) :
    ∃ a b, a ∈ l ∧ b ∈ l ∧ (∀ x ∈ l, a ≤ x ∧ x ≤ b) ∧ (findFacts l d).s = some (b - a) := by
  match l, hl with
  | x :: y :: l, _ =>
    obtain ⟨hlow, hle⟩ := lowest_spec x (y :: l)
    obtain ⟨hhigh, hge⟩ := highest_spec x (y :: l)
    exact ⟨_, _, hlow, hhigh, fun z hz => ⟨hle z hz, hge z hz⟩, rfl⟩

theorem Slot.fresh_iff (x : Slot) (now : Word) : x.fresh now = true ↔ (now - x.time).toNat < 100 :=
  decide_eq_true_iff

theorem Tdu.readySpeeds_eq (u : Tdu) (now : Word) : u.readySpeeds now =
    u.slots.data.filterMap fun x => x.bind fun y =>
      if (now - y.time).toNat < 100 ∧ y.state = .ready then some y.speed else none := by
  simp only [Tdu.readySpeeds, Slot.fresh_iff]

/-- The opening of a period: the facts found, the readings with them, and a loss of speed counted in ACTIVE (R82,
R83). -/
theorem State.findSpeed_eq {s : State} {l : List Int} (hl : s.tdu.readySpeeds s.cmn.partTime = l) : s.findSpeed =
    { s with
      tdu := Tdu.advance { s.tdu with facts := findFacts l s.tdu.periodD }
      cmn := if s.tdu.facts.v.isSome = true ∧ l = [] ∧ s.cru.role = .active then s.cmn.count .speedSource
        else s.cmn } := by
  simp only [State.findSpeed, hl, findFacts_v_isNone, State.speedKnown]
  split <;> rfl

/-! ### The readings -/

theorem Tdu.advance_unknown {u : Tdu} (h : u.facts.v = none) : u.advance = u := by
  simp only [Tdu.advance, h]

/-- At V the odometer gains 5V of ninths, and moving time the period where V exceeds 5 (R85, R86). -/
theorem Tdu.advance_known {u : Tdu} {v : Nat} (h : u.facts.v = some (v : Int)) : u.advance = { u with
    odometer := u.odometer + BitVec.ofNat 32 ((u.carry + 5 * v) / 9)
    carry := (u.carry + 5 * v) % 9
    movingTime := if 5 < v then u.movingTime + 20 else u.movingTime } := by
  have hgain : ((v : Int) * 5).toNat = 5 * v := by omega
  have hmoves : (v : Int) > 5 ↔ 5 < v := by omega
  simp only [Tdu.advance, h, hgain, hmoves]

/-- Settles O38: the readings by V, and the speed facts by the axle speeds that count. -/
theorem speedFactsAndReadingsAreFound : Obligations.SpeedFactsAndReadingsAreFound := by
  refine fun u => ⟨Tdu.advance_unknown, fun v hv => Tdu.advance_known hv, fun s l hl => ?_⟩
  rw [← Tdu.readySpeeds_eq] at hl
  refine ⟨_, State.findSpeed_eq hl.symm, fun hnil => ?_, findFacts_v _, findFacts_one _, findFacts_spread _⟩
  rw [hnil]
  rfl

end Sys2Proof.Machine
end

section
/-! SUPPORT. The laws of the traction state and of the stop record (R89, R90, R141, R147) through the operations of
the units: the change of role, which moves all three, and the operations that leave the role as it is. -/

namespace Sys2Proof.Machine

variable {s t u : State}

/-! ### The laws kept from one state to another -/

/-- Each law of the role that `s` meets `t` meets too. -/
structure State.RoleLawsKept (s t : State) : Prop where
  traction : s.TractionLaw → t.TractionLaw
  stop : s.StopLaw → t.StopLaw

theorem State.RoleLawsKept.refl (s : State) : s.RoleLawsKept s := ⟨id, id⟩

theorem State.RoleLawsKept.trans (h : s.RoleLawsKept t) (k : t.RoleLawsKept u) : s.RoleLawsKept u :=
  ⟨k.traction ∘ h.traction, k.stop ∘ h.stop⟩

theorem State.RoleLawsKept.ite {c : Prop} [Decidable c] (ht : c → s.RoleLawsKept t) (hu : s.RoleLawsKept u) :
    s.RoleLawsKept (if c then t else u) := by
  split
  · next hc => exact ht hc
  · exact hu

/-- The laws read the role, whether traction is OFF, the state of the stop record, and the STOP lamp. -/
theorem State.RoleLawsKept.of_same (hrole : t.cru.role = s.cru.role)
    (hoff : t.tdu.state = .off ↔ s.tdu.state = .off) (hstop : t.sru.record.state = s.sru.record.state)
    (hlamp : t.sru.lamp = s.sru.lamp) : s.RoleLawsKept t where
  traction h := by rw [State.TractionLaw, hoff, hrole]; exact h
  stop h := by rw [State.StopLaw, hstop, hlamp, hrole]; exact h

theorem State.RoleLawsKept.of_units (hcru : t.cru = s.cru) (htdu : t.tdu = s.tdu) (hsru : t.sru = s.sru) :
    s.RoleLawsKept t :=
  .of_same (by rw [hcru]) (by rw [htdu]) (by rw [hsru]) (by rw [hsru])

/-- An operation of the Traction Demand Unit that neither enters nor leaves OFF (R90). -/
theorem State.RoleLawsKept.of_tdu (hcru : t.cru = s.cru) (hoff : t.tdu.state = .off ↔ s.tdu.state = .off)
    (hsru : t.sru = s.sru) : s.RoleLawsKept t :=
  .of_same (by rw [hcru]) hoff (by rw [hsru]) (by rw [hsru])

/-- An operation of the Cab Role Unit within the role. -/
theorem State.RoleLawsKept.of_cru (hrole : t.cru.role = s.cru.role) (htdu : t.tdu = s.tdu) (hsru : t.sru = s.sru) :
    s.RoleLawsKept t :=
  .of_same hrole (by rw [htdu]) (by rw [hsru]) (by rw [hsru])

theorem State.onCru_roleLawsKept (s : State) {f : Cru → Cru} (hrole : (f s.cru).role = s.cru.role) :
    s.RoleLawsKept (s.onCru f) :=
  .of_cru hrole rfl rfl

theorem State.onTdu_roleLawsKept (s : State) {f : Tdu → Tdu} (hstate : (f s.tdu).state = s.tdu.state) :
    s.RoleLawsKept (s.onTdu f) :=
  .of_tdu rfl (by rw [State.onTdu_tdu, hstate]) rfl

theorem State.onSru_roleLawsKept (s : State) {f : Sru → Sru}
    (hstate : (f s.sru).record.state = s.sru.record.state) (hlamp : (f s.sru).lamp = s.sru.lamp) :
    s.RoleLawsKept (s.onSru f) :=
  .of_same rfl Iff.rfl hstate hlamp

theorem State.onSnu_roleLawsKept (s : State) (f : Snu → Snu) : s.RoleLawsKept (s.onSnu f) := .of_units rfl rfl rfl

/-- Away from REQUESTED with the lamp dark, whatever the role (R141). -/
theorem State.stopLaw_dark (hstate : s.sru.record.state ≠ .requested) (hlamp : s.sru.lamp = false) : s.StopLaw :=
  ⟨fun h => absurd h hstate, by simp [hstate, hlamp]⟩

/-- The law of the lamp, away from REQUESTED (R141). -/
theorem State.StopLaw.lamp_dark (h : s.StopLaw) (hne : s.sru.record.state ≠ .requested) : s.sru.lamp = false :=
  Bool.eq_false_iff.2 fun hl => hne (h.2.1 hl)

/-- The record taken to a state other than REQUESTED with the lamp dark (R141). -/
theorem State.onSru_dark (s : State) {f : Sru → Sru} (hstate : (f s.sru).record.state ≠ .requested)
    (hlamp : s.StopLaw → (f s.sru).lamp = false) : s.RoleLawsKept (s.onSru f) where
  traction h := h
  stop h := State.stopLaw_dark hstate (hlamp h)

/-! ### The traction state after a change of role -/

theorem Tdu.held_off (u : Tdu) : u.held.state = .off ↔ u.state = .off := by
  unfold Tdu.held
  split
  · next h => simp [h]
  · rfl

theorem Tdu.freed_off (u : Tdu) : u.freed.state = .off ↔ u.state = .off := by
  unfold Tdu.freed
  split
  · next h => simp [h]
  · rfl

theorem Tdu.started_state (u : Tdu) (estop : Bool) : (u.started estop).state ≠ .off := by
  unfold Tdu.started
  split
  · assumption
  · split <;> exact nofun

/-- A change of role takes the traction state with it: OFF is left for ACTIVE and entered as ACTIVE and CONFLICT are
both left; CONFLICT is only entered from ACTIVE (R89, R90). -/
theorem Tdu.follow_off (u : Tdu) {old new : Role} (estop : Bool)
    (h : u.state = .off ↔ (old ≠ .active ∧ old ≠ .conflict)) (hconflict : new = .conflict → old = .active) :
    (u.follow old new estop).state = .off ↔ (new ≠ .active ∧ new ≠ .conflict) := by
  by_cases hactive : new = .active
  · have hne : (u.follow old new estop).state ≠ .off := by
      subst hactive
      cases old
      case conflict =>
        have hdriven : u.state ≠ .off := fun k => (h.1 k).2 rfl
        exact fun k => hdriven (u.freed_off.1 k)
      all_goals exact Tdu.started_state _ _
    exact ⟨fun k => absurd k hne, fun k => absurd hactive k.1⟩
  · by_cases hc : new = .conflict
    · obtain rfl := hconflict hc
      subst hc
      have hdriven : u.state ≠ .off := fun k => (h.1 k).1 rfl
      have hne : u.held.state ≠ .off := fun k => hdriven (u.held_off.1 k)
      simp [Tdu.follow, hne]
    · have hoff : (u.follow old new estop).state = .off := by
        cases old <;> simp only [Tdu.follow, hactive, hc, if_false, Tdu.stopped_state]
        all_goals exact h.2 ⟨nofun, nofun⟩
      simp [hoff, hactive, hc]

/-! ### A change of role -/

theorem State.setRole_tractionLaw {r : Role} (hconflict : r = .conflict → s.cru.role = .active)
    (h : s.TractionLaw) : (s.setRole r).TractionLaw := by
  rw [State.TractionLaw, State.setRole_tdu, State.setRole_role]
  exact s.tdu.follow_off _ h hconflict

/-- Arriving in ACTIVE and leaving it both empty the record; outside ACTIVE it is not REQUESTED (R147). -/
theorem State.setRole_stopLaw (r : Role) (h : s.StopLaw) : (s.setRole r).StopLaw := by
  have hdark : (s.setRole r).sru.record.state ≠ .requested ∧ (s.setRole r).sru.lamp = false := by
    obtain ⟨n, hsru⟩ := s.setRole_sru r
    rw [hsru]
    split
    · split <;> exact ⟨nofun, rfl⟩
    · split
      · exact ⟨nofun, rfl⟩
      · next hne =>
        have hidle : s.sru.record.state ≠ .requested := fun k => hne (h.1 k)
        exact ⟨hidle, h.lamp_dark hidle⟩
  exact State.stopLaw_dark hdark.1 hdark.2

theorem State.setRole_roleLawsKept (r : Role) (hconflict : r = .conflict → s.cru.role = .active) :
    s.RoleLawsKept (s.setRole r) :=
  ⟨State.setRole_tractionLaw hconflict, State.setRole_stopLaw r⟩

/-- A role taken by the table, or by the key, is not CONFLICT (R58, R62). -/
theorem State.setRole_roleLawsKept_ne {r : Role} (h : r ≠ .conflict) : s.RoleLawsKept (s.setRole r) :=
  State.setRole_roleLawsKept r fun k => absurd k h

theorem State.roleByTable_roleLawsKept (s : State) : s.RoleLawsKept s.roleByTable := by
  refine State.setRole_roleLawsKept_ne ?_
  rcases s.cru.tableRole_cases with h | h <;> rw [h] <;> decide

theorem State.log_roleLawsKept (s : State) (i : LogInfo) : s.RoleLawsKept (s.log i) := .of_units rfl rfl rfl

theorem State.keyOffMoving_roleLawsKept (s : State) (cause : Int) : s.RoleLawsKept (s.keyOffMoving cause) :=
  (s.log_roleLawsKept _).trans (State.roleByTable_roleLawsKept _)

/-! ### The key (R62 to R68) -/

theorem State.takeKeyOn_roleLawsKept (s : State) : s.RoleLawsKept s.takeKeyOn :=
  .ite (fun _ => State.setRole_roleLawsKept_ne nofun) (State.setRole_roleLawsKept_ne nofun)

theorem State.keyOnIdle_roleLawsKept (s : State) : s.RoleLawsKept s.keyOnIdle := by
  have hopen : s.RoleLawsKept ((s.unloopBoth 3).onCru fun u => { u with tableFull := false }) :=
    .of_cru (by simp) (by simp) (by simp)
  exact hopen.trans (.ite (fun _ => State.takeKeyOn_roleLawsKept _) (.of_cru rfl rfl rfl))

theorem State.tractionRun_roleLawsKept (s : State) : s.RoleLawsKept s.tractionRun :=
  .of_tdu (by simp) (by rw [State.tractionRun_tdu, Tdu.freed_off]) (by simp)

theorem State.tractionHold_roleLawsKept (s : State) : s.RoleLawsKept s.tractionHold :=
  .of_tdu (by simp) (by rw [State.tractionHold_tdu, Tdu.held_off]) (by simp)

theorem State.keyTurnsOn_roleLawsKept (s : State) : s.RoleLawsKept s.keyTurnsOn := by
  have hreleasing : s.RoleLawsKept s.keyOnReleasing := by
    unfold State.keyOnReleasing
    exact (s.onCru_roleLawsKept rfl).trans (State.tractionRun_roleLawsKept _)
  unfold State.keyTurnsOn
  split
  · exact s.keyOnIdle_roleLawsKept
  · exact s.keyOnIdle_roleLawsKept
  · exact .ite (fun _ => hreleasing) (.refl s)
  · exact .refl s

theorem State.keyTurnsOff_roleLawsKept (s : State) : s.RoleLawsKept s.keyTurnsOff := by
  have hreleasing : s.RoleLawsKept s.startReleasing := by
    unfold State.startReleasing
    exact (s.onCru_roleLawsKept rfl).trans (State.tractionHold_roleLawsKept _)
  unfold State.keyTurnsOff
  split
  · exact .of_cru rfl rfl rfl
  · exact .of_cru rfl rfl rfl
  · exact .ite (fun _ => .refl s) (.ite (fun _ => s.roleByTable_roleLawsKept) hreleasing)
  · exact s.roleByTable_roleLawsKept

theorem State.keyChange_roleLawsKept (s : State) (on : Bool) : s.RoleLawsKept (s.keyChange on) :=
  .ite (fun _ => .refl s) (.ite (fun _ => s.keyTurnsOn_roleLawsKept) s.keyTurnsOff_roleLawsKept)

/-! ### The Cab Table (R60, R61) -/

theorem State.followTable_roleLawsKept (s : State) : s.RoleLawsKept s.followTable :=
  .ite (fun _ => .refl s) s.roleByTable_roleLawsKept

theorem State.followConflict_roleLawsKept (s : State) : s.RoleLawsKept s.followConflict :=
  .ite (fun _ => .refl s) (State.setRole_roleLawsKept_ne nofun)

/-- CONFLICT is entered from ACTIVE (R65). -/
theorem State.meetCommand_roleLawsKept (hrole : s.cru.role = .active) (a : Addr) :
    s.RoleLawsKept (s.meetCommand a) := by
  refine (s.log_roleLawsKept _).trans (.ite (fun _ => State.roleByTable_roleLawsKept _) ?_)
  exact State.setRole_roleLawsKept _ fun _ => hrole

theorem State.roleOnAnnounce_roleLawsKept (s : State) (a : Addr) (r : Announced) :
    s.RoleLawsKept (s.roleOnAnnounce a r) := by
  unfold State.roleOnAnnounce
  split
  · exact s.followTable_roleLawsKept
  · exact s.followTable_roleLawsKept
  · exact .ite (fun _ => State.setRole_roleLawsKept_ne nofun) (.refl s)
  · next hrole => exact .ite (fun _ => .refl s) (State.meetCommand_roleLawsKept hrole a)
  · exact .of_cru rfl rfl rfl
  · exact s.followConflict_roleLawsKept

theorem State.takeAnnounce_roleLawsKept (s : State) (f : Frame) : s.RoleLawsKept (s.takeAnnounce f) := by
  unfold State.takeAnnounce
  dsimp only
  split
  · exact .of_cru rfl rfl rfl
  · refine .ite (fun _ => .ite (fun _ => .refl s) (.of_cru rfl rfl rfl)) ?_
    have hheard (e : CabEntry) : s.RoleLawsKept (s.onCru fun u => u.hear e) :=
      s.onCru_roleLawsKept (by rw [Cru.hear_eq])
    exact (hheard _).trans (State.roleOnAnnounce_roleLawsKept _ _ _)

theorem State.roleOnRemoval_roleLawsKept (s : State) : s.RoleLawsKept s.roleOnRemoval := by
  unfold State.roleOnRemoval
  split
  · exact s.followTable_roleLawsKept
  · exact s.onCru_roleLawsKept rfl
  · exact s.followConflict_roleLawsKept
  · exact .refl s

theorem State.entryTimeout_roleLawsKept (s : State) (a : Addr) : s.RoleLawsKept (s.entryTimeout a) := by
  unfold State.entryTimeout
  exact (s.onCru_roleLawsKept rfl).trans (State.roleOnRemoval_roleLawsKept _)

theorem State.sendAnnounce_roleLawsKept (s : State) : s.RoleLawsKept s.sendAnnounce := by
  obtain ⟨n, hcru⟩ := s.sendAnnounce_cru
  exact .of_cru (by rw [hcru]) (by simp) (by simp)

/-! ### The traction state within a role (R77, R78, R91, R92) -/

/-- An entry to EMERGENCY taken in RUN or HOLD does not leave OFF (R91). -/
theorem State.emergency_roleLawsKept (hdriving : s.tdu.driving = true) (cause : Int) :
    s.RoleLawsKept (s.emergency cause) := by
  have hne : s.tdu.state ≠ .off := fun k => by simp [Tdu.driving, k] at hdriving
  have hstate : (s.emergency cause).tdu.state = .emergency := by
    unfold State.emergency State.emergencyFrame
    generalize ({ emergency := true, hold := false, blind := _, sand := false } : DemandFlags) = g
    obtain ⟨n, htdu⟩ := (s.brake cause).emitDemand_tdu (-1000) ((s.brake cause).capC _) g
    rw [htdu]
    rfl
  exact .of_tdu (by simp) (by simp [hstate, hne]) (by simp)

theorem Tdu.startGrace_state (u : Tdu) : u.startGrace.state = u.state := by
  unfold Tdu.startGrace
  split <;> rfl

theorem State.deadmanCheck_roleLawsKept (s : State) : s.RoleLawsKept s.deadmanCheck :=
  .ite (fun _ => .of_tdu rfl (by rw [State.onTdu_tdu, Tdu.startGrace_state]) rfl) (.refl s)

theorem State.deadmanChange_roleLawsKept (s : State) (held : Bool) : s.RoleLawsKept (s.deadmanChange held) :=
  .ite (fun _ => .of_tdu rfl Iff.rfl rfl)
    (.ite (fun _ => .of_tdu rfl (by rw [State.onTdu_tdu, Tdu.startGrace_state]) rfl) (.refl s))

theorem State.inverterStatus_roleLawsKept (s : State) (f : Frame) : s.RoleLawsKept (s.inverterStatus f) := by
  have hwrite (i : Nat) (x : Slot) : (s.writeSlot i x).tdu.state = s.tdu.state := by
    rw [State.writeSlot_eq]
  have hstate : (s.inverterStatus f).tdu.state = s.tdu.state := by
    unfold State.inverterStatus State.placeReport
    (repeat' split) <;> simp [hwrite]
  exact .of_tdu (by simp) (by rw [hstate]) (by simp)

/-- The stages of a period leave EMERGENCY for RUN or HOLD, never for OFF (R92). -/
theorem State.leaveEmergency_off (s : State) (dh : Int) :
    (s.leaveEmergency dh).tdu.state = .off ↔ s.tdu.state = .off := by
  unfold State.leaveEmergency
  split
  · next h =>
    rw [h.1]
    simp only [State.onSnu_tdu, State.onTdu_tdu, State.drivingState]
    split <;> decide
  · rfl

/-- A period that stays in EMERGENCY emits −1000 and stays there (R92). -/
theorem State.brakePeriod_tdu (s : State) (dh c : Int) :
    (s.brakePeriod dh c).tdu.state = s.tdu.state ∧ (s.brakePeriod dh c).tdu.d = -1000 := by
  unfold State.brakePeriod
  dsimp only
  generalize hw : State.onTdu _ _ = w
  obtain ⟨n, htdu⟩ := w.emitDemand_tdu (-1000) c _
  rw [htdu, ← hw]
  exact ⟨rfl, rfl⟩

theorem State.computeDemand_off (s : State) (p : Profile) :
    (s.computeDemand p).tdu.state = .off ↔ s.tdu.state = .off := by
  have hleft (dh : Int) : (s.drawHandle.leaveEmergency dh).tdu.state = .off ↔ s.tdu.state = .off := by
    rw [State.leaveEmergency_off]
    simp
  unfold State.computeDemand
  dsimp only
  split
  · rw [(State.brakePeriod_tdu _ _ _).1, hleft]
  · rw [(State.drivePeriod_tdu _ _ _ _).1, hleft]

theorem State.computeDemand_roleLawsKept (s : State) (p : Profile) : s.RoleLawsKept (s.computeDemand p) :=
  .of_tdu (by simp) (s.computeDemand_off p) (by simp)

theorem State.opened_roleLawsKept (s : State) : s.RoleLawsKept s.opened := by
  obtain ⟨hcru, -, hsru⟩ := s.opened_keeps
  exact .of_tdu hcru (by rw [s.opened_tdu.1]) hsru

theorem State.releasingFinding_roleLawsKept (s : State) : s.RoleLawsKept s.releasingFinding :=
  .ite (fun _ => .refl s) (.ite (fun _ => s.keyOffMoving_roleLawsKept 1) (.of_cru rfl rfl rfl))

theorem State.period_roleLawsKept (s : State) : s.RoleLawsKept s.period :=
  ((s.opened_roleLawsKept.trans (State.computeDemand_roleLawsKept _ _)).trans
    (State.deadmanCheck_roleLawsKept _)).trans (State.releasingFinding_roleLawsKept _)

/-! ### The stop record within a role (R142 to R146) -/

/-- A STOP_INDICATE leaves the laws as the record they are sent from leaves them (R145). -/
theorem State.indicate_roleLawsKept (s : State) : s.RoleLawsKept s.indicate := by
  obtain ⟨n, hsru⟩ := s.indicate_sru
  exact .of_same (by simp) (by simp) (by rw [hsru]) (by rw [hsru])

theorem State.indicateRequested_roleLawsKept (s : State) : s.RoleLawsKept s.indicateRequested :=
  s.indicate_roleLawsKept.trans (.of_same rfl Iff.rfl rfl rfl)

theorem State.serve_roleLawsKept (s : State) : s.RoleLawsKept s.serve := by
  unfold State.serve
  exact (s.onSru_dark (by simp) fun _ => rfl).trans (State.indicate_roleLawsKept _)

/-- SERVING ends in INHIBIT, the lamp dark as it was (R144). -/
theorem State.inhibit_roleLawsKept (hserving : s.sru.record.state = .serving) : s.RoleLawsKept s.inhibit := by
  unfold State.inhibit
  refine (s.onSru_dark (by simp) fun h => ?_).trans (State.indicate_roleLawsKept _)
  exact h.lamp_dark (by rw [hserving]; decide)

theorem State.doorChange_roleLawsKept (s : State) (on : Bool) : s.RoleLawsKept (s.doorChange on) := by
  refine .ite (fun _ => .refl s) ?_
  split
  · exact .refl s
  · exact s.serve_roleLawsKept
  · next hserving => exact State.inhibit_roleLawsKept hserving
  · exact .refl s

/-- A first press in ACTIVE makes the record REQUESTED and lights the lamp (R143). -/
theorem State.firstPress_roleLawsKept (hrole : s.cru.role = .active) (door : Nat) (accessible : Bool) :
    s.RoleLawsKept (s.firstPress door accessible) := by
  have hlit {f : Sru → Sru} (hstate : (f s.sru).record.state = .requested) (hlamp : (f s.sru).lamp = true) :
      s.RoleLawsKept (s.onSru f) := ⟨id, fun _ => ⟨fun _ => hrole, by simp [hstate, hlamp]⟩⟩
  unfold State.firstPress
  exact ((hlit rfl rfl).trans (State.indicateRequested_roleLawsKept _)).trans (State.onSnu_roleLawsKept _ _)

theorem State.furtherPress_roleLawsKept (s : State) (door : Nat) (accessible : Bool) :
    s.RoleLawsKept (s.furtherPress door accessible) := by
  unfold State.furtherPress
  dsimp only
  refine .ite (fun _ => ?_) (s.onSru_roleLawsKept rfl rfl)
  exact ((s.onSru_roleLawsKept rfl rfl).trans (State.onSnu_roleLawsKept _ _)).trans
    (State.indicateRequested_roleLawsKept _)

theorem State.stopPressTaken_roleLawsKept (s : State) (f : Frame) : s.RoleLawsKept (s.stopPressTaken f) := by
  unfold State.stopPressTaken
  split
  · exact .refl s
  · next hrole =>
    split
    · exact s.onSru_roleLawsKept rfl rfl
    · refine .ite (fun _ => .of_units rfl rfl rfl) ?_
      unfold State.validPress
      split
      · exact State.firstPress_roleLawsKept (not_not.1 hrole) _ _
      · exact s.furtherPress_roleLawsKept _ _
      · exact s.onSru_roleLawsKept rfl rfl

/-- INHIBIT ends in IDLE, the lamp dark as it was (R144). -/
theorem State.inhibitEnds_roleLawsKept (hinhibit : s.sru.record.state = .inhibit) :
    s.RoleLawsKept (s.onSru fun u => { u with record := StopRecord.empty, inhibitTimer := none }) := by
  exact s.onSru_dark (by simp [StopRecord.empty]) fun h => h.lamp_dark (by rw [hinhibit]; decide)

/-! ### Resets -/

/-- Traction OFF in INACTIVE, and the record empty with the lamp dark, meet the laws (R72, R105, R149). -/
theorem State.RoleLawsKept.of_reset (hrole : t.cru.role = .inactive) (hoff : t.tdu.state = .off)
    (hstate : t.sru.record.state ≠ .requested) (hlamp : t.sru.lamp = false) : s.RoleLawsKept t where
  traction _ := by rw [State.TractionLaw, hrole, hoff]; decide
  stop _ := State.stopLaw_dark hstate hlamp

theorem State.settleReset_roleLawsKept (s : State) : s.RoleLawsKept s.settleReset := by
  unfold State.settleReset
  split
  · exact .refl s
  · exact .ite (fun _ => .refl s)
      (.ite (fun _ => .of_units rfl rfl rfl) (.of_reset rfl rfl nofun rfl))

end Sys2Proof.Machine
end

section
/-! SUPPORT. The laws of the traction state and of the stop record through every command and every bit time, with the
statement that every step keeps them (R89, R90, R141, R147). -/

namespace Sys2Proof.Machine

variable {s : State}

/-! ### The commands that take a CONTROL frame -/

/-- An action of the Management Unit keeps the laws. -/
def Act.RoleLawsKept (act : Act) : Prop := ∀ (t : State) (f : Frame), t.RoleLawsKept (act t f).1

/-- An action that moves neither the role, nor traction, nor the stop record. -/
theorem Act.RoleLawsKept.of_units {act : Act}
    (h : ∀ t f, (act t f).1.cru = t.cru ∧ (act t f).1.tdu = t.tdu ∧ (act t f).1.sru = t.sru) : act.RoleLawsKept :=
  fun t f => .of_units (h t f).1 (h t f).2.1 (h t f).2.2

theorem State.control_roleLawsKept {row : Instr} {act : Act} (acts : act.RoleLawsKept) :
    s.RoleLawsKept (s.control row act) :=
  State.control_ind (P := s.RoleLawsKept) (fun t h => h.trans (.of_units (by simp) (by simp) (by simp)))
    (fun t f h => h.trans (acts t f)) (fun t f h => h.trans (.of_units rfl rfl rfl))
    (fun t f a h => h.trans (.of_units (by simp) (by simp) (by simp)))
    (fun t b h => h.trans (.of_units (by simp) (by simp) (by simp)))
    (fun t h => h.trans t.settleReset_roleLawsKept) (.refl s)

/-- A table write keeps the laws where the write of one entry does (R171). -/
theorem writeEntries_roleLawsKept {α : Type} {lo hi size : Nat} {parse : Nat → List Byte → Option (Taken α)}
    {put : State → Nat → α → State} (puts : ∀ (t : State) i x, t.RoleLawsKept (put t i x)) :
    Act.RoleLawsKept fun t f => t.writeEntries lo hi size f.payload parse put :=
  fun t _ => State.writeEntries_ind (P := t.RoleLawsKept) (fun u i x h => h.trans (puts u i x)) (.refl t)

theorem writeRoute_roleLawsKept : Act.RoleLawsKept fun t f => t.writeRoute f.payload :=
  fun t _ => State.writeRoute_ind (P := t.RoleLawsKept) (fun _ _ _ h => h.trans (.of_units rfl rfl rfl))
    (fun _ _ _ h => h.trans (.of_units rfl rfl rfl)) (.refl t)

theorem writePattern_roleLawsKept : Act.RoleLawsKept fun t f => t.writePattern f.payload :=
  fun t _ => State.writePattern_ind (P := t.RoleLawsKept) (fun _ _ _ h => h.trans (.of_units rfl rfl rfl)) (.refl t)

theorem setMode_roleLawsKept (m : PortMode) : (setMode m).RoleLawsKept := by
  refine .of_units fun t f => ?_
  unfold setMode
  split
  · exact ⟨rfl, rfl, rfl⟩
  · split
    · exact ⟨rfl, rfl, rfl⟩
    · simp

theorem setCode_roleLawsKept (c : LoopCode) : (setCode c).RoleLawsKept := by
  refine .of_units fun t f => ?_
  unfold setCode
  split
  · exact ⟨rfl, rfl, rfl⟩
  · simp

theorem commitRoute_roleLawsKept : commitRoute.RoleLawsKept := by
  refine .of_units fun t f => ?_
  unfold commitRoute
  dsimp only
  split <;> exact ⟨rfl, rfl, rfl⟩

/-- A PROFILE made live takes the key-on that waited for one (R62, R94). -/
theorem commitProfile_roleLawsKept : commitProfile.RoleLawsKept := by
  intro t f
  have hlive {g : Tdu → Tdu} (h : (g t.tdu).state = t.tdu.state) : t.RoleLawsKept (t.onTdu g) :=
    t.onTdu_roleLawsKept h
  unfold commitProfile
  dsimp only
  split
  · exact .refl t
  · split
    · exact .refl t
    · exact .ite (fun _ => (hlive rfl).trans (State.takeKeyOn_roleLawsKept _)) (hlive rfl)

theorem noRow_roleLawsKept : noRow.RoleLawsKept := by
  refine .of_units fun t f => ?_
  unfold noRow
  split <;> exact ⟨rfl, rfl, rfl⟩

theorem setManager_roleLawsKept : setManager.RoleLawsKept := by
  refine .of_units fun t f => ?_
  unfold setManager
  dsimp only
  split <;> exact ⟨rfl, rfl, rfl⟩

theorem preselect_roleLawsKept : preselect.RoleLawsKept := by
  refine .of_units fun t f => ?_
  unfold preselect
  (repeat' split) <;> simp

theorem resetPart_roleLawsKept : resetPart.RoleLawsKept := by
  refine .of_units fun t f => ?_
  unfold resetPart
  split <;> exact ⟨rfl, rfl, rfl⟩

theorem exec_control_roleLawsKept {c : Instr} (hc : c ∈ controlRows) (s : State) :
    ∃ t, exec c s = .next t ∧ s.RoleLawsKept t := by
  cases c
  case unknownCommand => exact ⟨_, rfl, State.control_roleLawsKept noRow_roleLawsKept⟩
  case readTable | readState | readLog =>
    exact ⟨_, rfl, State.control_roleLawsKept fun t _ => .refl t⟩
  case writeNode | writeClass | writeTagMap | writeWeights | writeQueueMap | writeTone | writeSoundMap |
      writeAttributeConfig =>
    exact ⟨_, rfl, State.control_roleLawsKept (writeEntries_roleLawsKept fun _ _ _ => .of_units rfl rfl rfl)⟩
  case writeProfile =>
    exact ⟨_, rfl, State.control_roleLawsKept
      (writeEntries_roleLawsKept fun t _ _ => t.onTdu_roleLawsKept rfl)⟩
  case writePortConfig =>
    exact ⟨_, rfl, State.control_roleLawsKept
      (writeEntries_roleLawsKept fun _ _ _ => .of_units (by simp) (by simp) (by simp))⟩
  case writeRoute => exact ⟨_, rfl, State.control_roleLawsKept writeRoute_roleLawsKept⟩
  case writePattern => exact ⟨_, rfl, State.control_roleLawsKept writePattern_roleLawsKept⟩
  case commitRoute => exact ⟨_, rfl, State.control_roleLawsKept commitRoute_roleLawsKept⟩
  case commitProfile => exact ⟨_, rfl, State.control_roleLawsKept commitProfile_roleLawsKept⟩
  case clearLatches | clearLog | clearAttributes | clearCounters =>
    exact ⟨_, rfl, State.control_roleLawsKept fun _ _ => .of_same rfl Iff.rfl rfl rfl⟩
  case setNormal | setLocalLoopback | setRemoteLoopback | setDisabled =>
    exact ⟨_, rfl, State.control_roleLawsKept (setMode_roleLawsKept _)⟩
  case sendLoopup | sendLoopdown | stopLoopcode =>
    exact ⟨_, rfl, State.control_roleLawsKept (setCode_roleLawsKept _)⟩
  case setManager => exact ⟨_, rfl, State.control_roleLawsKept setManager_roleLawsKept⟩
  case setReport => exact ⟨_, rfl, State.control_roleLawsKept fun _ _ => .of_units rfl rfl rfl⟩
  case preselect => exact ⟨_, rfl, State.control_roleLawsKept preselect_roleLawsKept⟩
  case resetPart => exact ⟨_, rfl, State.control_roleLawsKept resetPart_roleLawsKept⟩
  all_goals simp [controlRows] at hc

/-! ### The commands without a CONTROL frame -/

theorem State.consume_roleLawsKept {kind : Byte} {act : State → Frame → State}
    (acts : ∀ (t : State) (f : Frame), t.RoleLawsKept (act t f)) : s.RoleLawsKept (s.consume kind act) :=
  State.consume_ind (P := s.RoleLawsKept) (fun t h => h.trans (.of_units (by simp) (by simp) (by simp)))
    (fun t f h => h.trans (acts t f)) (fun t b h => h.trans (.of_units (by simp) (by simp) (by simp))) (.refl s)

theorem State.judgeHorn_roleLawsKept (s : State) : s.RoleLawsKept s.judgeHorn := .of_units rfl rfl rfl

/-- A debounced change moves what its input stands for: the role by the key, traction by the dead-man and the
emergency stop, the record by the door release (R76). -/
theorem State.deliverChange_roleLawsKept (s : State) (i : Input) (level : Bool) :
    s.RoleLawsKept (s.deliverChange i level) := by
  cases i with
  | key => exact (s.keyChange_roleLawsKept level).trans (State.judgeHorn_roleLawsKept _)
  | deadman => exact s.deadmanChange_roleLawsKept level
  | estop => exact .ite (fun h => State.emergency_roleLawsKept h.2 1) (.refl s)
  | doorRelease => exact s.doorChange_roleLawsKept level
  | horn => exact s.judgeHorn_roleLawsKept
  | bell => exact .ite (fun _ => s.onSnu_roleLawsKept _) (.refl s)
  | routeLeft | routeStraight | routeRight =>
    exact .ite (fun _ => .of_units (by simp) (by simp) (by simp)) (.refl s)

/-- The end of a frame's transmission moves the role only by the control reset that waited for it (R56, R178). -/
theorem exec_frameSent_roleLawsKept (s : State) (p : Port) :
    ∃ t, exec (.frameSent p) s = .next t ∧ s.RoleLawsKept t := by
  refine ⟨_, rfl, ?_⟩
  split
  · next b _ =>
    have hsent : s.RoleLawsKept (s.completeFrame p b) := .of_units (by simp) (by simp) (by simp)
    exact (hsent.trans (State.settleReset_roleLawsKept _)).trans (.of_units (by simp) (by simp) (by simp))
  · exact .refl s

theorem exec_autoloopEnter_roleLawsKept (s : State) (p : Port) :
    ∃ t, exec (.autoloopEnter p) s = .next t ∧ s.RoleLawsKept t := by
  have hentered : s.RoleLawsKept ((s.enterRemote p).log (portEntry .autoloopEnter p)) :=
    .of_units (by simp) (by simp) (by simp)
  exact ⟨_, rfl, .ite (fun _ => hentered.trans (State.settleReset_roleLawsKept _)) (.refl s)⟩

/-- Every command but a power-on reset and the CONTROL commands keeps the laws. -/
theorem exec_event_roleLawsKept {c : Instr} (hr : c ∉ controlRows) (hp : ∀ straps, c ≠ .powerOnReset straps)
    (s : State) : ∃ t, exec c s = .next t ∧ s.RoleLawsKept t := by
  cases c
  case powerOnReset straps => exact absurd rfl (hp straps)
  case frameSent p => exact exec_frameSent_roleLawsKept s p
  case autoloopEnter p => exact exec_autoloopEnter_roleLawsKept s p
  case takeCabAnnounce => exact ⟨_, rfl, State.consume_roleLawsKept State.takeAnnounce_roleLawsKept⟩
  case takeInverterStatus => exact ⟨_, rfl, State.consume_roleLawsKept State.inverterStatus_roleLawsKept⟩
  case takeStopPress => exact ⟨_, rfl, State.consume_roleLawsKept State.stopPressTaken_roleLawsKept⟩
  case announceTimerExpiry =>
    exact ⟨_, rfl, .ite (fun _ => (s.onCru_roleLawsKept rfl).trans (State.sendAnnounce_roleLawsKept _)) (.refl s)⟩
  case claimWindowExpiry | clearTimerExpiry =>
    exact ⟨_, rfl, .ite (fun _ => State.setRole_roleLawsKept_ne nofun) (.refl s)⟩
  case cabEntryTimeout cab => exact ⟨_, rfl, .ite (fun _ => s.entryTimeout_roleLawsKept cab) (.refl s)⟩
  case releasingTimerExpiry => exact ⟨_, rfl, .ite (fun _ => s.keyOffMoving_roleLawsKept 2) (.refl s)⟩
  case cabLampFlash => exact ⟨_, rfl, .ite (fun _ => s.onCru_roleLawsKept rfl) (.refl s)⟩
  case debouncedChange i level =>
    have hset : s.RoleLawsKept (s.setLevel i level) := .of_units rfl rfl rfl
    exact ⟨_, rfl, .ite (fun _ => hset.trans (State.deliverChange_roleLawsKept _ i level)) (.refl s)⟩
  case graceTimerExpiry =>
    have hbraked {i : LogInfo} (hdriving : s.tdu.driving = true) : s.RoleLawsKept ((s.log i).emergency 2) :=
      (s.log_roleLawsKept i).trans (State.emergency_roleLawsKept (s := s.log i) hdriving 2)
    exact ⟨_, rfl, .ite (fun h => hbraked h.1) (.refl s)⟩
  case demandPeriod => exact ⟨_, rfl, .ite (fun _ => s.period_roleLawsKept) (.refl s)⟩
  case refreshTimerExpiry => exact ⟨_, rfl, .ite (fun _ => s.indicateRequested_roleLawsKept) (.refl s)⟩
  case inhibitTimerExpiry => exact ⟨_, rfl, .ite (fun h => State.inhibitEnds_roleLawsKept h.1) (.refl s)⟩
  case handleSample => exact ⟨_, rfl, .of_units (by simp) (by simp) (by simp)⟩
  case carrierGain | carrierLoss =>
    exact ⟨_, rfl, .ite (fun _ => .ite (fun _ => .of_units (by simp) (by simp) (by simp))
      (.of_units (by simp) (by simp) (by simp))) (.refl s)⟩
  case frameEnd | retryTimerExpiry =>
    refine ⟨_, rfl, ?_⟩
    split
    · exact .ite (fun _ => .of_units (by simp) (by simp) (by simp)) (.refl s)
    · exact .refl s
  case pointRequestTransmit | pointRequestSent =>
    refine ⟨_, rfl, ?_⟩
    split
    · exact .refl s
    · exact .ite (fun _ => .of_units (by simp [State.reportSent]) (by simp [State.reportSent])
        (by simp [State.reportSent])) (.refl s)
  case frameStart | skippedFrameEnd | lengthError | syncLoss | receiverDown | receiverUp | autoloopExit |
      learningTimerExpiry | loopReportHoldExpiry | fillPairSent | handleFault | handleFaultCleared |
      telegramStart | loopLengthError | telegramReceived | stepEnd | recoveryTimerExpiry | reportTimerExpiry |
      bitJudged =>
    exact ⟨_, rfl, .ite (fun _ => .of_units (by simp) (by simp) (by simp)) (.refl s)⟩
  all_goals exact absurd (by decide) hr

/-! ### Every step -/

/-- A bit time moves timers alone (R165). -/
theorem State.clock_roleLawsKept (s : State) : s.RoleLawsKept s.clock := by
  obtain ⟨-, hwithin, hends⟩ := s.clock_units
  by_cases hm : s.cmn.micros + 1 < 1000
  · obtain ⟨-, -, hcru, -, htdu, -, hsru, -⟩ := hwithin hm
    exact .of_units hcru htdu hsru
  · obtain ⟨-, -, hcru, -, htdu, -, hsru, -⟩ := hends (not_lt.1 hm)
    exact .of_same (by rw [hcru]; rfl) (by rw [htdu]; rfl) (by rw [hsru]; rfl) (by rw [hsru]; rfl)

theorem step_roleLawsKept {t : State} (hs : step s = .next t) : s.RoleLawsKept t := by
  unfold Machine.step at hs
  split at hs
  · cases hs
    exact s.clock_roleLawsKept
  · next c rest _ =>
    have hqueue : s.RoleLawsKept { s with pending := rest } := .of_units rfl rfl rfl
    by_cases hr : c ∈ controlRows
    · obtain ⟨u, hu, hkept⟩ := exec_control_roleLawsKept hr { s with pending := rest }
      cases hs.symm.trans hu
      exact hqueue.trans hkept
    · by_cases hp : ∃ straps, c = .powerOnReset straps
      · obtain ⟨straps, rfl⟩ := hp
        cases hs
        exact .of_reset rfl rfl nofun rfl
      · obtain ⟨u, hu, hkept⟩ :=
          exec_event_roleLawsKept hr (fun straps k => hp ⟨straps, k⟩) { s with pending := rest }
        cases hs.symm.trans hu
        exact hqueue.trans hkept

/-- Settles O58: each command keeps both laws from the state it is taken in, and a bit time moves neither the role,
nor traction, nor the record. -/
theorem roleLawsAreKept : Obligations.RoleLawsAreKept :=
  ⟨fun _ _ h hs => (step_roleLawsKept hs).traction h, fun _ _ h hs => (step_roleLawsKept hs).stop h⟩

end Sys2Proof.Machine
end

section
/-! SUPPORT. The stages of a demand period one by one: the bands of the handle, the door interlock and the ramp, with
the statements about them (R96, R98, R102). -/

namespace Sys2Proof.Machine

variable {p : Profile} {h e a r d dt k : Int} {w : Work} {bar : Bool}

/-! ### Stage 1: the handle target (R96) -/

theorem handleTarget_fault (p : Profile) (h : Int) : handleTarget p true h = -1000 := rfl

theorem handleTarget_fullBrake (hh : h ≤ p.hb) : handleTarget p false h = -1000 := if_pos hh

theorem handleTarget_brake (hlo : p.hb < h) (hhi : h < p.hn1) :
    handleTarget p false h = -((1000 * (p.hn1 - h)).tdiv (p.hn1 - p.hb)) := by
  rw [handleTarget, if_neg nofun, if_neg (by omega), if_pos hhi]

theorem handleTarget_neutral (hb : p.hb < p.hn1) (hlo : p.hn1 ≤ h) (hhi : h ≤ p.hn2) : handleTarget p false h = 0 := by
  rw [handleTarget, if_neg nofun, if_neg (by omega), if_neg (by omega), if_pos hhi]

theorem handleTarget_power (hb : p.hb < p.hn1) (hn : p.hn1 ≤ p.hn2) (hlo : p.hn2 < h) (hhi : h < p.hp) :
    handleTarget p false h = (1000 * (h - p.hn2)).tdiv (p.hp - p.hn2) := by
  rw [handleTarget, if_neg nofun, if_neg (by omega), if_neg (by omega), if_neg (by omega), if_pos hhi]

theorem handleTarget_fullPower (hb : p.hb < p.hn1) (hn : p.hn1 ≤ p.hn2) (hp : p.hn2 < p.hp) (hh : p.hp ≤ h) :
    handleTarget p false h = 1000 := by
  rw [handleTarget, if_neg nofun, if_neg (by omega), if_neg (by omega), if_neg (by omega), if_neg (by omega)]

/-- A part of a band, in thousandths of it (R96). -/
theorem thousandths_bounds {x band : Int} (hpos : 0 < band) (hlo : 0 ≤ x) (hhi : x ≤ band) :
    0 ≤ (1000 * x).tdiv band ∧ (1000 * x).tdiv band ≤ 1000 := by
  rw [Int.tdiv_eq_ediv_of_nonneg (by omega)]
  exact ⟨Int.ediv_nonneg (by omega) hpos.le, Int.ediv_le_of_le_mul hpos (by omega)⟩

/-- Settles O32: a lemma for each band, and the bounds of a part of a band. -/
theorem handleTargetFollowsTheCalibration : Obligations.HandleTargetFollowsTheCalibration := by
  intro p h hb hn hp
  refine ⟨handleTarget_fault p h, handleTarget_fullBrake, fun hlo hhi => ?brake, handleTarget_neutral hb,
    fun hlo hhi => ?power, handleTarget_fullPower hb hn hp⟩
  case brake =>
    have htarget := handleTarget_brake hlo hhi
    obtain ⟨hge, hle⟩ := thousandths_bounds (x := p.hn1 - h) (band := p.hn1 - p.hb) (by omega) (by omega) (by omega)
    exact ⟨htarget, by omega, by omega⟩
  case power =>
    have htarget := handleTarget_power hb hn hlo hhi
    obtain ⟨hge, hle⟩ := thousandths_bounds (x := h - p.hn2) (band := p.hp - p.hn2) (by omega) (by omega) (by omega)
    exact ⟨htarget, by omega, by omega⟩

/-! ### Stage 3: the door interlock (R98) -/

theorem stageDoor_on (w : Work) : stageDoor true w = ({ w with dt := min w.dt 0 } : Work).powerCut := rfl

/-- Settles O33: the target held to 0, and the power cut where D is above 0. -/
theorem doorInterlockCutsPower : Obligations.DoorInterlockCutsPower := by
  intro w
  have habove (hd : 0 < w.d) : stageDoor true w = { dt := min w.dt 0, d := 0, r := 0, cut := true } :=
    (stageDoor_on w).trans (Work.powerCut_above (w := { w with dt := min w.dt 0 }) hd)
  have hbelow (hd : w.d ≤ 0) : stageDoor true w = { w with dt := min w.dt 0 } :=
    (stageDoor_on w).trans (Work.powerCut_below (w := { w with dt := min w.dt 0 }) hd)
  refine ⟨?_, habove, hbelow, rfl⟩
  rcases lt_or_ge 0 w.d with hd | hd
  · rw [habove hd]
  · rw [hbelow hd]

/-! ### Stage 6: the rate (R102) -/

theorem rampRate_reached (p : Profile) (r : Int) : rampRate p 0 r = 0 := if_pos rfl

/-- Below the target: from rest or against it the rate moves towards it, and along it its magnitude is judged. -/
theorem rampRate_rising (he : 0 < e) : rampRate p e r =
    if r ≤ 0 then clampInt (-p.rateLimit) p.rateLimit (r + p.jerk) else rampMagnitude p e r := by
  have hagainst : (r = 0 ∨ r.sign ≠ e.sign) ↔ r ≤ 0 := by
    rw [Int.sign_eq_one_of_pos he, ne_eq, Int.sign_eq_one_iff_pos]
    omega
  rw [rampRate, if_neg he.ne', if_congr hagainst rfl rfl, Int.sign_eq_one_of_pos he]
  split
  · rw [one_mul]
  · rw [one_mul, Int.natAbs_of_nonneg he.le, Int.natAbs_of_nonneg (by omega)]

/-- Above the target, the same the other way round. -/
theorem rampRate_falling (he : e < 0) : rampRate p e r =
    if 0 ≤ r then clampInt (-p.rateLimit) p.rateLimit (r - p.jerk) else -rampMagnitude p (-e) (-r) := by
  have hagainst : (r = 0 ∨ r.sign ≠ e.sign) ↔ 0 ≤ r := by
    rw [Int.sign_eq_neg_one_of_neg he, ne_eq, Int.sign_eq_neg_one_iff_neg]
    omega
  rw [rampRate, if_neg he.ne, if_congr hagainst rfl rfl, Int.sign_eq_neg_one_of_neg he]
  split
  · rw [neg_one_mul, ← sub_eq_add_neg]
  · rw [neg_one_mul, Int.ofNat_natAbs_of_nonpos he.le, Int.ofNat_natAbs_of_nonpos (by omega)]

/-- A rate along the target keeps its direction and its limit. -/
theorem rampMagnitude_bounds (hj : 1 ≤ p.jerk) (hjl : p.jerk ≤ p.rateLimit) (he : 0 < e) (ha : 0 ≤ a)
    (hal : a ≤ p.rateLimit) : 0 ≤ rampMagnitude p e a ∧ rampMagnitude p e a ≤ p.rateLimit := by
  unfold rampMagnitude
  repeat' split
  all_goals omega

theorem clampInt_bounds {lo hi : Int} (hlh : lo ≤ hi) (n : Int) : lo ≤ clampInt lo hi n ∧ clampInt lo hi n ≤ hi := by
  rw [clampInt_eq hlh]
  omega

/-- The new rate stays within the limit (R102). -/
theorem rampRate_bounds (e : Int) (hj : 1 ≤ p.jerk) (hjl : p.jerk ≤ p.rateLimit) (hlo : -p.rateLimit ≤ r)
    (hhi : r ≤ p.rateLimit) : -p.rateLimit ≤ rampRate p e r ∧ rampRate p e r ≤ p.rateLimit := by
  have hclamp := clampInt_bounds (lo := -p.rateLimit) (hi := p.rateLimit) (by omega)
  rcases lt_trichotomy e 0 with he | rfl | he
  · rw [rampRate_falling he]
    split
    · exact hclamp _
    · have := rampMagnitude_bounds (e := -e) (a := -r) hj hjl (by omega) (by omega) (by omega)
      omega
  · rw [rampRate_reached]
    omega
  · rw [rampRate_rising he]
    split
    · exact hclamp _
    · have := rampMagnitude_bounds (a := r) hj hjl he (by omega) hhi
      omega

/-- From rest the new rate is a step of the jerk at most (R102). -/
theorem rampRate_rest (e : Int) (hj : 1 ≤ p.jerk) (hjl : p.jerk ≤ p.rateLimit) :
    -p.jerk ≤ rampRate p e 0 ∧ rampRate p e 0 ≤ p.jerk := by
  have hclamp := clampInt_eq (lo := -p.rateLimit) (hi := p.rateLimit) (by omega)
  rcases lt_trichotomy e 0 with he | rfl | he
  · rw [rampRate_falling he, if_pos le_rfl, hclamp]
    omega
  · rw [rampRate_reached]
    omega
  · rw [rampRate_rising he, if_pos le_rfl, hclamp]
    omega

/-! ### Stage 6: the move of D (R102) -/

/-- D moved by the rate passes its target. -/
def rampPasses (dt d r : Int) : Prop := (0 < dt - d ∧ dt < d + r) ∨ (dt - d < 0 ∧ d + r < dt)

/-- The sign of the distance left turns exactly where D passes its target. -/
theorem rampPasses_iff (hreached : dt - d = 0 → r = 0) :
    (dt - (d + r) ≠ 0 ∧ (dt - (d + r)).sign ≠ (dt - d).sign) ↔ rampPasses dt d r := by
  unfold rampPasses
  rcases lt_trichotomy (dt - d) 0 with he | he | he
  · rw [Int.sign_eq_neg_one_of_neg he, ne_eq, ne_eq, Int.sign_eq_neg_one_iff_neg]
    omega
  · have := hreached he
    omega
  · rw [Int.sign_eq_one_of_pos he, ne_eq, ne_eq, Int.sign_eq_one_iff_pos]
    omega

/-- The corrections behind a move: D clamped, and set to 0 with R where it is above 0 under the power bar. -/
def rampHeld (bar : Bool) (d r : Int) : Int × Int :=
  if bar = true ∧ 0 < max (-1000) (min 1000 d) then (0, 0) else (max (-1000) (min 1000 d), r)

theorem rampMove_passed (hreached : dt - d = 0 → r = 0) (hpass : rampPasses dt d r) :
    rampMove bar dt d r = rampHeld bar dt 0 := by
  unfold rampMove rampHeld
  dsimp only
  rw [if_pos ((rampPasses_iff hreached).2 hpass), clampInt_eq (by decide)]

theorem rampMove_within (hreached : dt - d = 0 → r = 0) (hpass : ¬ rampPasses dt d r) :
    rampMove bar dt d r = rampHeld bar (d + r) r := by
  unfold rampMove rampHeld
  dsimp only
  rw [if_neg fun k => hpass ((rampPasses_iff hreached).1 k), clampInt_eq (by decide)]

/-- `x` is within `k` of `d`, and within the range of the demand with a rate within `k`, unless a positive D was cut
to 0. -/
structure RampWithin (k d : Int) (bar : Bool) (x : Int × Int) : Prop where
  above : -1000 ≤ x.1
  below : x.1 ≤ 1000
  rate : -k ≤ x.2 ∧ x.2 ≤ k
  moved : (-k ≤ x.1 - d ∧ x.1 - d ≤ k) ∨ (bar = true ∧ 0 < d ∧ x.1 = 0)

/-- The corrections take D no further from where it was. -/
theorem rampHeld_within {d' r' : Int} (hlo : -1000 ≤ d) (hhi : d ≤ 1000) (hmove : -k ≤ d' - d ∧ d' - d ≤ k)
    (hrate : -k ≤ r' ∧ r' ≤ k) : RampWithin k d bar (rampHeld bar d' r') := by
  unfold rampHeld
  split
  · next hcut =>
    obtain ⟨hbar, hpower⟩ := hcut
    refine ⟨by decide, by decide, by dsimp only; omega, ?_⟩
    rcases lt_or_ge 0 d with hd | hd
    · exact .inr ⟨hbar, hd, rfl⟩
    · exact .inl (by dsimp only; omega)
  · exact ⟨by dsimp only; omega, by dsimp only; omega, hrate, .inl (by dsimp only; omega)⟩

/-- D moves by its rate at most, from within its range (R102). -/
theorem rampMove_bounds (hreached : dt - d = 0 → r = 0) (hlo : -1000 ≤ d) (hhi : d ≤ 1000)
    (hrate : -k ≤ r ∧ r ≤ k) : RampWithin k d bar (rampMove bar dt d r) := by
  by_cases hpass : rampPasses dt d r
  · rw [rampMove_passed hreached hpass]
    unfold rampPasses at hpass
    exact rampHeld_within hlo hhi (by omega) (by omega)
  · rw [rampMove_within hreached hpass]
    exact rampHeld_within hlo hhi (by omega) hrate

theorem rampMove_barred (dt d r : Int) : (rampMove true dt d r).1 ≤ 0 := by
  unfold rampMove
  extract_lets e d' x y
  split
  · exact Int.le_refl 0
  · next hbar => exact not_lt.1 fun k => hbar ⟨rfl, k⟩

/-! ### Stage 6: the ramp (R102) -/

/-- The rate of a period that is not cut, from R as the last one left it. -/
def rampNext (p : Profile) (w : Work) : Int :=
  rampRate p (w.dt - w.d) (max (-p.rateLimit) (min p.rateLimit w.r))

/-- The rate taken up from the last period is clamped first. -/
theorem rate_clamped (hl : 1 ≤ p.rateLimit) (r : Int) :
    -p.rateLimit ≤ max (-p.rateLimit) (min p.rateLimit r) ∧ max (-p.rateLimit) (min p.rateLimit r) ≤ p.rateLimit := by
  omega

theorem stageRamp_cut (bar : Bool) (hcut : w.cut = true) : stageRamp p bar w = { w with d := 0, r := 0 } :=
  if_pos hcut

theorem stageRamp_moves (bar : Bool) (hl : 1 ≤ p.rateLimit) (hcut : w.cut = false) : stageRamp p bar w =
    { w with d := (rampMove bar w.dt w.d (rampNext p w)).1, r := (rampMove bar w.dt w.d (rampNext p w)).2 } := by
  rw [stageRamp, if_neg (by simp [hcut]), rampNext, clampInt_eq (by omega)]

theorem rampNext_reached (h : w.dt - w.d = 0) : rampNext p w = 0 := by
  rw [rampNext, h, rampRate_reached]

/-- No power comes out of the ramp under the power bar (R95, R102). -/
theorem stageRamp_barred (p : Profile) (w : Work) : (stageRamp p true w).d ≤ 0 := by
  unfold stageRamp
  split
  · exact le_rfl
  · exact rampMove_barred ..

/-- The magnitude of a rate along its target, with the distance it still covers written out. -/
theorem rampMagnitude_eq {cover : Int → Int}
    (hcover : ∀ x n, n = x / p.jerk → cover x = n * x - p.jerk * (n * (n + 1)) / 2) : rampMagnitude p e a =
      if e ≤ cover a then (if a ≤ p.jerk then min p.jerk e else a - p.jerk)
      else if cover (a + p.jerk) + (a + p.jerk) ≤ e then min (a + p.jerk) p.rateLimit
      else a := by
  have hdistance (x : Int) : cover x = stopDistance p.jerk x := hcover x _ rfl
  simp only [rampMagnitude, hdistance, sub_nonpos, ge_iff_le]

/-- The three cases of the rate, from one within the limit. -/
theorem rampRate_cases (hl : 1 ≤ p.rateLimit) (hj : 1 ≤ p.jerk) (hlo : -p.rateLimit ≤ r) (hhi : r ≤ p.rateLimit) :
    rampRate p e r =
      if e = 0 then 0
      else if 0 < e then
        (if r ≤ 0 then min p.rateLimit (r + p.jerk) else rampMagnitude p (max e (-e)) (max r (-r)))
      else (if 0 ≤ r then max (-p.rateLimit) (r - p.jerk) else -rampMagnitude p (max e (-e)) (max r (-r))) := by
  have hclamp := clampInt_eq (lo := -p.rateLimit) (hi := p.rateLimit) (by omega)
  rcases lt_trichotomy e 0 with he | rfl | he
  · rw [rampRate_falling he, if_neg he.ne, if_neg he.not_gt, hclamp, max_eq_right (by omega : e ≤ -e)]
    split
    · omega
    · rw [max_eq_right (by omega : r ≤ -r)]
  · rw [rampRate_reached, if_pos rfl]
  · rw [rampRate_rising he, if_neg he.ne', if_pos he, hclamp, max_eq_left (by omega : -e ≤ e)]
    split
    · omega
    · rw [max_eq_left (by omega : -r ≤ r)]

/-- Settles O34: the ramp by its rate and its move, and the law by the bounds of both. -/
theorem rampKeepsItsLaw : Obligations.RampKeepsItsLaw := by
  refine ⟨fun p bar w => stageRamp_cut bar, ?cases, fun p bar w hl _ hj hjl _ _ hlo hhi => ?law⟩
  case cases =>
    intro p bar w e r m a a' r' d₁ r₁ d₂ cover hl hj hcut hcover he hr hm ha ha' hr' hd₁ hr₁ hd₂
    have hrate : rampNext p w = r' := by
      rw [← rampMagnitude_eq hcover, hm, ha] at ha'
      obtain ⟨hge, hle⟩ := rate_clamped hl w.r
      rw [rampNext, rampRate_cases hl hj hge hle, ← he, ← hr, ← ha', ← hr']
    have hreached : w.dt - w.d = 0 → r' = 0 := fun k => hrate ▸ rampNext_reached k
    have hmove : rampMove bar w.dt w.d r' = rampHeld bar d₁ r₁ := by
      subst he
      by_cases hpass : rampPasses w.dt w.d r'
      · rw [rampMove_passed hreached hpass, hd₁.trans (if_pos hpass), hr₁.trans (if_pos hpass)]
      · rw [rampMove_within hreached hpass, hd₁.trans (if_neg hpass), hr₁.trans (if_neg hpass)]
    rw [stageRamp_moves bar hl hcut, hrate, hmove, rampHeld, ← hd₂]
    split <;> rfl
  case law =>
    refine ⟨_, rfl, ?_⟩
    cases hcut : w.cut with
    | true =>
      rw [stageRamp_cut bar hcut]
      refine ⟨?_, ?_, ?_, ?_, .inr (.inr ⟨rfl, rfl⟩), nofun⟩ <;> dsimp only <;> omega
    | false =>
      rw [stageRamp_moves bar hl hcut]
      have hmoves {k : Int} (hrate : -k ≤ rampNext p w ∧ rampNext p w ≤ k) :=
        rampMove_bounds (bar := bar) (fun h => rampNext_reached (p := p) h) hlo hhi hrate
      obtain ⟨hge, hle⟩ := rate_clamped hl w.r
      obtain ⟨habove, hbelow, hrate, hmoved⟩ := hmoves (rampRate_bounds _ hj hjl hge hle)
      refine ⟨habove, hbelow, hrate.1, hrate.2, ?_, fun hrest _ hbar => ?_⟩
      · exact hmoved.imp_right fun k => .inl ⟨k.2.1, k.2.2⟩
      · have hstep : -p.jerk ≤ rampNext p w ∧ rampNext p w ≤ p.jerk := by
          rw [rampNext, hrest, min_eq_right (by omega), max_eq_right (by omega)]
          exact rampRate_rest _ hj hjl
        refine (hmoves hstep).moved.resolve_right fun k => ?_
        rcases hbar with hoff | hd
        · exact absurd k.1 (by simp [hoff])
        · omega

end Sys2Proof.Machine
end

section
/-! SUPPORT. A demand period under the power bar and in EMERGENCY, with the statements about them (R91, R92, R95, R97,
R103). -/

namespace Sys2Proof.Machine

variable {s u : State} {p : Profile} {h : Nat}

theorem exec_demandPeriod_due (hstate : s.tdu.state ≠ .off) (htimer : s.tdu.periodTimer = some 0) :
    exec .demandPeriod s =
      .next (s.opened.computeDemand (s.tdu.live.getD s.tdu.shadow)).deadmanCheck.releasingFinding :=
  congrArg _ (if_pos ⟨hstate, htimer⟩)

/-! ### Under the power bar -/

/-- The D of a period in RUN or HOLD is the one of the ramp, under the bar of its own C and V (R95). -/
theorem State.drivePeriod_ramp (u : State) (p : Profile) (dh c : Int) :
    (u.drivePeriod p dh c).tdu.record.c = c ∧ ∃ w, (u.drivePeriod p dh c).tdu.d =
      (stageRamp p (powerBar (decide (u.tdu.state = .hold)) (u.level .doorRelease) c u.tdu.facts.v) w).d := by
  unfold State.drivePeriod
  dsimp only
  generalize hw : State.onTdu _ _ = w
  obtain ⟨n, htdu⟩ := w.emitDemand_tdu _ _ _
  rw [htdu, ← hw]
  exact ⟨rfl, _, rfl⟩

theorem powerBar_of {hold door : Bool} {c : Int} {v : Option Int}
    (hbar : hold = true ∨ door = true ∨ ∃ x, v = some x ∧ c ≤ x) : powerBar hold door c v = true := by
  unfold powerBar
  rcases hbar with rfl | rfl | ⟨x, rfl, hx⟩
  · rfl
  · simp
  · simp [hx]

/-- No power comes out of a period in RUN or HOLD under the power bar (R95). -/
theorem State.drivePeriod_barred (u : State) (p : Profile) (dh c : Int)
    (hbar : u.tdu.state = .hold ∨ u.level .doorRelease = true ∨ ∃ x, u.tdu.facts.v = some x ∧ c ≤ x) :
    (u.drivePeriod p dh c).tdu.d ≤ 0 := by
  obtain ⟨-, w, hd⟩ := u.drivePeriod_ramp p dh c
  rw [hd, powerBar_of (hbar.imp_left decide_eq_true)]
  exact stageRamp_barred p w

theorem State.leaveEmergency_stays (hstate : s.tdu.state ≠ .emergency) (dh : Int) : s.leaveEmergency dh = s :=
  if_neg fun k => hstate k.1

/-- The D of a period, judged by the state it leaves: EMERGENCY and every bar of R95 keep it from power. -/
theorem State.computeDemand_barred (u : State) (p : Profile)
    (hbar : u.level .doorRelease = true ∨ u.tdu.state = .hold ∨ (u.computeDemand p).tdu.state = .hold ∨
      (u.computeDemand p).tdu.state = .emergency ∨
      ∃ v, (u.computeDemand p).tdu.facts.v = some v ∧ (u.computeDemand p).tdu.record.c ≤ v) :
    (u.computeDemand p).tdu.d ≤ 0 := by
  unfold State.computeDemand at hbar ⊢
  dsimp only at hbar ⊢
  generalize handleTarget p u.ciu.fault u.readHandle = dh at hbar ⊢
  generalize hz : u.drawHandle.leaveEmergency dh = z at hbar ⊢
  have hdrawn : u.drawHandle.tdu = u.tdu := by simp
  by_cases hbrakes : z.tdu.state = .emergency
  · rw [if_pos hbrakes, (z.brakePeriod_tdu _ _).2]
    decide
  · rw [if_neg hbrakes] at hbar ⊢
    obtain ⟨hstate, -, -, -, hfacts, -⟩ := z.drivePeriod_tdu p dh (u.capC p.maxSpeed)
    rw [hstate, hfacts, (z.drivePeriod_ramp p dh (u.capC p.maxSpeed)).1] at hbar
    refine z.drivePeriod_barred p dh _ ?_
    rcases hbar with hdoor | hheld | hhold | hemergency | hcap
    · exact .inr (.inl ((State.level_of_ciu (by simp [← hz]) _).trans hdoor))
    · refine .inl ?_
      rw [← hz, State.leaveEmergency_stays (by rw [hdrawn, hheld]; decide), hdrawn, hheld]
    · exact .inl hhold
    · exact absurd hemergency hbrakes
    · exact .inr (.inr hcap)

/-- The dead-man check moves the grace timer alone (R77). -/
theorem State.deadmanCheck_tdu (s : State) : ∃ g, s.deadmanCheck.tdu = { s.tdu with grace := g } := by
  unfold State.deadmanCheck Tdu.startGrace
  split
  · rw [State.onTdu_tdu]
    split <;> exact ⟨_, rfl⟩
  · exact ⟨s.tdu.grace, rfl⟩

/-- The finding for releasing leaves traction as it is, or takes it OFF (R66, R90). -/
theorem State.releasingFinding_tdu (s : State) :
    s.releasingFinding.tdu = s.tdu ∨ s.releasingFinding.tdu = s.tdu.stopped := by
  by_cases hr : s.cru.role ≠ .active ∨ s.cru.releasing = false
  · exact .inl (congrArg State.tdu (State.releasingFinding_none hr))
  · obtain ⟨hrole, hrel⟩ := not_or.1 hr
    rw [ne_eq, not_not] at hrole
    rw [Bool.not_eq_false] at hrel
    cases hst : s.standing with
    | true =>
      rw [State.releasingFinding_standing hrole hrel hst, State.keyOffMoving_active 1 hrole]
      exact .inr rfl
    | false =>
      rw [State.releasingFinding_moving hrole hrel hst]
      exact .inl rfl

/-- Settles O35: the ramp under the bar, and what follows the stages leaves D or sets it to 0. -/
theorem noPowerUnderTheBar : Obligations.NoPowerUnderTheBar := by
  intro s t hstate htimer hexec hbar
  cases hexec.symm.trans (exec_demandPeriod_due hstate htimer)
  generalize s.tdu.live.getD s.tdu.shadow = p at hbar ⊢
  obtain ⟨hopen, -⟩ := s.opened_tdu
  obtain ⟨-, hciu, -⟩ := s.opened_keeps
  obtain ⟨g, hchecked⟩ := (s.opened.computeDemand p).deadmanCheck_tdu
  rcases (s.opened.computeDemand p).deadmanCheck.releasingFinding_tdu with hkept | hstopped
  · rw [hkept, hchecked] at hbar ⊢
    rw [← State.level_of_ciu hciu, ← hopen] at hbar
    exact s.opened.computeDemand_barred p hbar
  · have hne : (s.opened.computeDemand p).deadmanCheck.tdu.state ≠ .off := by
      rw [hchecked]
      exact fun k => hstate (hopen ▸ (s.opened.computeDemand_off p).1 k)
    rw [hstopped, Tdu.stopped, if_neg hne]
    exact le_rfl

/-! ### In EMERGENCY -/

theorem State.emergencyEnds_iff (s : State) (dh : Int) : s.emergencyEnds dh = true ↔
    s.level .estop = false ∧ s.level .deadman = true ∧ dh ≤ 0 ∧ s.standing = true := by
  simp [State.emergencyEnds, and_assoc]

/-- The stages of a period with H sampled: EMERGENCY is left or not, and the period drives or brakes (R92, R95). -/
theorem State.computeDemand_sampled {t : State} (hh : u.ciu.handle = some h)
    (hleave : u.leaveEmergency (handleTarget p u.ciu.fault h) = t) : u.computeDemand p =
      if t.tdu.state = .emergency then t.brakePeriod (handleTarget p u.ciu.fault h) (u.capC p.maxSpeed)
      else t.drivePeriod p (handleTarget p u.ciu.fault h) (u.capC p.maxSpeed) := by
  have hdraw : u.drawHandle = u := if_neg (by rw [hh]; simp)
  have hread : u.readHandle = (h : Int) := by rw [State.readHandle, hh]
  unfold State.computeDemand
  dsimp only
  rw [hdraw, hread, hleave]

/-- A period in EMERGENCY that finds one of the conditions of R92 wanting stays there. -/
theorem State.computeDemand_brakes (hstate : u.tdu.state = .emergency) (hh : u.ciu.handle = some h)
    (hends : u.emergencyEnds (handleTarget p u.ciu.fault h) = false) :
    u.computeDemand p = u.brakePeriod (handleTarget p u.ciu.fault h) (u.capC p.maxSpeed) := by
  have hleave : u.leaveEmergency (handleTarget p u.ciu.fault h) = u := if_neg fun k => by simp [hends] at k
  rw [State.computeDemand_sampled hh hleave, if_pos hstate]

/-- The state in which EMERGENCY is left: for RUN or HOLD, the sound ended (R92). -/
def State.released (u : State) : State :=
  { u with tdu := { u.tdu with state := u.drivingState }, snu := u.snu.setEmergency false }

theorem State.drivingState_ne (s : State) : s.drivingState ≠ .emergency := by
  unfold State.drivingState
  split <;> decide

/-- A period in EMERGENCY that finds all the conditions of R92 drives as one in RUN or HOLD does. -/
theorem State.computeDemand_releases (hstate : u.tdu.state = .emergency) (hh : u.ciu.handle = some h)
    (hends : u.emergencyEnds (handleTarget p u.ciu.fault h) = true) :
    u.computeDemand p = u.released.drivePeriod p (handleTarget p u.ciu.fault h) (u.capC p.maxSpeed) := by
  have hleave : u.leaveEmergency (handleTarget p u.ciu.fault h) = u.released := if_pos ⟨hstate, hends⟩
  exact (State.computeDemand_sampled hh hleave).trans (if_neg u.drivingState_ne)

/-- The dead-man check asks for the dead-man released in RUN or HOLD (R77). -/
theorem State.deadmanCheck_none (hnone : s.tdu.driving = false ∨ s.level .deadman = true) : s.deadmanCheck = s := by
  refine if_neg fun k => ?_
  rcases hnone with hoff | hheld
  · simp [hoff] at k
  · simp [hheld] at k

theorem State.opened_free (s : State) : s.opened.free = s.free := by simp [State.opened]

/-- A period with nothing behind its stages: the dead-man check finds nothing, and the part is not releasing. -/
theorem exec_demandPeriod_alone (hstate : s.tdu.state ≠ .off) (htimer : s.tdu.periodTimer = some 0)
    (hlive : s.tdu.live = some p) (hrel : s.cru.releasing = false)
    (hcheck : (s.opened.computeDemand p).deadmanCheck = s.opened.computeDemand p) :
    exec .demandPeriod s = .next (s.opened.computeDemand p) := by
  have hnone : (s.opened.computeDemand p).cru.releasing = false := by simp [s.opened_keeps, hrel]
  rw [exec_demandPeriod_due hstate htimer, hlive, Option.getD_some, hcheck, State.releasingFinding_none (.inr hnone)]

/-- Settles O37: the conditions of R92 hold or they do not, and nothing follows the stages: the dead-man is held or
traction is in EMERGENCY, and the part is not releasing. -/
theorem emergencyHoldsUntilReleased : Obligations.EmergencyHoldsUntilReleased := by
  intro s u p h g c hstate htimer hlive hh hrel hu hg hc
  change u = s.opened at hu
  subst hu
  obtain ⟨hcru, hciu, -⟩ := s.opened_keeps
  have halone := exec_demandPeriod_alone (by rw [hstate]; decide) htimer hlive hrel
  have hlevel (i : Input) : s.opened.level i = s.level i := State.level_of_ciu hciu i
  have hopened : s.opened.tdu.state = .emergency := s.opened_tdu.1.trans hstate
  have hends := s.opened.emergencyEnds_iff (handleTarget p s.opened.ciu.fault h)
  rw [hlevel, hlevel] at hends
  rw [← hciu] at hh ⊢
  refine ⟨fun hstands => ?stays, fun hestop hdeadman htarget hstanding => ?leaves⟩
  case stays =>
    have hstays : s.opened.emergencyEnds (handleTarget p s.opened.ciu.fault h) = false := by
      rw [← Bool.not_eq_true, hends]
      rintro ⟨hestop, hdeadman, htarget, hstanding⟩
      simp [hestop, hdeadman, hstanding, htarget.not_gt] at hstands
    have hbrakes := State.computeDemand_brakes hopened hh hstays
    have hoff : (s.opened.computeDemand p).tdu.driving = false := by
      rw [hbrakes, Tdu.driving, (State.brakePeriod_tdu _ _ _).1, hopened]
      rfl
    refine ⟨Config.unformedTarget s.opened.free, ?_⟩
    rw [halone (State.deadmanCheck_none (.inl hoff)), hbrakes, State.brakePeriod, ← hg, ← hc, ← s.opened_free]
    rfl
  case leaves =>
    have hreleases := State.computeDemand_releases hopened hh (hends.2 ⟨hestop, hdeadman, htarget, hstanding⟩)
    have hreleased : s.opened.released = { s.opened with
        tdu := { s.opened.tdu with state := if s.cru.role = .active then .run else .hold }
        snu := s.opened.snu.setEmergency false } := by
      simp [State.released, State.drivingState, hcru, hrel]
    have hheld : (s.opened.computeDemand p).level .deadman = true := by
      rw [State.level_of_ciu (t := s.opened) (by simp), hlevel, hdeadman]
    refine ⟨s.opened.computeDemand p, ?_, halone (State.deadmanCheck_none (.inr hheld))⟩
    rw [← hreleased, hreleases]
    exact s.opened.released.drivePeriod_drives p h

end Sys2Proof.Machine
end

section
/-! SUPPORT. The rules of the Junction Unit that the track loop calls: the lamp and the sounds judged anew (R136,
R137), a context changed in its place, and a point request offered (R114, R127). -/

namespace Sys2Proof.Machine

variable {s : State} {x : Ctx} {j : Nat} {l : List PointRequest} {q : PointRequest}

/-! ### The lamp and the sounds -/

theorem Ctx.warns_iff (x : Ctx) : x.warns = true ↔ x.state ≠ .set ∧ x.state ≠ .passed := by
  simp [Ctx.warns]

theorem Ctx.alerts_iff (x : Ctx) :
    x.alerts = true ↔ x.state = .mismatch ∨ x.state = .refused ∨ x.state = .unanswered :=
  decide_eq_true_iff

theorem Jcu.warning_iff (v : Jcu) : v.warning = true ↔ v.Warns := by
  simp only [Jcu.warning, Jcu.Warns, Bool.or_eq_true, List.any_eq_true, Ctx.warns_iff, or_comm]

theorem Jcu.alert_iff (v : Jcu) : v.alert = true ↔ v.Alerts := by
  simp only [Jcu.alert, Jcu.Alerts, List.any_eq_true, Ctx.alerts_iff]

/-- The judgement changes the lamp and the two sound requests alone (R136, R137). -/
theorem State.judgeJunctions_eq (s : State) : s.judgeJunctions = { s with
    jcu := { s.jcu with routeLamp := s.jcu.warning }
    snu := (s.snu.setWarning s.jcu.warning).setAlertJunction s.jcu.alert } := rfl

/-- The judgement is one by the contexts and the flag as they stand (R136, R137). -/
theorem State.judgeJunctions_signals (s : State) : s.judgeJunctions.Signals s.snu :=
  ⟨s.jcu.warning, s.jcu.alert, s.jcu.warning_iff, s.jcu.alert_iff, rfl, rfl⟩

/-! ### One context -/

theorem Jcu.junction_of_find {v : Jcu} (h : v.find j = some x) : x.junction = j := by
  simpa using List.find?_some h

/-- A context that leaves REQUESTING: its timer stops and its request is withdrawn (R127). -/
theorem State.ctxTo_requesting (f : Ctx → Ctx) (h : x.state = .requesting) : s.ctxTo x f =
    State.judgeJunctions { s with
      jcu := s.jcu.update x.junction fun y => { f y with retry := none }
      llu := s.llu.withdraw x.junction } := by
  unfold State.ctxTo
  dsimp only
  rw [if_pos h]
  rfl

/-! ### Point requests -/

/-- An offer for a junction that has a waiting request takes its place (R114). -/
theorem queueOffer_replaces (h : ∃ y ∈ l, y.junction = q.junction) :
    queueOffer l q = l.map fun y => if y.junction = q.junction then q else y :=
  if_pos (by simpa using h)

/-- An offer for another junction joins the tail where there is room (R114). -/
theorem queueOffer_joins (h : ∀ y ∈ l, y.junction ≠ q.junction) :
    queueOffer l q = if l.length < 8 then l ++ [q] else l :=
  if_neg (by simpa using h)

/-- The waiting requests once `q` has been offered: it counts only while listening (R114). -/
def State.offered (s : State) (q : PointRequest) : List PointRequest :=
  if s.listening then queueOffer s.llu.queue q else s.llu.queue

theorem State.offered_deaf (h : s.listening = false) : s.offered q = s.llu.queue :=
  if_neg (by simp [h])

theorem State.offered_listening (h : s.listening = true) : s.offered q = queueOffer s.llu.queue q := if_pos h

theorem State.offerRequest_eq (s : State) (q : PointRequest) :
    s.offerRequest q = { s with llu := { s.llu with queue := s.offered q } } := by
  unfold State.offerRequest State.offered
  split <;> rfl

/-- An attempt offered: the context is REQUESTING with its timer, and the request is offered (R127). -/
theorem State.offerAttempt_eq (s : State) (j : Nat) (d : Direction) (n : Nat) : s.offerAttempt j d n =
    State.judgeJunctions { s with
      jcu := s.jcu.update j fun y => { y with state := .requesting, attempt := n, retry := some 200 }
      llu := { s.llu with queue := s.offered { junction := j, direction := d, attempt := n } } } := by
  rw [State.offerAttempt, State.offerRequest_eq]
  rfl

/-- A REQUESTING context becomes UNANSWERED: its request is withdrawn, its entry and then its event follow, and the
signals are judged anew (R127, R129, R163; log entry 12). -/
theorem State.toUnanswered_eq (h : x.state = .requesting) : s.toUnanswered x =
    State.judgeJunctions { s with
      jcu := s.jcu.update x.junction fun y => { y with state := .unanswered, retry := none }
      llu := s.llu.withdraw x.junction
      cmn := (s.cmn.note { kind := .junctionUnanswered, block := .jcu, junction := some x.junction
                           value := some (x.attempt : Int) }).count .loopLink } := by
  rw [State.toUnanswered, State.ctxTo_requesting _ h]
  rfl

end Sys2Proof.Machine
end

section
/-! SUPPORT. The loop transmitter (R108, R114) and the retry timer of a context (R127), with the statement about
point requests. -/

namespace Sys2Proof.Machine

variable {s : State} {x : Ctx} {j : Nat} {d : Direction} {q : PointRequest} {l : List PointRequest}

/-! ### The two commands of the transmitter -/

theorem State.listening_iff (s : State) : s.listening = true ↔ s.cru.role = .active ∧ s.llu.carrier = true := by
  simp [State.listening]

theorem Llu.transmitterFree_iff (u : Llu) :
    u.transmitterFree = true ↔ u.sending = none ∧ u.txen = false ∧ 625 ≤ u.txHeld := decide_eq_true_iff

theorem Llu.requestSent_iff (u : Llu) : u.requestSent = true ↔ u.sending.isSome = true ∧ 80000 ≤ u.txHeld := by
  unfold Llu.requestSent
  cases u.sending <;> simp [SendingRequest.thirds_eq]

theorem exec_pointRequestTransmit (hq : s.llu.queue = q :: l) (hl : s.listening = true)
    (hf : s.llu.transmitterFree = true) : exec .pointRequestTransmit s = .next (s.transmitRequest q l) := by
  change execPointRequestTransmit s = _
  rw [execPointRequestTransmit, hq]
  exact congrArg _ (if_pos ⟨hl, hf⟩)

/-- Without a waiting request, or where the part does not listen or the transmitter is not free, nothing is taken. -/
theorem exec_pointRequestTransmit_idle
    (h : s.llu.queue = [] ∨ ¬ (s.listening = true ∧ s.llu.transmitterFree = true)) :
    exec .pointRequestTransmit s = .next s := by
  change execPointRequestTransmit s = _
  unfold execPointRequestTransmit
  cases hq : s.llu.queue with
  | nil => rfl
  | cons q l => exact congrArg _ (if_neg (h.resolve_left (by simp [hq])))

theorem exec_pointRequestSent {q : SendingRequest} (hq : s.llu.sending = some q) (h : 80000 ≤ s.llu.txHeld) :
    exec .pointRequestSent s = .next (s.reportSent q) := by
  change execPointRequestSent s = _
  rw [execPointRequestSent, hq]
  exact congrArg _ (if_pos (s.llu.requestSent_iff.2 ⟨by rw [hq]; rfl, h⟩))

/-- Before the last check bit of a request nothing is reported. -/
theorem exec_pointRequestSent_early (h : s.llu.requestSent = false) : exec .pointRequestSent s = .next s := by
  change execPointRequestSent s = _
  unfold execPointRequestSent
  cases s.llu.sending with
  | none => rfl
  | some q => exact congrArg _ (if_neg (by simp [h]))

/-! ### The measure of LOOP_TXEN -/

theorem Llu.txLimit_eq (u : Llu) (h : u.txen = u.sending.isSome) : u.txLimit = if u.txen then 80000 else 625 := by
  unfold Llu.txLimit
  rw [h]
  cases u.sending <;> simp [SendingRequest.thirds_eq]

theorem step_bitTime (h : s.pending = []) : step s = .next s.clock := by rw [step, h]

/-- What the loop port finds in a bit time waits to be taken behind it (log entries 25, 39). -/
theorem State.mem_clock_pending {c : Instr} (h : c ∈ s.loopEvents) : c ∈ s.clock.pending := by
  rw [State.clock_pending]
  exact List.mem_append_left _ (List.mem_append_right _ h)

theorem State.mem_loopEvents_of_transmitter {c : Instr} (h : c ∈ (s.onLlu Llu.clock).transmitterEvent) :
    c ∈ s.loopEvents := List.mem_append_left _ (List.mem_append_right _ h)

/-- The measure after a bit time, a third of a microsecond being its unit (log entry 25). -/
theorem Llu.clock_txHeld (u : Llu) (h : u.txen = u.sending.isSome) :
    u.clock.txHeld = min (if u.txen then 80000 else 625) (u.txHeld + 3) := by
  rw [← u.txLimit_eq h]
  rfl

/-- The bit time in which the last check bit of a request has been sent (R114). -/
theorem State.transmitterEvent_sent (h : s.llu.txen = s.llu.sending.isSome) (hx : s.llu.txen = true)
    (hn : 79997 ≤ s.llu.txHeld) : .pointRequestSent ∈ (s.onLlu Llu.clock).transmitterEvent := by
  have hheld := s.llu.clock_txHeld h
  rw [if_pos hx] at hheld
  have hsent : s.llu.clock.requestSent = true :=
    s.llu.clock.requestSent_iff.2 ⟨h.symm.trans hx, by omega⟩
  rw [State.transmitterEvent, State.onLlu_llu, if_pos hsent]
  exact List.mem_singleton.2 rfl

/-- The bit time in which LOOP_TXEN has been low for one loop bit, with a request that waits (R114). -/
theorem State.transmitterEvent_free (h : s.llu.txen = s.llu.sending.isSome) (hx : s.llu.txen = false)
    (hn : 622 ≤ s.llu.txHeld) (hl : s.listening = true) (hq : s.llu.queue ≠ []) :
    .pointRequestTransmit ∈ (s.onLlu Llu.clock).transmitterEvent := by
  have hheld := s.llu.clock_txHeld h
  rw [if_neg (by simp [hx])] at hheld
  have hnone : s.llu.sending = none := by simpa [hx] using h.symm
  have hsending : s.llu.clock.sending = none := hnone
  have hsent : ¬ s.llu.clock.requestSent = true := by simp [Llu.requestSent_iff, hsending]
  have hfree : s.llu.clock.transmitterFree = true := s.llu.clock.transmitterFree_iff.2 ⟨hnone, hx, by omega⟩
  rw [State.transmitterEvent, State.onLlu_llu, if_neg hsent, if_pos ⟨hl, hfree, hq⟩]
  exact List.mem_singleton.2 rfl

/-! ### The retry timer -/

theorem exec_retryTimerExpiry (hj : s.jcu.find j = some x) (hx : x.state = .requesting) (hr : x.retry = some 0)
    (hd : x.direction = some d) : exec (.retryTimerExpiry j) s =
      .next (if x.attempt < 5 then s.offerAttempt j d (x.attempt + 1) else s.toUnanswered x) := by
  change execRetryTimerExpiry j s = _
  rw [execRetryTimerExpiry, hj]
  refine congrArg _ ((if_pos ⟨hx, hr⟩).trans ?_)
  rw [State.retryExpiry, hd, Jcu.junction_of_find hj]

/-- Settles O41: the two commands of the transmitter by what they wait for, the measure by one bit time, and the
retry timer by the attempt it ends. -/
theorem pointRequestsAreSentAndRetried : Obligations.PointRequestsAreSentAndRetried := by
  refine ⟨?taken, ?idle, ?early, ?measured, ?sent, ?again, ?unanswered⟩
  case taken =>
    intro s q l t p hrole hcarrier hq hsending htxen hheld hroute hprofile
    rw [exec_pointRequestTransmit hq (s.listening_iff.2 ⟨hrole, hcarrier⟩)
      (s.llu.transmitterFree_iff.2 ⟨hsending, htxen, hheld⟩), State.transmitRequest, hroute, hprofile]
    rfl
  case idle =>
    intro s h
    refine exec_pointRequestTransmit_idle ?_
    by_cases hq : s.llu.queue = []
    · exact .inl hq
    · refine .inr fun ⟨hl, hf⟩ => ?_
      obtain ⟨hsending, htxen, hheld⟩ := s.llu.transmitterFree_iff.1 hf
      simp [hl, hq, hsending, htxen, hheld.not_gt] at h
  case early =>
    intro s h
    refine exec_pointRequestSent_early (Bool.eq_false_iff.2 fun k => ?_)
    obtain ⟨hsome, hheld⟩ := s.llu.requestSent_iff.1 k
    rcases h with hnone | hlt
    · simp [hnone] at hsome
    · omega
  case measured =>
    intro s hp h
    obtain ⟨hllu, -⟩ := s.clock_units
    refine ⟨s.clock, step_bitTime hp, by rw [hllu]; rfl, ?_, fun hx hn => ?_, fun hx hn hl hq => ?_⟩
    · rw [hllu, s.llu.clock_txHeld h]
    · exact State.mem_clock_pending (State.mem_loopEvents_of_transmitter (State.transmitterEvent_sent h hx hn))
    · exact State.mem_clock_pending
        (State.mem_loopEvents_of_transmitter (State.transmitterEvent_free h hx hn hl hq))
  case sent =>
    intro s q hq h
    rw [exec_pointRequestSent hq h]
    rfl
  case again =>
    intro s j x d q hj hx hr hd hn hq
    subst hq
    have hexec := exec_retryTimerExpiry hj hx hr hd
    rw [if_pos hn, State.offerAttempt_eq] at hexec
    refine ⟨_, hexec, rfl, State.judgeJunctions_signals _, rfl, rfl, State.offered_deaf, fun hl => ⟨fun h => ?_, fun h => ?_⟩⟩
    · exact (State.offered_listening hl).trans (queueOffer_replaces h)
    · exact (State.offered_listening hl).trans (queueOffer_joins h)
  case unanswered =>
    intro s j x d hj hx hr hd hn
    have hexec := exec_retryTimerExpiry hj hx hr hd
    rw [if_neg (by omega), State.toUnanswered_eq hx, Jcu.junction_of_find hj, hn] at hexec
    exact ⟨_, hexec, rfl, State.judgeJunctions_signals _, rfl, rfl, rfl⟩

end Sys2Proof.Machine
end

section
/-! SUPPORT. The signals of the junctions set again as they stand: a channel that plays its winner is left as it is
(R154), so that a second context lost with the carrier changes no sound (R129, R136, R137). -/

namespace Sys2Proof.Machine

variable {u : Snu} {c : Channel} {on : Bool}

/-- The channel plays its winner, or nothing where it has none (R154). -/
def Snu.Settled (u : Snu) (c : Channel) : Prop := u.winner c = (u.player c).playing

/-- A decision settles its channel. -/
theorem Snu.settled_arbitrate (u : Snu) (c : Channel) : (u.arbitrate c).Settled c := by
  rw [Snu.Settled, Snu.winner_arbitrate_same, Snu.player_arbitrate_same]
  split
  · assumption
  · rfl

/-- A decision inside leaves the channel outside settled. -/
theorem Snu.Settled.arbitrate_interior (h : u.Settled .exterior) : (u.arbitrate .interior).Settled .exterior := by
  rw [Snu.Settled, Snu.winner_exterior_arbitrate, Snu.player_arbitrate_ne _ (by decide)]
  exact h

theorem Snu.setWarning_same (hw : u.warning = on) (hs : u.Settled .exterior) : u.setWarning on = u := by
  subst hw
  exact Snu.arbitrate_kept hs

theorem Snu.setAlertJunction_same (ha : u.alertJunction = on) (hs : u.Settled .interior) :
    u.setAlertJunction on = u := by
  subst ha
  exact Snu.arbitrate_kept hs

/-- The WARNING source and the claim of CAB_ALERT, both set (R136, R137). -/
def Snu.claimed (u : Snu) : Snu := (u.setWarning true).setAlertJunction true

/-- What is claimed already is not claimed anew. -/
theorem Snu.claimed_claimed (u : Snu) : u.claimed.claimed = u.claimed := by
  obtain ⟨⟨-, -, -, -, -, houter, -, -⟩, -⟩ := Snu.narrows_arbitrate { u with warning := true } .exterior
  obtain ⟨⟨-, -, -, -, -, hinner, -, halert⟩, -⟩ :=
    Snu.narrows_arbitrate { u.setWarning true with alertJunction := true } .interior
  have hwarning : u.claimed.setWarning true = u.claimed :=
    Snu.setWarning_same (hinner.trans houter)
      (Snu.Settled.arbitrate_interior (Snu.settled_arbitrate { u with warning := true } .exterior))
  have hclaim : u.claimed.setAlertJunction true = u.claimed :=
    Snu.setAlertJunction_same halert (Snu.settled_arbitrate _ _)
  rw [Snu.claimed, hwarning, hclaim]

end Sys2Proof.Machine
end

section
/-! SUPPORT. The contexts that a carrier loss leaves UNANSWERED, with their entries and events (R129; log entry 12). -/

namespace Sys2Proof.Machine

variable {s : State} {x : Ctx} {l : List Ctx}

/-! ### Contexts without an answer -/

/-- A context that waits no longer for an answer (R127, R129). -/
def Ctx.unanswered (x : Ctx) : Ctx := { x with state := .unanswered, retry := none }

/-- A context of the list with the junction is REQUESTING. -/
def requestsFor (l : List Ctx) (j : Nat) : Bool := l.any fun x => decide (x.state = .requesting) && x.junction == j

/-- A context of the list is REQUESTING. -/
def anyRequests (l : List Ctx) : Bool := l.any fun x => decide (x.state = .requesting)

theorem anyRequests_iff : anyRequests l = true ↔ ∃ x ∈ l, x.state = .requesting := by
  simp [anyRequests]

/-- With no two contexts of one junction, a context is meant where it is itself REQUESTING (R123). -/
theorem requestsFor_self (h : (l.map fun x => x.junction).Nodup) (hx : x ∈ l) :
    requestsFor l x.junction = decide (x.state = .requesting) := by
  rw [Bool.eq_iff_iff, requestsFor, List.any_eq_true]
  constructor
  · rintro ⟨y, hy, hreq⟩
    rw [Bool.and_eq_true, beq_iff_eq] at hreq
    obtain ⟨hstate, hj⟩ := hreq
    exact List.inj_on_of_nodup_map h hy hx hj ▸ hstate
  · exact fun hstate => ⟨x, hx, by simpa using hstate⟩

/-- The contexts with those of `l` that request UNANSWERED. -/
def unansweredContexts (l contexts : List Ctx) : List Ctx :=
  contexts.map fun y => if requestsFor l y.junction then y.unanswered else y

/-- Each context of a list for which it is itself that requests. -/
theorem unansweredContexts_self (h : (l.map fun x => x.junction).Nodup) : unansweredContexts l l =
    l.map fun x => if x.state = .requesting then { x with state := .unanswered, retry := none } else x :=
  List.map_congr_left fun x hx => by
    rw [requestsFor_self h hx]
    by_cases hstate : x.state = .requesting <;> simp [hstate, Ctx.unanswered]

theorem unansweredContexts_cons (hx : x.state = .requesting) (contexts : List Ctx) :
    unansweredContexts l (contexts.map fun y => if y.junction = x.junction then y.unanswered else y) =
      unansweredContexts (x :: l) contexts := by
  simp only [unansweredContexts, List.map_map]
  refine List.map_congr_left fun y _ => ?_
  by_cases hj : y.junction = x.junction
  · simp [requestsFor, hx, hj, Ctx.unanswered]
  · simp [requestsFor, hj, Ne.symm hj]

/-! ### The monitor -/

/-- The monitor with a context's JUNCTION_UNANSWERED and its LOOP_LINK event, where it is REQUESTING (R129). -/
def noteUnanswered (c : Cmn) (x : Ctx) : Cmn :=
  if x.state = .requesting then
    (c.note { kind := .junctionUnanswered, block := .jcu, junction := some x.junction
              value := some (x.attempt : Int) }).count .loopLink
  else c

theorem Cmn.count_partTime (c : Cmn) (a : Attr) : (c.count a).partTime = c.partTime := by
  unfold Cmn.count Cmn.judgeTrip
  split <;> rfl

theorem Cmn.count_config (c : Cmn) (a : Attr) : (c.count a).config = c.config := by
  unfold Cmn.count Cmn.judgeTrip
  split <;> rfl

theorem foldl_noteUnanswered_partTime (l : List Ctx) (c : Cmn) : (l.foldl noteUnanswered c).partTime = c.partTime :=
  foldl_keeps Cmn.partTime noteUnanswered
    (fun c x => by unfold noteUnanswered; split; exacts [Cmn.count_partTime _ _, rfl]) l c

theorem foldl_noteUnanswered_attrConfig (l : List Ctx) (c : Cmn) (a : Attr) :
    (l.foldl noteUnanswered c).attrConfig a = c.attrConfig a := by
  have hconfig := foldl_keeps Cmn.config noteUnanswered
    (fun c x => by unfold noteUnanswered; split; exacts [Cmn.count_config _ _, rfl]) l c
  rw [Cmn.attrConfig, hconfig]
  rfl

/-! ### The carrier lost -/

/-- Where both conditions hold, both signals stand (R136, R137). -/
theorem State.judgeJunctions_both (hw : s.jcu.warning = true) (ha : s.jcu.alert = true) : s.judgeJunctions =
    { s with jcu := { s.jcu with routeLamp := true }, snu := s.snu.claimed } := by
  rw [State.judgeJunctions_eq, hw, ha]
  rfl

/-- A REQUESTING context of the list becomes UNANSWERED with nothing waiting in the queue: both signals stand. -/
theorem State.toUnanswered_claims (hx : x.state = .requesting) (hq : s.llu.queue = [])
    (hmem : ∃ y ∈ s.jcu.contexts, y.junction = x.junction) : s.toUnanswered x = { s with
      jcu := { s.jcu.update x.junction Ctx.unanswered with routeLamp := true }
      snu := s.snu.claimed
      cmn := noteUnanswered s.cmn x } := by
  have hwithdrawn : s.llu.withdraw x.junction = s.llu := by
    rw [Llu.withdraw, hq, List.filter_nil, ← hq]
  obtain ⟨y, hy, hj⟩ := hmem
  have hlost : y.unanswered ∈ (s.jcu.update x.junction Ctx.unanswered).contexts :=
    List.mem_map.2 ⟨y, hy, if_pos hj⟩
  have hwarns : (s.jcu.update x.junction Ctx.unanswered).warning = true :=
    (Jcu.warning_iff _).2 (.inr ⟨_, hlost, nofun, nofun⟩)
  have halerts : (s.jcu.update x.junction Ctx.unanswered).alert = true :=
    (Jcu.alert_iff _).2 ⟨_, hlost, .inr (.inr rfl)⟩
  rw [State.toUnanswered_eq hx, hwithdrawn, State.judgeJunctions_both hwarns halerts, noteUnanswered, if_pos hx]
  rfl

/-- The state with the carrier lost to the contexts of `l`. -/
def State.unansweredOver (s : State) (l : List Ctx) : State := { s with
  jcu := { s.jcu with
    contexts := unansweredContexts l s.jcu.contexts, routeLamp := s.jcu.routeLamp || anyRequests l }
  snu := if anyRequests l then s.snu.claimed else s.snu
  cmn := l.foldl noteUnanswered s.cmn }

/-- The carrier lost to open contexts one after another, with nothing waiting in the queue (R129). -/
theorem State.foldl_loseCarrier (l : List Ctx) (s : State) (hq : s.llu.queue = [])
    (hmem : ∀ x ∈ l, ∃ y ∈ s.jcu.contexts, y.junction = x.junction) :
    l.foldl State.loseCarrier s = s.unansweredOver l := by
  induction l generalizing s with
  | nil => simp [State.unansweredOver, unansweredContexts, requestsFor, anyRequests]
  | cons x l ih =>
    obtain ⟨hfirst, hrest⟩ := List.forall_mem_cons.1 hmem
    rw [List.foldl_cons, State.loseCarrier]
    by_cases hx : x.state = .requesting
    · rw [if_pos hx, State.toUnanswered_claims hx hq hfirst, ih]
      · have hmap := unansweredContexts_cons (l := l) hx s.jcu.contexts
        simp only [State.unansweredOver, Jcu.update, hmap, List.foldl_cons]
        simp [anyRequests, hx, Snu.claimed_claimed]
      · exact hq
      · intro z hz
        obtain ⟨y, hy, hj⟩ := hrest z hz
        refine ⟨_, List.mem_map_of_mem hy, ?_⟩
        split
        · exact hj
        · exact hj
    · rw [if_neg hx, ih s hq hrest]
      simp [State.unansweredOver, unansweredContexts, requestsFor, anyRequests, noteUnanswered, hx]

/-- The carrier lost to every open context, with nothing waiting in the queue (R129). -/
theorem State.carrierLost_eq (hq : s.llu.queue = []) : s.carrierLost = s.unansweredOver s.jcu.contexts :=
  State.foldl_loseCarrier _ s hq fun x hx => ⟨x, hx, rfl⟩

/-- A context that was REQUESTING warns and alerts (R136, R137). -/
theorem State.unansweredOver_signals (h : (s.jcu.contexts.map fun x => x.junction).Nodup)
    (hreq : ∃ x ∈ s.jcu.contexts, x.state = .requesting) :
    (s.unansweredOver s.jcu.contexts).Signals s.snu := by
  have hany := anyRequests_iff.2 hreq
  obtain ⟨x, hx, hstate⟩ := hreq
  have hlost : x.unanswered ∈ (s.unansweredOver s.jcu.contexts).jcu.contexts :=
    List.mem_map.2 ⟨x, hx, if_pos (by rw [requestsFor_self h hx, hstate]; rfl)⟩
  refine ⟨true, true, ⟨fun _ => .inr ⟨_, hlost, nofun, nofun⟩, fun _ => rfl⟩,
    ⟨fun _ => ⟨_, hlost, .inr (.inr rfl)⟩, fun _ => rfl⟩, ?_, if_pos hany⟩
  change (s.jcu.routeLamp || anyRequests s.jcu.contexts) = true
  rw [hany, Bool.or_true]

/-- Where no context is REQUESTING the lamp and the sounds are left alone. -/
theorem State.unansweredOver_quiet (hnone : ∀ x ∈ l, x.state ≠ .requesting) :
    (s.unansweredOver l).jcu.routeLamp = s.jcu.routeLamp ∧ (s.unansweredOver l).snu = s.snu := by
  have hany : anyRequests l = false := by simpa [anyRequests] using hnone
  simp [State.unansweredOver, hany]

end Sys2Proof.Machine
end

section
/-! SUPPORT. The carrier filter and the two commands that a carrier change becomes (R106, R107, R110, R114, R116),
with the statement about them. -/

namespace Sys2Proof.Machine

variable {s : State} {u : Llu} {x : DepotTest} {on : Bool}

/-! ### The filter -/

theorem Llu.carrierDue_iff (u : Llu) (on : Bool) : u.carrierDue on = true ↔
    u.cdPin = on ∧ u.carrier ≠ on ∧ ∃ n, u.filter = some n ∧ 5000 ≤ n := by
  unfold Llu.carrierDue
  rw [decide_eq_true_iff]
  cases u.filter <;> simp

theorem LoopLine.next_cd (y : LoopLine) : y.next.cd = y.cd.tail := by
  unfold LoopLine.next
  split <;> rfl

/-- The filter counts a bit time in which LOOP_CD differs from the carrier presence, up to 5 ms (R106). -/
theorem Llu.clock_filter (u : Llu) : u.clock.filter =
    if u.line.cd.headD u.cdPin = u.carrier then none else some (min 5000 (u.filter.getD 0 + 1)) := by
  simp only [Llu.clock, follow, bne_iff_ne, ne_eq, ite_not]

/-- The bit time that makes a change due (R106). -/
theorem Llu.clock_carrierDue (hpin : u.line.cd.headD u.cdPin = on) (hc : u.carrier ≠ on)
    (hn : 4999 ≤ u.filter.getD 0) : u.clock.carrierDue on = true := by
  rw [Llu.carrierDue_iff, Llu.clock_filter, if_neg (by rw [hpin]; exact hc.symm)]
  exact ⟨hpin, hc, _, rfl, by omega⟩

/-- The change that is due is the one that is found. -/
theorem Llu.mem_carrierEvent (h : u.carrierDue on = true) :
    (if on then Instr.carrierGain else .carrierLoss) ∈ u.carrierEvent := by
  unfold Llu.carrierEvent
  cases on with
  | true => simp [h]
  | false =>
    obtain ⟨hpin, -⟩ := (u.carrierDue_iff false).1 h
    have hgain : u.carrierDue true = false := by simp [Llu.carrierDue, hpin]
    simp [h, hgain]

/-- The filter behind a reset, LOOP_CD keeping its level: low, it agrees with the absent carrier, and high, it is
measured from the first bit time on (R106, R119). -/
theorem Llu.clocks_absent (hcd : u.line.cd = []) (hc : u.carrier = false) (hf : u.filter = none) (n : Nat) :
    (Llu.clock^[n] u).line.cd = [] ∧ (Llu.clock^[n] u).carrier = false ∧ (Llu.clock^[n] u).cdPin = u.cdPin ∧
      (Llu.clock^[n] u).filter = if u.cdPin = true ∧ 0 < n then some (min 5000 n) else none := by
  induction n with
  | zero => simp [hcd, hc, hf]
  | succ n ih =>
    obtain ⟨ihcd, ihcarrier, ihpin, ihfilter⟩ := ih
    rw [Function.iterate_succ_apply']
    have hhead : (Llu.clock^[n] u).line.cd.headD (Llu.clock^[n] u).cdPin = u.cdPin := by rw [ihcd, ihpin]; rfl
    refine ⟨(LoopLine.next_cd _).trans (by rw [ihcd]; rfl), ihcarrier, hhead, ?_⟩
    rw [Llu.clock_filter, hhead, ihcarrier, ihfilter]
    cases u.cdPin with
    | false => simp
    | true =>
      have hcount : min 5000 ((if 0 < n then some (min 5000 n) else none).getD 0 + 1) = min 5000 (n + 1) := by
        split
        · rw [Option.getD_some]; omega
        · rw [Option.getD_none]; omega
      simp [hcount]

/-- A LOOP_CD high over a reset is a gain 5 ms later (R106, R119). -/
theorem Llu.carrierDue_clocks_absent (hcd : u.line.cd = []) (hc : u.carrier = false) (hf : u.filter = none) (n : Nat) :
    (Llu.clock^[n] u).carrierDue true = true ↔ u.cdPin = true ∧ 5000 ≤ n := by
  obtain ⟨-, hcarrier, hpin, hfilter⟩ := Llu.clocks_absent hcd hc hf n
  rw [Llu.carrierDue_iff, hcarrier, hpin, hfilter]
  cases u.cdPin with
  | false => simp
  | true => simpa using fun h : 5000 ≤ n => (by omega : 0 < n)

/-! ### The commands -/

theorem exec_carrierGain (h : s.llu.carrierDue true = true) : exec .carrierGain s = .next
    (if s.cru.role = .active then (s.onLlu fun u => u.setCarrier true).onLlu Llu.startListening
    else s.onLlu fun u => u.setCarrier true) := congrArg _ (if_pos h)

theorem exec_carrierGain_early (h : s.llu.carrierDue true = false) : exec .carrierGain s = .next s :=
  congrArg _ (if_neg (by simp [h]))

theorem exec_carrierLoss (h : s.llu.carrierDue false = true) : exec .carrierLoss s = .next
    (if s.cru.role = .active then (s.onLlu fun u => u.setCarrier false).endListening
    else s.onLlu fun u => u.setCarrier false) := congrArg _ (if_pos h)

theorem exec_carrierLoss_early (h : s.llu.carrierDue false = false) : exec .carrierLoss s = .next s :=
  congrArg _ (if_neg (by simp [h]))

/-! ### The result of a test -/

theorem State.testResult_none (h : s.llu.test = none) : s.testResult = s := by
  unfold State.testResult
  rw [h]

/-- The result of a test changes the test, its record and the monitor alone (R116). -/
theorem State.testResult_eq (s : State) : s.testResult = { s with
    llu := { s.llu with test := none, lastTest := s.testResult.llu.lastTest }
    cmn := s.testResult.cmn } := by
  cases h : s.llu.test with
  | none => rw [State.testResult_none h, ← h]
  | some x =>
    unfold State.testResult
    rw [h]
    dsimp only
    split <;> rfl

theorem State.testResult_pass (h : s.llu.test = some x) (hchecked : 4096 ≤ x.checked)
    (herrors : x.errors ≤ (s.cmn.attrConfig .loopLink).testLimit) :
    s.testResult.llu.lastTest = some
        { pass := true, loop := x.loop, checked := x.checked, errors := x.errors, time := s.cmn.partTime } ∧
      s.testResult.cmn = (s.cmn.note { kind := .testPass, block := .llu, junction := some x.loop
                                       value := some (x.errors : Int) }).restore .loopLink := by
  have hpass : x.passes (s.cmn.attrConfig .loopLink).testLimit = true := decide_eq_true ⟨hchecked, herrors⟩
  unfold State.testResult
  rw [h]
  dsimp only
  rw [hpass]
  exact ⟨rfl, rfl⟩

theorem State.testResult_fail (h : s.llu.test = some x)
    (hfail : x.checked < 4096 ∨ (s.cmn.attrConfig .loopLink).testLimit < x.errors) :
    s.testResult.llu.lastTest = some
        { pass := false, loop := x.loop, checked := x.checked, errors := x.errors, time := s.cmn.partTime } ∧
      s.testResult.cmn = (s.cmn.note { kind := .testFail, block := .llu, junction := some x.loop
                                       value := some (x.errors : Int) }).count .loopLink := by
  have hpass : x.passes (s.cmn.attrConfig .loopLink).testLimit = false := decide_eq_false (by omega)
  unfold State.testResult
  rw [h]
  dsimp only
  rw [hpass]
  exact ⟨rfl, rfl⟩

/-! ### Listening ended by a carrier loss -/

/-- The state with the transmitter and the receiver stopped and the contexts unanswered, before the result of a
test (R106, R110, R114, R129). -/
def State.carrierGone (s : State) : State :=
  State.unansweredOver { s with llu := (s.llu.setCarrier false).stopListening } s.jcu.contexts

theorem exec_carrierLoss_listening (h : s.llu.carrierDue false = true) (hr : s.cru.role = .active) :
    exec .carrierLoss s = .next s.carrierGone.testResult := by
  rw [exec_carrierLoss h, if_pos hr, State.endListening, State.carrierLost_eq rfl]
  rfl

/-- Settles O39: the filter by one bit time, the gain by the role, and the loss by what it stops, the contexts in list
order and the result of the test. -/
theorem carrierChangesAreTaken : Obligations.CarrierChangesAreTaken := by
  refine ⟨Llu.carrierDue_iff, fun s h => exec_carrierGain_early h, fun s h => exec_carrierLoss_early h,
    ?measured, ?reset, ?gain, ?present, ?absent, ?loss⟩
  case measured =>
    intro s pin hp hpin
    obtain ⟨hllu, -⟩ := s.clock_units
    have hfound {c : Instr} (hc : c ∈ s.llu.clock.carrierEvent) : c ∈ s.clock.pending :=
      State.mem_clock_pending (List.mem_append_right _ hc)
    refine ⟨s.clock, step_bitTime hp, by rw [hllu, hpin]; rfl, by rw [hllu]; exact LoopLine.next_cd _,
      by rw [hllu, hpin, Llu.clock_filter], fun hn hon hc => ?_, fun hn hoff hc => ?_⟩
    · exact hfound (Llu.mem_carrierEvent
        (Llu.clock_carrierDue (on := true) (hpin.symm.trans hon) (by simp [hc]) hn))
    · exact hfound (Llu.mem_carrierEvent
        (Llu.clock_carrierDue (on := false) (hpin.symm.trans hoff) (by simp [hc]) hn))
  case reset =>
    exact fun u n hcd => ⟨Llu.carrierDue_clocks_absent (u := Llu.powerOn u.cdPin u.line u.lowFor) hcd rfl rfl n,
      Llu.carrierDue_clocks_absent (u := u.controlReset) hcd rfl rfl n⟩
  case gain =>
    intro s h hr hrx
    rw [exec_carrierGain h, if_pos hr]
    have hstart : (s.llu.setCarrier true).startListening = (s.llu.setCarrier true).hunt := if_pos hrx
    simp only [State.onLlu, hstart]
    rfl
  case present =>
    intro s h hr
    rw [exec_carrierGain h, if_neg hr]
    rfl
  case absent =>
    intro s h hr
    rw [exec_carrierLoss h, if_neg hr]
    rfl
  case loss =>
    intro s c h hr hnodup hc
    have hresult := s.carrierGone.testResult_eq
    have htest : s.carrierGone.llu.test = s.llu.test := rfl
    have hcmn : s.carrierGone.cmn = c := hc.symm
    have htime : c.partTime = s.cmn.partTime := by rw [← hcmn]; exact foldl_noteUnanswered_partTime _ _
    have hlimit : c.attrConfig .loopLink = s.cmn.attrConfig .loopLink := by
      rw [← hcmn]; exact foldl_noteUnanswered_attrConfig _ _ _
    refine ⟨_, exec_carrierLoss_listening h hr, ?frame, ?contexts, fun hreq => ?signals, fun hnone => ?quiet, ?llu,
      fun hnone => ?untested, fun x hx => ⟨fun hchecked herrors => ?passed, fun hfail => ?failed⟩⟩
    case frame => rw [hresult]; rfl
    case contexts => rw [hresult, ← unansweredContexts_self hnodup]; rfl
    case signals =>
      have hsignals := State.unansweredOver_signals
        (s := { s with llu := (s.llu.setCarrier false).stopListening }) hnodup hreq
      rw [hresult]
      exact hsignals
    case quiet => rw [hresult]; exact State.unansweredOver_quiet hnone
    case llu => rw [hresult]; rfl
    case untested => rw [State.testResult_none (htest.trans hnone)]; exact ⟨hcmn, rfl⟩
    case passed =>
      have hpass := State.testResult_pass (htest.trans hx) hchecked (by rw [hcmn, hlimit]; exact herrors)
      rwa [hcmn, htime] at hpass
    case failed =>
      have hfailed := State.testResult_fail (htest.trans hx) (by rw [hcmn, hlimit]; exact hfail)
      rwa [hcmn, htime] at hfailed

end Sys2Proof.Machine
end

section
/-! SUPPORT. The bits of the track loop (R108, R109): the telegram start, an octet from its bits, and a telegram from
its octets. -/

namespace Sys2Proof.Machine

/-! ### The telegram start -/

theorem alternating_iff (l : List Bool) : alternating l = true ↔ l.IsChain (· ≠ ·) := by
  induction l with
  | nil => simp [alternating]
  | cons a l ih =>
    cases l with
    | nil => simp [alternating]
    | cons b l => simp [alternating, ih]

/-- Twelve bits alternate where each differs from the next. -/
theorem alternating_twelve {b : List Bool} (h : b.length = 12) : alternating b = true ↔
    ∀ k, k < 11 → b.getD k false ≠ b.getD (k + 1) false := by
  rw [alternating_iff, List.isChain_iff_getElem]
  refine forall_congr' fun k => ⟨fun hk hlt => ?_, fun hk hlt => ?_⟩
  · simpa [List.getD, h, show k < 12 by omega, show k + 1 < 12 by omega] using hk (by omega)
  · simpa [List.getD, h, show k < 12 by omega, show k + 1 < 12 by omega] using hk (by omega)

/-- A telegram start is 12 alternating bits with the loop start pair behind them (R109). -/
theorem telegramStartAt_iff (l : List Bool) : telegramStartAt l = true ↔
    ∃ a b : List Bool, l = a ++ b ++ lineBits loopStartPair ∧ b.length = 12 ∧ alternating b = true := by
  have hpair : (lineBits loopStartPair).length = 16 := rfl
  simp only [telegramStartAt, Bool.and_eq_true, decide_eq_true_eq]
  constructor
  · rintro ⟨⟨hlen, halt⟩, htail⟩
    refine ⟨l.take (l.length - 28), (l.drop (l.length - 28)).take 12, ?_, by simp; omega, halt⟩
    rw [← htail, List.append_assoc, List.take_append_drop, List.take_append_drop]
  · rintro ⟨a, b, rfl, hb, halt⟩
    have hlast : (a ++ b ++ lineBits loopStartPair).length - 28 = a.length := by simp [hb, hpair]
    rw [hlast, List.append_assoc, List.drop_left, ← hb, List.take_left, List.drop_left]
    exact ⟨⟨by simp [hb, hpair], halt⟩, rfl⟩

/-! ### Octets -/

theorem packBits_cons (b : Bool) (l : List Bool) : packBits (b :: l) = Nat.bit b (packBits l) := by
  cases b <;> simp [packBits, Nat.bit_val, Nat.add_comm]

/-- The bits of a packed number are the ones packed, from bit 0. -/
theorem testBit_packBits (l : List Bool) (i : Nat) : (packBits l).testBit i = l.getD i false := by
  induction l generalizing i with
  | nil => simp [packBits]
  | cons b l ih =>
    rw [packBits_cons]
    cases i with
    | zero => simp
    | succ i => rw [Nat.testBit_bit_succ, ih, List.getD_cons_succ]

/-- An octet is the one whose bits were sent, least significant bit first (R1). -/
theorem octetOf_octetBits (x : Byte) : octetOf (octetBits x) = x := by
  refine BitVec.eq_of_getLsbD_eq fun i hi => ?_
  rw [octetOf, BitVec.getLsbD_ofNat, testBit_packBits]
  simp [octetBits, List.getD, hi]

theorem octetBits_length (x : Byte) : (octetBits x).length = 8 := by simp [octetBits]

/-- The bit that completes an octet. -/
theorem LoopFront.afterBit_octet {f : LoopFront} {b : Bool} {x : Byte} (h : f.bits ++ [b] = octetBits x) :
    f.afterBit b = { f with bits := [], octets := f.octets ++ [x] } := by
  have hlen : f.bits.length = 7 := by
    have hbits := congrArg List.length h
    rw [octetBits_length, List.length_append, List.length_singleton] at hbits
    omega
  rw [LoopFront.afterBit, if_neg (by omega), h, octetOf_octetBits]

/-! ### Telegrams -/

/-- The octets of a telegram from type to check (R108). -/
def telegramOctets (m : Telegram) : List Byte :=
  [m.kind, BitVec.ofNat 8 m.fields.length] ++ m.fields ++ oct2 m.check.toNat

theorem length_telegramOctets (m : Telegram) : (telegramOctets m).length = m.fields.length + 4 := by
  simp [telegramOctets, oct2]

theorem num1_telegramOctets (m : Telegram) (h : m.fields.length ≤ 16) :
    num1 (telegramOctets m) 1 = m.fields.length := by
  change (BitVec.ofNat 8 m.fields.length).toNat = _
  rw [BitVec.toNat_ofNat]
  omega

/-- The check's two octets, low octet first (R108). -/
theorem num2_telegramOctets (m : Telegram) : num2 (telegramOctets m) (2 + m.fields.length) = m.check.toNat := by
  have hlo : octetAt (telegramOctets m) (2 + m.fields.length) = BitVec.ofNat 8 m.check.toNat := by
    simp [octetAt, telegramOctets, oct2, List.getD, Nat.add_comm 2]
  have hhi : octetAt (telegramOctets m) (2 + m.fields.length + 1) = BitVec.ofNat 8 (m.check.toNat / 256) := by
    simp [octetAt, telegramOctets, oct2, List.getD, Nat.add_comm 2]
  rw [num2, num1, num1, hlo, hhi, BitVec.toNat_ofNat, BitVec.toNat_ofNat]
  omega

theorem telegramOf_octets (m : Telegram) (h : m.fields.length ≤ 16) : telegramOf (telegramOctets m) = m := by
  have hfields : ((telegramOctets m).drop 2).take m.fields.length = m.fields := by simp [telegramOctets]
  have hkind : octetAt (telegramOctets m) 0 = m.kind := rfl
  rw [telegramOf, num1_telegramOctets m h, num2_telegramOctets m, hfields, hkind, BitVec.ofNat_toNat,
    BitVec.setWidth_eq]

/-- The last check bit of a telegram gives it (R110). -/
theorem telegramEvent_octets (m : Telegram) (h : m.fields.length ≤ 16) :
    telegramEvent (telegramOctets m) = some (.telegramReceived m) := by
  rw [telegramEvent, num1_telegramOctets m h, length_telegramOctets m, telegramOf_octets m h, if_neg (by omega),
    if_pos ⟨by omega, rfl⟩]

/-- A length above 16 is a length error at its octet (R110). -/
theorem telegramEvent_long (k : Byte) {x : Byte} (h : 16 < x.toNat) : telegramEvent [k, x] = some .loopLengthError :=
  if_pos ⟨rfl, h⟩

end Sys2Proof.Machine
end

section
/-! SUPPORT. The depot test (R115; log entry 18): what leaves the delay, what is judged, and what a prediction does. -/

namespace Sys2Proof.Machine

variable {x : DepotTest} {d m : Bool} {l w : List Bool}

theorem pushKeep_succ (n : Nat) (l : List Bool) (b : Bool) : pushKeep (n + 1) l b = (l ++ [b]).drop (l.length - n) := by
  rw [pushKeep, List.length_append, List.length_singleton, Nat.add_sub_add_right]

/-- A prediction fails where its bits do not give the bit, or all nine are zero (R115). -/
theorem mismatchOf_iff (history : List Bool) (bit : Bool) : mismatchOf history bit = true ↔
    (∀ k ∈ history, k = false) ∨ bit ≠ (history.getD 4 false != history.getD 0 false) := by
  by_cases h : ∀ k ∈ history, k = false
  · have hall : (history.all fun b => !b) = true := by simpa using h
    exact ⟨fun _ => .inl h, fun _ => if_pos hall⟩
  · have hall : ¬ (history.all fun b => !b) = true := by simpa using h
    simp only [mismatchOf, if_neg hall, h, false_or, bne_iff_ne]

/-! ### A prediction -/

theorem DepotTest.predicted_search (h : x.inSync = false) (hw : w = (x.window ++ [m]).drop (x.window.length - 63)) :
    x.predicted m = { x with window := w, inSync := decide (w.length = 64 ∧ (w.filter id).length ≤ 2) } := by
  simp only [DepotTest.predicted, pushKeep_succ, ← hw, h, Bool.false_eq_true, if_false, mismatches]

/-- In IN_SYNC each prediction counts, and the sixteenth mismatch of the window ends it (R115). -/
theorem DepotTest.predicted_inSync (h : x.inSync = true) (hw : w = (x.window ++ [m]).drop (x.window.length - 63)) :
    x.predicted m = { x with
      checked := bump x.checked, errors := if m then bump x.errors else x.errors
      inSync := decide ((w.filter id).length < 16), window := if (w.filter id).length < 16 then w else [] } := by
  simp only [DepotTest.predicted, pushKeep_succ, ← hw, h, if_true, mismatches]
  by_cases hlost : (w.filter id).length < 16
  · simp [hlost, hlost.not_ge]
  · simp [hlost, Nat.le_of_not_lt hlost]

/-! ### A bit judged -/

/-- Without 9 bits of history a bit joins it and no more (R115). -/
theorem DepotTest.judge_unjudged (h : x.history.length ≠ 9) :
    x.judge d = { x with history := (x.history ++ [d]).drop (x.history.length - 8) } := by
  simp only [DepotTest.judge, pushKeep_succ, if_neg h]

theorem DepotTest.judge_short (h : x.history.length < 9) : x.judge d = { x with history := x.history ++ [d] } := by
  rw [DepotTest.judge_unjudged (by omega), Nat.sub_eq_zero_of_le (by omega), List.drop_zero]

theorem DepotTest.judge_nine (h : x.history.length = 9) (hm : mismatchOf x.history d = m) :
    x.judge d = { x.predicted m with history := x.history.tail ++ [d] } := by
  have hkept : (x.history ++ [d]).drop 1 = x.history.tail ++ [d] := by
    rw [List.drop_append_of_le_length (by omega), List.drop_one]
  simp only [DepotTest.judge, pushKeep_succ, h, if_true, hm, hkept]

/-- A bit counts in IN_SYNC, judged against 9 bits of history (R115). -/
theorem DepotTest.judge_counts (hm : mismatchOf x.history d = m) : (x.judge d).loop = x.loop ∧
    (x.judge d).checked = (if x.inSync && decide (x.history.length = 9) then bump x.checked else x.checked) ∧
    (x.judge d).errors =
      (if x.inSync && decide (x.history.length = 9) && m then bump x.errors else x.errors) := by
  by_cases h : x.history.length = 9
  · rw [DepotTest.judge_nine h hm]
    cases hs : x.inSync with
    | true => rw [DepotTest.predicted_inSync hs rfl]; simp [h]
    | false => rw [DepotTest.predicted_search hs rfl]; simp
  · rw [DepotTest.judge_unjudged h]
    simp [h]

/-! ### The delay -/

/-- Where fewer than 32 bits are held none leaves (R115; log entry 18). -/
theorem DepotTest.leave_short (h : x.delay.length < 32) : x.leave = x := by
  unfold DepotTest.leave
  split
  · exact if_neg (by omega)
  · rfl

/-- Where 32 bits are held the oldest leaves and is judged (R115; log entry 18). -/
theorem DepotTest.leave_full (h : x.delay = d :: l) (hl : l.length = 31) :
    x.leave = { x.judge d with delay := l } := by
  unfold DepotTest.leave
  rw [h]
  exact if_pos (by simp [hl])

theorem DepotTest.take_short (h : x.delay.length < 32) (bit : Bool) :
    x.take bit = { x with delay := x.delay ++ [bit] } := by
  rw [DepotTest.take, DepotTest.leave_short h]

theorem DepotTest.take_full (h : x.delay = d :: l) (hl : l.length = 31) (bit : Bool) :
    x.take bit = { x.judge d with delay := l ++ [bit] } := by
  rw [DepotTest.take, DepotTest.leave_full h hl]

theorem DepotTest.telegramStart_short (h : x.delay.length < 32) :
    x.telegramStart = { x with delay := [], history := [], window := [], inSync := false } := by
  rw [DepotTest.telegramStart, DepotTest.leave_short h]

/-- A telegram start has the bit that leaves a full delay judged, of which only its counts stay (R115). -/
theorem DepotTest.telegramStart_full (h : x.delay = d :: l) (hl : l.length = 31)
    (hm : mismatchOf x.history d = m) : x.telegramStart = { x with
      delay := [], history := [], window := [], inSync := false
      checked := if x.inSync && decide (x.history.length = 9) then bump x.checked else x.checked
      errors := if x.inSync && decide (x.history.length = 9) && m then bump x.errors else x.errors } := by
  obtain ⟨hloop, hchecked, herrors⟩ := DepotTest.judge_counts hm
  rw [DepotTest.telegramStart, DepotTest.leave_full h hl, ← hchecked, ← herrors, ← hloop]

end Sys2Proof.Machine
end

section
/-! SUPPORT. The loop receiver bit by bit (R107, R109, R110, R111), with the statement about it. -/

namespace Sys2Proof.Machine

variable {s : State} {u : Llu} {b bit : Bool} {m : Telegram}

/-! ### A bit taken -/

theorem LoopLine.bitEnds_iff (y : LoopLine) : y.bitEnds = true ↔ 622 ≤ y.phase := by
  rw [LoopLine.bitEnds, decide_eq_true_iff]
  omega

theorem LoopLine.next_bit {y : LoopLine} (h : 622 ≤ y.phase) :
    y.next = { cd := y.cd.tail, bits := y.bits.tail, phase := y.phase - 622 } := by
  rw [LoopLine.next, if_pos (y.bitEnds_iff.2 h), Nat.add_sub_add_right y.phase 3 622]

theorem LoopLine.next_noBit {y : LoopLine} (h : y.phase < 622) :
    y.next = { y with cd := y.cd.tail, phase := y.phase + 3 } :=
  if_neg fun k => h.not_ge (y.bitEnds_iff.1 k)

/-- The receiver takes a bit each 625 thirds of a microsecond, out of IDLE (R107). -/
theorem Llu.bitNow_due (h : 622 ≤ u.line.phase) (hb : u.line.bits.head? = some b) (hr : u.rx ≠ .idle) :
    u.bitNow = some b :=
  (if_pos ⟨u.line.bitEnds_iff.2 h, hr⟩).trans hb

theorem Llu.bitNow_none (h : u.line.phase < 622 ∨ u.rx = .idle) : u.bitNow = none := by
  refine if_neg fun ⟨hends, hr⟩ => ?_
  exact h.elim (fun hearly => hearly.not_ge (u.line.bitEnds_iff.1 hends)) hr

/-- No bit changes nothing of the front and finds nothing. -/
theorem Llu.frontNext_none (h : u.bitNow = none) : u.frontNext = u.front ∧ u.bitEvent = none := by
  rw [Llu.frontNext, Llu.bitEvent, h]
  exact ⟨rfl, rfl⟩

/-- A bit taken in HUNT is told by its command (R109). -/
theorem Llu.frontNext_hunt (h : u.bitNow = some b) (hr : u.rx = .hunt) : u.frontNext = u.front ∧
    u.bitEvent = some (if u.completes b then .telegramStart else .bitJudged b) := by
  rw [Llu.frontNext, Llu.bitEvent, h]
  exact ⟨if_neg (by simp [hr]), if_pos hr⟩

/-- A bit taken in TELEGRAM joins the octets, and finds what they do where it completes one (R109, R110). -/
theorem Llu.frontNext_telegram (h : u.bitNow = some b) (hr : u.rx = .telegram) :
    u.frontNext = u.front.afterBit b ∧
    u.bitEvent = if u.frontNext.bits = [] then telegramEvent u.frontNext.octets else none := by
  rw [Llu.bitEvent, Llu.frontNext, h]
  exact ⟨if_pos hr, if_neg (by simp [hr])⟩

/-- The bit that completes an octet of a telegram finds what the octets do. -/
theorem Llu.bitEvent_octet {x : Byte} (h : u.bitNow = some b) (hr : u.rx = .telegram)
    (hx : u.front.bits ++ [b] = octetBits x) : u.bitEvent = telegramEvent (u.front.octets ++ [x]) := by
  obtain ⟨hfront, hevent⟩ := Llu.frontNext_telegram h hr
  rw [hevent, hfront, LoopFront.afterBit_octet hx, if_pos rfl]

theorem State.mem_loopEvents_of_bit {c : Instr} (h : s.llu.bitEvent = some c) : c ∈ s.loopEvents :=
  List.mem_append_left _ (List.mem_append_left _ (by simp [h]))

/-! ### The telegram start and the bits judged in HUNT -/

theorem exec_telegramStart (hr : s.llu.rx = .hunt) (hc : s.llu.completes true = true) :
    exec .telegramStart s = .next (s.onLlu Llu.telegramStart) := congrArg _ (if_pos ⟨hr, hc⟩)

theorem exec_telegramStart_none (h : s.llu.rx ≠ .hunt ∨ s.llu.completes true = false) :
    exec .telegramStart s = .next s :=
  congrArg _ (if_neg fun ⟨hr, hc⟩ => h.elim (fun k => k hr) fun k => by simp [k] at hc)

theorem exec_bitJudged (hr : s.llu.rx = .hunt) : exec (.bitJudged bit) s = .next (s.onLlu fun u => u.huntBit bit) :=
  congrArg _ (if_pos hr)

theorem exec_bitJudged_none (hr : s.llu.rx ≠ .hunt) : exec (.bitJudged bit) s = .next s := congrArg _ (if_neg hr)

/-- A completed start is taken alike, told by TELEGRAM_START or as the bit judged (R109, R115). -/
theorem exec_startCompleted {c : Instr} {t : Option DepotTest} (hr : s.llu.rx = .hunt)
    (hc : s.llu.completes true = true) (h : c = .telegramStart ∨ c = .bitJudged true)
    (ht : s.llu.test.map DepotTest.telegramStart = t) : exec c s = .next { s with
      llu := { s.llu with rx := .telegram, front := { heard := [], bits := [], octets := [] }, test := t } } := by
  subst ht
  rcases h with rfl | rfl
  · exact exec_telegramStart hr hc
  · rw [exec_bitJudged hr]
    exact congrArg (fun v => Host.Outcome.next { s with llu := v }) (if_pos hc)

/-- A bit that completes no start joins the search and the delay of an open test (R109, R115). -/
theorem exec_bitJudged_joins {t : Option DepotTest} (hr : s.llu.rx = .hunt) (hc : s.llu.completes bit = false)
    (ht : (s.llu.test.map fun x => x.take bit) = t) : exec (.bitJudged bit) s = .next { s with
      llu := { s.llu with
        front := { s.llu.front with
          heard := (s.llu.front.heard ++ [bit]).drop (s.llu.front.heard.length - 26) }
        test := t } } := by
  subst ht
  have hnot : ¬ s.llu.completes bit = true := by simp [hc]
  rw [exec_bitJudged hr, ← pushKeep_succ]
  exact congrArg (fun v => Host.Outcome.next { s with llu := v }) (if_neg hnot)

/-! ### The end of a telegram -/

theorem exec_loopLengthError (hr : s.llu.rx = .telegram) : exec .loopLengthError s = .next
    ((s.onLlu fun u => { u.hunt with lengthErrors := bump u.lengthErrors }).count .loopCheck) :=
  congrArg _ (if_pos hr)

theorem exec_telegramReceived_bad (hr : s.llu.rx = .telegram) (hlen : m.fields.length ≤ 16)
    (hc : m.check ≠ telegramCheck m) : exec (.telegramReceived m) s = .next
      ((s.onLlu fun u => { u.hunt with checkErrors := bump u.checkErrors }).count .loopCheck) :=
  congrArg _ ((if_pos ⟨hr, hlen⟩).trans (if_neg hc))

/-- A telegram with a good check is counted and handed on, the receiver back in HUNT (R110, R111). -/
theorem exec_telegramReceived_good (hr : s.llu.rx = .telegram) (hlen : m.fields.length ≤ 16)
    (hc : m.check = telegramCheck m) : exec (.telegramReceived m) s = .next
      ((s.onLlu fun u => { u.hunt with good := bump u.good }).acceptTelegram m) :=
  congrArg _ ((if_pos ⟨hr, hlen⟩).trans (if_pos hc))

theorem State.acceptTelegram_rejected (h : loopMessage m = none) :
    s.acceptTelegram m = s.onLlu fun u => { u with rejected := bump u.rejected } := by
  rw [State.acceptTelegram, h]

theorem State.acceptTelegram_test {j locked : Nat} {st : PointStatus}
    (h : loopMessage m = some (.ident .test j st locked)) :
    s.acceptTelegram m = s.onLlu fun u => u.openTest j := by
  rw [State.acceptTelegram, h]

/-- A test opened leaves an open one alone (R115). -/
theorem Llu.openTest_eq (u : Llu) (j : Nat) : u.openTest j =
    { u with test := if u.test.isSome then u.test else some (DepotTest.opened j) } := by
  unfold Llu.openTest
  split <;> rfl

/-! ### The obligation -/

/-- Settles O40: the start by its bits, each bit time by the receiver's state, each command by the case it is taken
in, and the depot test by what its delay gives up. -/
theorem telegramsAreReceived : Obligations.TelegramsAreReceived := by
  refine ⟨?start, fun s h => exec_telegramStart_none h, ?started, ?taken, ?between, ?tooLong, ?bad, ?rejected,
    ?opened, ?filling, ?judged, ?untested, fun s bit h => exec_bitJudged_none h⟩
  case start =>
    intro l
    rw [telegramStartAt_iff]
    exact exists₂_congr fun a b => and_congr_right fun _ => and_congr_right alternating_twelve
  case started =>
    intro s c hr hc hcmd
    refine ⟨fun hnone => ?_, fun x hx hshort => ?_, fun x d m l hx hd hl _ hm => ?_⟩
    · exact exec_startCompleted (t := s.llu.test) hr hc hcmd (by rw [hnone]; rfl)
    · exact exec_startCompleted hr hc hcmd (by rw [hx, Option.map_some, DepotTest.telegramStart_short hshort])
    · have hmismatch : mismatchOf x.history d = m := by rw [Bool.eq_iff_iff, mismatchOf_iff, hm]
      exact exec_startCompleted hr hc hcmd
        (by rw [hx, Option.map_some, DepotTest.telegramStart_full hd hl hmismatch])
  case taken =>
    intro s b l hp hb hlo _
    obtain ⟨hllu, -⟩ := s.clock_units
    have hline : s.clock.llu.line = s.llu.line.next := by rw [hllu]; rfl
    have hfront : s.clock.llu.front = s.llu.frontNext := by rw [hllu]; rfl
    have hbit (hr : s.llu.rx ≠ .idle) : s.llu.bitNow = some b := Llu.bitNow_due hlo (by rw [hb]; rfl) hr
    have hfound {c : Instr} (hc : s.llu.bitEvent = some c) : c ∈ s.clock.pending :=
      State.mem_clock_pending (State.mem_loopEvents_of_bit hc)
    refine ⟨s.clock, step_bitTime hp, by rw [hline, LoopLine.next_bit hlo, hb]; rfl,
      by rw [hline, LoopLine.next_bit hlo], fun hr => ?hunt, fun hr => ?telegram, fun hr => ?idle⟩
    case hunt =>
      obtain ⟨hkept, hevent⟩ := Llu.frontNext_hunt (hbit (by simp [hr])) hr
      exact ⟨hfront.trans hkept, fun hc => hfound (hevent.trans (congrArg some (if_pos hc))),
        fun hc => hfound (hevent.trans (congrArg some (if_neg (by simp [Llu.completes, hc]))))⟩
    case telegram =>
      have hnow := hbit (by simp [hr])
      obtain ⟨hjoined, -⟩ := Llu.frontNext_telegram hnow hr
      refine ⟨fun hlt => hfront.trans (hjoined.trans (if_pos hlt)), fun m x hx hlen hm => ?_,
        fun k x hx hk hlong => ?_⟩
      · exact hfound ((Llu.bitEvent_octet hnow hr hx).trans (by rw [hm]; exact telegramEvent_octets m hlen))
      · exact hfound ((Llu.bitEvent_octet hnow hr hx).trans (by rw [hk]; exact telegramEvent_long k hlong))
    case idle =>
      obtain ⟨hkept, hevent⟩ := Llu.frontNext_none (Llu.bitNow_none (u := s.llu) (.inr hr))
      exact ⟨hfront.trans hkept, hevent⟩
  case between =>
    intro s hp hlt
    obtain ⟨hllu, -⟩ := s.clock_units
    have hline : s.clock.llu.line = s.llu.line.next := by rw [hllu]; rfl
    obtain ⟨hkept, hevent⟩ := Llu.frontNext_none (Llu.bitNow_none (u := s.llu) (.inl hlt))
    exact ⟨s.clock, step_bitTime hp, by rw [hline, LoopLine.next_noBit hlt], by rw [hline, LoopLine.next_noBit hlt],
      by rw [hllu]; exact hkept, hevent⟩
  case tooLong =>
    intro s hr
    rw [exec_loopLengthError hr]
    rfl
  case bad =>
    intro s t hr hlen hc
    rw [exec_telegramReceived_bad hr hlen hc]
    rfl
  case rejected =>
    intro s t hr hlen hc hnone
    rw [exec_telegramReceived_good hr hlen hc, State.acceptTelegram_rejected hnone]
    rfl
  case opened =>
    intro s t j locked st hr hlen hc hmessage
    rw [exec_telegramReceived_good hr hlen hc, State.acceptTelegram_test hmessage]
    simp only [State.onLlu, Llu.openTest_eq]
    rfl
  case filling =>
    intro s x bit hr hx hshort hc
    exact exec_bitJudged_joins hr hc (by rw [hx, Option.map_some, DepotTest.take_short hshort])
  case judged =>
    intro s x bit b l hr hx hb hl hc
    refine ⟨x.take bit, exec_bitJudged_joins hr hc (by rw [hx]; rfl), fun hshort => ?_,
      fun m w hnine hm hw => ⟨fun hsync => ?_, fun hsearch => ?_⟩⟩
    · rw [DepotTest.take_full hb hl, DepotTest.judge_short hshort]
    · have hmismatch : mismatchOf x.history b = m := by rw [Bool.eq_iff_iff, mismatchOf_iff, hm]
      rw [DepotTest.take_full hb hl, DepotTest.judge_nine hnine hmismatch, DepotTest.predicted_inSync hsync hw]
    · have hmismatch : mismatchOf x.history b = m := by rw [Bool.eq_iff_iff, mismatchOf_iff, hm]
      rw [DepotTest.take_full hb hl, DepotTest.judge_nine hnine hmismatch, DepotTest.predicted_search hsearch hw]
  case untested =>
    intro s bit hr hnone hc
    exact exec_bitJudged_joins (t := s.llu.test) hr hc (by rw [hnone]; rfl)

end Sys2Proof.Machine
end

section
/-! SUPPORT. The laws of the contexts, of the Cab Table and of the signals (R60, R123, R136, R137): what they read of
a state, and the operations of the Sound Unit, which make and withdraw no signal of the junctions but by the judgement
of R136 and R137. -/

namespace Sys2Proof.Machine

variable {s t v : State} {u w : Jcu}

/-! ### The two signals in the Sound Unit -/

/-- The WARNING source and the Junction Unit's claim of CAB_ALERT are as they were. -/
def Snu.SignalsKept (u v : Snu) : Prop := v.warning = u.warning ∧ v.alertJunction = u.alertJunction

theorem Snu.SignalsKept.refl (u : Snu) : u.SignalsKept u := ⟨rfl, rfl⟩

theorem Snu.SignalsKept.trans {u v w : Snu} (h : u.SignalsKept v) (k : v.SignalsKept w) : u.SignalsKept w :=
  ⟨k.1.trans h.1, k.2.trans h.2⟩

theorem Snu.SignalsKept.of_eq {u v : Snu} (h : v = u) : u.SignalsKept v := by rw [h]; exact .refl u

theorem Snu.Steady.signalsKept {u v : Snu} (h : u.Steady v) : u.SignalsKept v := by
  obtain ⟨-, -, -, -, -, hwarning, -, halert⟩ := h
  exact ⟨hwarning, halert⟩

theorem Snu.arbitrate_signalsKept (u : Snu) (c : Channel) : u.SignalsKept (u.arbitrate c) :=
  (u.narrows_arbitrate c).1.signalsKept

theorem Snu.setEmergency_signalsKept (u : Snu) (on : Bool) : u.SignalsKept (u.setEmergency on) :=
  Snu.arbitrate_signalsKept { u with emergency := on } .exterior

theorem Snu.setHorn_signalsKept (u : Snu) (on : Bool) : u.SignalsKept (u.setHorn on) :=
  Snu.arbitrate_signalsKept { u with horn := on } .exterior

theorem Snu.setAlertRole_signalsKept (u : Snu) (on : Bool) : u.SignalsKept (u.setAlertRole on) :=
  Snu.arbitrate_signalsKept { u with alertRole := on } .interior

theorem Snu.standRequest_signalsKept (u : Snu) (x : Source) : u.SignalsKept (u.standRequest x) := by
  cases x <;> exact .refl u

theorem Snu.pressBell_signalsKept (u : Snu) : u.SignalsKept u.pressBell := by
  unfold Snu.pressBell
  split
  · exact .refl u
  · exact (u.standRequest_signalsKept .bell).trans (Snu.arbitrate_signalsKept _ _)

theorem Snu.requestEvent_signalsKept (u : Snu) (x : Source) : u.SignalsKept (u.requestEvent x) := by
  unfold Snu.requestEvent
  split
  · exact .refl u
  · refine (u.standRequest_signalsKept x).trans ?_
    dsimp only
    split
    · exact Snu.arbitrate_signalsKept _ _
    · exact (Snu.narrows_discard _ x).1.signalsKept

theorem Snu.setPlayer_signalsKept (u : Snu) (c : Channel) (x : Player) : u.SignalsKept (u.setPlayer c x) :=
  (u.narrows_setPlayer c x).1.signalsKept

theorem Snu.stepEnd_signalsKept (u : Snu) (c : Channel) (held : Bool) : u.SignalsKept (u.stepEnd c held) := by
  have hended (x : Source) : u.SignalsKept ((u.endRequest x).arbitrate c) :=
    (u.narrows_endRequest x).1.signalsKept.trans (Snu.arbitrate_signalsKept _ c)
  unfold Snu.stepEnd
  split
  · exact .refl u
  · split
    · exact u.setPlayer_signalsKept c _
    · unfold Snu.playingEnd
      split
      · exact u.setPlayer_signalsKept c _
      · exact hended _
      · split
        · exact u.setPlayer_signalsKept c _
        · exact hended _

theorem Snu.fixWave_signalsKept (u : Snu) (c : Channel) : u.SignalsKept (u.fixWave c) := by
  unfold Snu.fixWave
  split
  · exact u.setPlayer_signalsKept c _
  · exact .refl u

theorem Snu.writeTone_signalsKept (u : Snu) (n hz : Nat) : u.SignalsKept (u.writeTone n hz) :=
  (u.fixWave_signalsKept .exterior).trans (Snu.fixWave_signalsKept _ .interior)

theorem Snu.writePattern_signalsKept (u : Snu) (n : Nat) (l : List Step) : u.SignalsKept (u.writePattern n l) :=
  (Snu.steady_settleWrite { u with patterns := u.patterns.set n l } _).signalsKept

theorem Snu.writeMap_signalsKept (u : Snu) (m : Tab Nat 7) : u.SignalsKept (u.writeMap m) :=
  (Snu.steady_settleWrite { u with map := m } _).signalsKept

theorem Snu.clock_signalsKept (u : Snu) : u.SignalsKept u.clock :=
  (u.setPlayer_signalsKept .exterior _).trans (Snu.setPlayer_signalsKept _ .interior _)

/-- The two signals as a judgement sets them. -/
theorem Snu.signals_set (u : Snu) (on claim : Bool) :
    ((u.setWarning on).setAlertJunction claim).warning = on ∧
      ((u.setWarning on).setAlertJunction claim).alertJunction = claim := by
  obtain ⟨hclaim, hset⟩ := Snu.arbitrate_signalsKept { u.setWarning on with alertJunction := claim } .interior
  obtain ⟨hwarning, -⟩ := Snu.arbitrate_signalsKept { u with warning := on } .exterior
  exact ⟨hclaim.trans hwarning, hset⟩

/-! ### What the laws read of the Junction Unit -/

/-- The marks of the two units agree: the junctions and the states of the contexts in their order, the overflow flag
and the ROUTE lamp. The laws of R123, R136 and R137 read no more of the Junction Unit. -/
structure Jcu.SameMarks (u w : Jcu) : Prop where
  junctions : (w.contexts.map fun x => x.junction) = u.contexts.map fun x => x.junction
  states : (w.contexts.map fun x => x.state) = u.contexts.map fun x => x.state
  overflow : w.overflow = u.overflow
  lamp : w.routeLamp = u.routeLamp

theorem Jcu.SameMarks.refl (u : Jcu) : u.SameMarks u := ⟨rfl, rfl, rfl, rfl⟩

theorem Jcu.SameMarks.of_eq (h : w = u) : u.SameMarks w := by rw [h]; exact .refl u

/-- Contexts changed in their places, each in its junction and its state. -/
theorem Jcu.SameMarks.of_map {f : Ctx → Ctx} (hj : ∀ y, (f y).junction = y.junction)
    (hstate : ∀ y, (f y).state = y.state) : u.SameMarks { u with contexts := u.contexts.map f } where
  junctions := by rw [List.map_map]; exact List.map_congr_left fun y _ => hj y
  states := by rw [List.map_map]; exact List.map_congr_left fun y _ => hstate y
  overflow := rfl
  lamp := rfl

theorem Jcu.SameMarks.of_update {f : Ctx → Ctx} (j : Nat) (hj : ∀ y, (f y).junction = y.junction)
    (hstate : ∀ y, (f y).state = y.state) : u.SameMarks (u.update j f) :=
  .of_map (fun y => by split <;> simp [hj]) fun y => by split <;> simp [hstate]

/-- The warning condition by the states alone (R136). -/
theorem Jcu.warns_iff_states (u : Jcu) : u.Warns ↔
    u.overflow = true ∨ ∃ c ∈ u.contexts.map fun x => x.state, c ≠ .set ∧ c ≠ .passed := by
  simp [Jcu.Warns]

/-- The claim of CAB_ALERT by the states alone (R137). -/
theorem Jcu.alerts_iff_states (u : Jcu) : u.Alerts ↔
    ∃ c ∈ u.contexts.map fun x => x.state, c = .mismatch ∨ c = .refused ∨ c = .unanswered := by
  simp [Jcu.Alerts]

theorem Jcu.SameMarks.warns (h : u.SameMarks w) : w.Warns ↔ u.Warns := by
  rw [Jcu.warns_iff_states, Jcu.warns_iff_states, h.states, h.overflow]

theorem Jcu.SameMarks.alerts (h : u.SameMarks w) : w.Alerts ↔ u.Alerts := by
  rw [Jcu.alerts_iff_states, Jcu.alerts_iff_states, h.states]

/-- The law of the list is one of the junctions in their order (R123). -/
theorem Jcu.ListLaw.of_junctions (h : u.ListLaw)
    (hj : (w.contexts.map fun x => x.junction) = u.contexts.map fun x => x.junction) : w.ListLaw := by
  obtain ⟨hlen, hnodup⟩ := h
  refine ⟨?_, by rw [hj]; exact hnodup⟩
  have heq : w.contexts.length = u.contexts.length := by simpa using congrArg List.length hj
  omega

theorem Jcu.ListLaw.update (h : u.ListLaw) {f : Ctx → Ctx} (j : Nat) (hj : ∀ y, (f y).junction = y.junction) :
    (u.update j f).ListLaw := by
  refine h.of_junctions ?_
  simp only [Jcu.update, List.map_map]
  refine List.map_congr_left fun y _ => ?_
  simp only [Function.comp_apply]
  split <;> simp [hj]

/-- An empty list meets its law. -/
theorem Jcu.listLaw_of_nil (h : u.contexts = []) : u.ListLaw := by
  rw [Jcu.ListLaw, h]
  exact ⟨by decide, List.nodup_nil⟩

/-! ### The laws kept from one state to another -/

/-- Each law of the lists that `s` meets `t` meets too. -/
structure State.ListLawsKept (s t : State) : Prop where
  list : s.jcu.ListLaw → t.jcu.ListLaw
  table : s.cru.TableLaw → t.cru.TableLaw
  signal : s.SignalLaw → t.SignalLaw

theorem State.ListLawsKept.refl (s : State) : s.ListLawsKept s := ⟨id, id, id⟩

theorem State.ListLawsKept.trans (h : s.ListLawsKept t) (k : t.ListLawsKept v) : s.ListLawsKept v :=
  ⟨k.list ∘ h.list, k.table ∘ h.table, k.signal ∘ h.signal⟩

theorem State.ListLawsKept.ite {c : Prop} [Decidable c] (ht : c → s.ListLawsKept t) (hv : s.ListLawsKept v) :
    s.ListLawsKept (if c then t else v) := by
  split
  · next hc => exact ht hc
  · exact hv

/-- The laws read the Cab Table, the marks of the contexts, and the two signals. -/
theorem State.ListLawsKept.of_marks (htable : s.cru.TableLaw → t.cru.TableLaw) (hjcu : s.jcu.SameMarks t.jcu)
    (hsnu : s.snu.SignalsKept t.snu) : s.ListLawsKept t where
  list h := h.of_junctions hjcu.junctions
  table := htable
  signal h := by
    rw [State.SignalLaw, hjcu.lamp, hsnu.1, hsnu.2, hjcu.warns, hjcu.alerts]
    exact h

theorem State.ListLawsKept.of_cabs (hcabs : t.cru.cabs = s.cru.cabs) (hjcu : s.jcu.SameMarks t.jcu)
    (hsnu : s.snu.SignalsKept t.snu) : s.ListLawsKept t :=
  .of_marks (Cru.tableLaw_of_cabs hcabs) hjcu hsnu

theorem State.ListLawsKept.of_units (hcru : t.cru = s.cru) (hjcu : t.jcu = s.jcu) (hsnu : t.snu = s.snu) :
    s.ListLawsKept t :=
  .of_cabs (by rw [hcru]) (.of_eq hjcu) (.of_eq hsnu)

/-- An operation of the Sound Unit that leaves the two signals alone. -/
theorem State.ListLawsKept.of_snu (hcru : t.cru = s.cru) (hjcu : t.jcu = s.jcu) (hsnu : s.snu.SignalsKept t.snu) :
    s.ListLawsKept t :=
  .of_cabs (by rw [hcru]) (.of_eq hjcu) hsnu

/-- An operation of the Cab Role Unit that leaves the table alone. -/
theorem State.ListLawsKept.of_cru (hcabs : t.cru.cabs = s.cru.cabs) (hjcu : t.jcu = s.jcu) (hsnu : t.snu = s.snu) :
    s.ListLawsKept t :=
  .of_cabs hcabs (.of_eq hjcu) (.of_eq hsnu)

theorem State.onSnu_listLawsKept (s : State) {f : Snu → Snu} (h : s.snu.SignalsKept (f s.snu)) :
    s.ListLawsKept (s.onSnu f) :=
  .of_snu rfl rfl h

theorem State.onJcu_listLawsKept (s : State) {f : Jcu → Jcu} (h : s.jcu.SameMarks (f s.jcu)) :
    s.ListLawsKept (s.onJcu f) :=
  .of_cabs rfl h (.refl _)

theorem State.onCru_listLawsKept (s : State) {f : Cru → Cru} (h : (f s.cru).cabs = s.cru.cabs) :
    s.ListLawsKept (s.onCru f) :=
  .of_cru h rfl rfl

theorem State.onTdu_listLawsKept (s : State) (f : Tdu → Tdu) : s.ListLawsKept (s.onTdu f) := .of_units rfl rfl rfl

theorem State.onLlu_listLawsKept (s : State) (f : Llu → Llu) : s.ListLawsKept (s.onLlu f) := .of_units rfl rfl rfl

theorem State.log_listLawsKept (s : State) (i : LogInfo) : s.ListLawsKept (s.log i) := .of_units rfl rfl rfl

theorem State.count_listLawsKept (s : State) (a : Attr) : s.ListLawsKept (s.count a) := .of_units rfl rfl rfl

/-! ### The judgement -/

/-- The judgement brings the law of the signals about, whatever stood before it (R136, R137). -/
theorem State.judgeJunctions_signalLaw (s : State) : s.judgeJunctions.SignalLaw := by
  obtain ⟨hwarning, halert⟩ := s.snu.signals_set s.jcu.warning s.jcu.alert
  refine ⟨s.jcu.warning_iff, ?_, ?_⟩
  · rw [State.judgeJunctions_eq, hwarning]
    exact s.jcu.warning_iff
  · rw [State.judgeJunctions_eq, halert]
    exact s.jcu.alert_iff

/-- An operation that ends in the judgement keeps the laws where it keeps that of the list. -/
theorem State.ListLawsKept.judged (hcru : t.cru = s.cru) (hlist : s.jcu.ListLaw → t.jcu.ListLaw) :
    s.ListLawsKept t.judgeJunctions where
  list h := (hlist h).of_junctions rfl
  table h := by
    rw [State.judgeJunctions_eq, hcru]
    exact h
  signal _ := t.judgeJunctions_signalLaw

end Sys2Proof.Machine
end

section
/-! SUPPORT. The laws of the contexts, of the Cab Table and of the signals through the operations of the Junction Unit,
of the Cab Role Unit and of the units that a change of role moves (R60, R123, R136, R137). -/

namespace Sys2Proof.Machine

variable {s t : State} {x : Ctx}

/-! ### One context changed in its place (R127 to R132) -/

theorem State.ctxTo_listLawsKept (s : State) (x : Ctx) {f : Ctx → Ctx} (hj : ∀ y, (f y).junction = y.junction) :
    s.ListLawsKept (s.ctxTo x f) := by
  unfold State.ctxTo
  refine .judged (by split <;> rfl) fun h => ?_
  have hupdated := h.update (f := fun y => { f y with retry := none }) x.junction hj
  split <;> exact hupdated

theorem State.offerAttempt_listLawsKept (s : State) (j : Nat) (d : Direction) (n : Nat) :
    s.ListLawsKept (s.offerAttempt j d n) := by
  rw [State.offerAttempt_eq]
  exact .judged rfl fun h => h.update j fun _ => rfl

theorem State.toMismatch_listLawsKept (s : State) (x : Ctx) (cause : Int) : s.ListLawsKept (s.toMismatch x cause) :=
  .ite (fun _ => .refl s) ((s.ctxTo_listLawsKept x fun _ => by rfl).trans (State.log_listLawsKept _ _))

theorem State.statusUpdate_listLawsKept (s : State) (j : Nat) (st : PointStatus) (locked : Nat) :
    s.ListLawsKept (s.statusUpdate j st locked) := by
  have hstatus : s.ListLawsKept (s.onJcu fun u => u.update j fun y => { y with status := some st }) :=
    s.onJcu_listLawsKept (.of_update j (fun _ => rfl) fun _ => rfl)
  unfold State.statusUpdate
  split
  · exact .refl s
  · refine .ite (fun _ => .refl s) ?_
    dsimp only
    split
    · exact hstatus
    · exact hstatus
    · exact hstatus.trans (State.toMismatch_listLawsKept _ _ _)
    · exact .ite (fun _ => hstatus) (.ite (fun _ => hstatus.trans (State.ctxTo_listLawsKept _ _ fun _ => rfl))
        (hstatus.trans (State.toMismatch_listLawsKept _ _ _)))

theorem State.clearIdent_listLawsKept (s : State) (j : Nat) : s.ListLawsKept (s.clearIdent j) := by
  unfold State.clearIdent
  split
  · exact .refl s
  · exact .ite (fun _ => .refl s) (s.ctxTo_listLawsKept _ fun _ => rfl)

theorem State.pointReply_listLawsKept (s : State) (j run : Nat) (r : ReplyResult) :
    s.ListLawsKept (s.pointReply j run r) := by
  unfold State.pointReply
  split
  · exact s.onJcu_listLawsKept ⟨rfl, rfl, rfl, rfl⟩
  · split
    · exact .ite (fun _ => s.ctxTo_listLawsKept _ fun _ => rfl) (.refl s)
    · exact .ite (fun _ => (s.ctxTo_listLawsKept _ fun _ => by rfl).trans (State.log_listLawsKept _ _)) (.refl s)

theorem State.toUnanswered_listLawsKept (s : State) (x : Ctx) : s.ListLawsKept (s.toUnanswered x) :=
  ((s.ctxTo_listLawsKept x fun _ => by rfl).trans (State.log_listLawsKept _ _)).trans (State.count_listLawsKept _ _)

theorem State.retryExpiry_listLawsKept (s : State) (x : Ctx) : s.ListLawsKept (s.retryExpiry x) := by
  unfold State.retryExpiry
  split
  · exact .refl s
  · exact .ite (fun _ => s.offerAttempt_listLawsKept _ _ _) (s.toUnanswered_listLawsKept x)

/-- A chain of operations keeps the laws where each does. -/
theorem State.foldl_listLawsKept {f : State → Ctx → State} (hf : ∀ (t : State) x, t.ListLawsKept (f t x))
    (l : List Ctx) (s : State) : s.ListLawsKept (l.foldl f s) := by
  induction l generalizing s with
  | nil => exact .refl s
  | cons x l ih => exact (hf s x).trans (ih _)

theorem State.carrierLost_listLawsKept (s : State) : s.ListLawsKept s.carrierLost :=
  State.foldl_listLawsKept (fun t x => .ite (fun _ => State.toUnanswered_listLawsKept t x) (.refl t)) _ s

theorem State.requestReported_listLawsKept (s : State) (j : Nat) : s.ListLawsKept (s.requestReported j) :=
  s.onJcu_listLawsKept (.of_update j (fun _ => rfl) fun _ => rfl)

theorem State.routeChange_listLawsKept (s : State) (x : Ctx) (d : Direction) : s.ListLawsKept (s.routeChange x d) := by
  refine .ite (fun _ => s.log_listLawsKept _) ?_
  exact (s.onJcu_listLawsKept (.of_update x.junction (fun _ => by rfl) fun _ => by rfl)).trans
    (State.offerAttempt_listLawsKept _ _ _ _)

theorem State.routePress_listLawsKept (s : State) (d : Direction) : s.ListLawsKept (s.routePress d) := by
  refine .ite (fun _ => .refl s) ?_
  split
  · exact s.routeChange_listLawsKept _ d
  · exact s.onJcu_listLawsKept ⟨rfl, rfl, rfl, rfl⟩

/-! ### A context added (R123, R125, R126) -/

/-- A context at the tail keeps the law of the list while there is room and no other has its junction (R123). -/
theorem Jcu.ListLaw.append {u : Jcu} (h : u.ListLaw) (hroom : u.contexts.length < 8)
    (hnew : ∀ y ∈ u.contexts, y.junction ≠ x.junction) :
    Jcu.ListLaw { u with contexts := u.contexts ++ [x] } := by
  obtain ⟨-, hnodup⟩ := h
  refine ⟨?_, ?_⟩
  · simp only [List.length_append, List.length_singleton]
    omega
  · rw [List.map_append, List.nodup_append]
    refine ⟨hnodup, by simp, fun a ha b hb => ?_⟩
    obtain ⟨y, hy, rfl⟩ := List.mem_map.1 ha
    obtain rfl : b = x.junction := by simpa using hb
    exact hnew y hy

theorem State.addCtx_listLawsKept (hroom : s.jcu.contexts.length < 8)
    (hnew : ∀ y ∈ s.jcu.contexts, y.junction ≠ x.junction) : s.ListLawsKept (s.addCtx x) :=
  .judged rfl fun h => h.append hroom hnew

theorem State.addRequesting_listLawsKept (hroom : s.jcu.contexts.length < 8)
    (hnew : ∀ y ∈ s.jcu.contexts, y.junction ≠ x.junction) (d : Direction) (src : DirSource) :
    s.ListLawsKept (s.addRequesting x d src) :=
  (State.addCtx_listLawsKept hroom (by exact hnew)).trans (State.offerAttempt_listLawsKept _ _ _ _)

theorem State.createCtx_listLawsKept {j : Nat} (hroom : s.jcu.contexts.length < 8)
    (hnew : ∀ y ∈ s.jcu.contexts, y.junction ≠ j) : s.ListLawsKept (s.createCtx j) := by
  unfold State.createCtx
  split
  · exact (State.addCtx_listLawsKept hroom (by exact hnew)).trans (State.log_listLawsKept _ _)
  · split
    · exact (s.onJcu_listLawsKept (by exact ⟨rfl, rfl, rfl, rfl⟩)).trans
        (State.addRequesting_listLawsKept (by exact hroom) (by exact hnew) _ _)
    · split
      · exact State.addRequesting_listLawsKept hroom (by exact hnew) _ _
      · exact State.addCtx_listLawsKept hroom (by exact hnew)

theorem State.contextFull_listLawsKept (s : State) (j : Nat) : s.ListLawsKept (s.contextFull j) := by
  refine .ite (fun _ => .refl s) (.trans (.judged (by rfl) fun h => ?_) (State.log_listLawsKept _ _))
  exact h.of_junctions rfl

/-- No context of a junction is found exactly when none has it. -/
theorem Jcu.find_none_iff {u : Jcu} {j : Nat} : u.find j = none ↔ ∀ y ∈ u.contexts, y.junction ≠ j := by
  simp [Jcu.find]

theorem State.requestIdent_listLawsKept (s : State) (j : Nat) (st : PointStatus) (locked : Nat) :
    s.ListLawsKept (s.requestIdent j st locked) := by
  unfold State.requestIdent
  dsimp only
  have hrecorded : s.ListLawsKept (s.onJcu fun u => { u with lastIdent := some (j, s.cmn.partTime) }) :=
    s.onJcu_listLawsKept ⟨rfl, rfl, rfl, rfl⟩
  refine hrecorded.trans ?_
  split
  · exact State.statusUpdate_listLawsKept _ _ _ _
  · next hnone =>
    split
    · exact State.contextFull_listLawsKept _ _
    · next hfull =>
      have hnew := Jcu.find_none_iff.1 (Option.not_isSome_iff_eq_none.1 hnone)
      exact (State.createCtx_listLawsKept (by exact Nat.lt_of_not_le hfull) (by exact hnew)).trans
        (State.statusUpdate_listLawsKept _ _ _ _)

/-! ### Contexts closed (R133, R134, R138) -/

theorem State.closeCtx_listLawsKept (s : State) (x : Ctx) (entry : Option LogInfo) :
    s.ListLawsKept (s.closeCtx x entry) := by
  have hclosed : s.ListLawsKept (((s.onJcu fun u =>
      { u with contexts := u.contexts.filter fun y => y.junction != x.junction
               overflow := false }).onLlu fun u => u.withdraw x.junction)).judgeJunctions := by
    refine .judged rfl fun h => ?_
    have hsub := s.jcu.contexts.filter_sublist (p := fun y => y.junction != x.junction)
    exact ⟨hsub.length_le.trans h.1, h.2.sublist (hsub.map _)⟩
  unfold State.closeCtx
  split
  · exact hclosed.trans (State.log_listLawsKept _ _)
  · exact hclosed

theorem State.judgeClosures_listLawsKept (s : State) : s.ListLawsKept s.judgeClosures := by
  refine .ite (fun _ => State.foldl_listLawsKept (f := State.judgeClosure) (fun t x => ?_) _ s) (.refl s)
  unfold State.judgeClosure
  split
  · exact t.closeCtx_listLawsKept x _
  · exact .refl t

theorem State.junctionEnd_listLawsKept (s : State) : s.ListLawsKept s.junctionEnd :=
  .judged rfl fun _ => Jcu.listLaw_of_nil rfl

theorem State.junctionStart_listLawsKept (s : State) : s.ListLawsKept s.junctionStart :=
  .judged rfl fun _ => Jcu.listLaw_of_nil rfl

/-! ### The traction state (R90, R91, R92) -/

theorem State.tractionOff_listLawsKept (s : State) : s.ListLawsKept s.tractionOff :=
  .ite (fun _ => .refl s) (.of_snu rfl rfl (Snu.setEmergency_signalsKept _ _))

theorem State.tractionHold_listLawsKept (s : State) : s.ListLawsKept s.tractionHold :=
  .of_units (by simp) (by simp) (by simp)

theorem State.tractionRun_listLawsKept (s : State) : s.ListLawsKept s.tractionRun :=
  .of_units (by simp) (by simp) (by simp)

theorem State.brake_listLawsKept (s : State) (cause : Int) : s.ListLawsKept (s.brake cause) :=
  .of_snu rfl rfl (Snu.setEmergency_signalsKept _ _)

theorem State.tractionStart_listLawsKept (s : State) : s.ListLawsKept s.tractionStart :=
  .ite (fun _ => .refl s) (.ite (fun _ => (s.onTdu_listLawsKept _).trans (State.brake_listLawsKept _ _))
    (s.onTdu_listLawsKept _))

theorem State.emergencyFrame_listLawsKept (s : State) : s.ListLawsKept s.emergencyFrame :=
  .of_units (by simp) (by simp) (by simp)

theorem State.emergency_listLawsKept (s : State) (cause : Int) : s.ListLawsKept (s.emergency cause) :=
  (s.brake_listLawsKept cause).trans (State.emergencyFrame_listLawsKept _)

theorem State.leaveEmergency_listLawsKept (s : State) (dh : Int) : s.ListLawsKept (s.leaveEmergency dh) :=
  .ite (fun _ => .of_snu rfl rfl (Snu.setEmergency_signalsKept _ _)) (.refl s)

theorem State.computeDemand_listLawsKept (s : State) (p : Profile) : s.ListLawsKept (s.computeDemand p) := by
  have hdrawn : s.ListLawsKept s.drawHandle := .of_units (by simp) (by simp) (by simp)
  unfold State.computeDemand
  dsimp only
  generalize handleTarget p s.ciu.fault s.readHandle = dh
  refine (hdrawn.trans (State.leaveEmergency_listLawsKept _ dh)).trans (.ite (fun _ => ?_) ?_)
  · exact .of_units (by simp) (by simp) (by simp)
  · exact .of_units (by simp) (by simp) (by simp)

/-! ### A change of role (R69, R90, R138) -/

theorem State.loopOff_listLawsKept (s : State) : s.ListLawsKept s.loopOff := .of_units (by simp) (by simp) (by simp)

theorem State.loopOn_listLawsKept (s : State) : s.ListLawsKept s.loopOn := .of_units (by simp) (by simp) (by simp)

theorem State.departFrom_listLawsKept (s : State) (old new : Role) : s.ListLawsKept (s.departFrom old new) := by
  cases old
  case inactive => exact .of_units (by simp) (by simp [State.departFrom]) (by simp [State.departFrom])
  case active =>
    have hended : s.ListLawsKept s.junctionEnd.stopEnd :=
      s.junctionEnd_listLawsKept.trans (.of_units (by simp) (by simp) (by simp))
    have htraction : s.ListLawsKept
        (if new = .conflict then s.junctionEnd.stopEnd.tractionHold else s.junctionEnd.stopEnd.tractionOff) :=
      .ite (fun _ => hended.trans (State.tractionHold_listLawsKept _))
        (hended.trans (State.tractionOff_listLawsKept _))
    exact htraction.trans (State.loopOff_listLawsKept _)
  case conflict => exact .ite (fun _ => .refl s) s.tractionOff_listLawsKept
  all_goals exact .refl s

theorem State.arriveActive_listLawsKept (s : State) (old : Role) : s.ListLawsKept (s.arriveActive old) := by
  have hstarted : s.ListLawsKept s.junctionStart.stopStart :=
    s.junctionStart_listLawsKept.trans (.of_units (by simp) (by simp) (by simp))
  have htraction : s.ListLawsKept
      (if old = .conflict then s.junctionStart.stopStart.tractionRun
        else s.junctionStart.stopStart.tractionStart) :=
    .ite (fun _ => hstarted.trans (State.tractionRun_listLawsKept _))
      (hstarted.trans (State.tractionStart_listLawsKept _))
  exact htraction.trans (State.loopOn_listLawsKept _)

theorem State.sendAnnounce_listLawsKept (s : State) : s.ListLawsKept s.sendAnnounce := by
  obtain ⟨n, hcru⟩ := s.sendAnnounce_cru
  exact .of_cru (by rw [hcru]) (by simp) (by simp)

theorem State.setRole_listLawsKept (s : State) (r : Role) : s.ListLawsKept (s.setRole r) := by
  have hentered : s.ListLawsKept (s.onCru fun u => u.enter r) := .of_cru rfl rfl rfl
  unfold State.setRole
  dsimp only
  refine .trans (.trans ((hentered.trans (State.departFrom_listLawsKept _ _ _)).trans (.ite (fun _ => ?_) (.refl _)))
    (State.onSnu_listLawsKept _ (Snu.setAlertRole_signalsKept _ _))) (State.sendAnnounce_listLawsKept _)
  exact State.arriveActive_listLawsKept _ _

theorem State.keyOffMoving_listLawsKept (s : State) (cause : Int) : s.ListLawsKept (s.keyOffMoving cause) :=
  (s.log_listLawsKept _).trans (State.setRole_listLawsKept _ _)

/-! ### The key (R62 to R68) -/

theorem State.takeKeyOn_listLawsKept (s : State) : s.ListLawsKept s.takeKeyOn :=
  .ite (fun _ => s.setRole_listLawsKept _) (s.setRole_listLawsKept _)

theorem State.unloopBoth_listLawsKept (s : State) (cause : Int) : s.ListLawsKept (s.unloopBoth cause) :=
  .of_units (by simp) (by simp) (by simp)

theorem State.keyOnIdle_listLawsKept (s : State) : s.ListLawsKept s.keyOnIdle := by
  have hopen : s.ListLawsKept s.clearedForKeyOn :=
    (s.unloopBoth_listLawsKept 3).trans (State.onCru_listLawsKept _ rfl)
  exact hopen.trans (.ite (fun _ => State.takeKeyOn_listLawsKept _) (.of_cru rfl rfl rfl))

theorem State.keyTurnsOn_listLawsKept (s : State) : s.ListLawsKept s.keyTurnsOn := by
  have hreleasing : s.ListLawsKept s.keyOnReleasing := by
    rw [State.keyOnReleasing_eq]
    exact .of_cru rfl rfl rfl
  unfold State.keyTurnsOn
  split
  · exact s.keyOnIdle_listLawsKept
  · exact s.keyOnIdle_listLawsKept
  · exact .ite (fun _ => hreleasing) (.refl s)
  · exact .refl s

theorem State.keyTurnsOff_listLawsKept (s : State) : s.ListLawsKept s.keyTurnsOff := by
  have hreleasing : s.ListLawsKept s.startReleasing := by
    rw [State.startReleasing_eq]
    exact .of_cru rfl rfl rfl
  unfold State.keyTurnsOff
  split
  · exact .of_cru rfl rfl rfl
  · exact .of_cru rfl rfl rfl
  · exact .ite (fun _ => .refl s) (.ite (fun _ => s.setRole_listLawsKept _) hreleasing)
  · exact s.setRole_listLawsKept _

theorem State.keyChange_listLawsKept (s : State) (on : Bool) : s.ListLawsKept (s.keyChange on) :=
  .ite (fun _ => .refl s) (.ite (fun _ => s.keyTurnsOn_listLawsKept) s.keyTurnsOff_listLawsKept)

/-! ### The Cab Table (R60, R61) -/

theorem State.followTable_listLawsKept (s : State) : s.ListLawsKept s.followTable :=
  .ite (fun _ => .refl s) (s.setRole_listLawsKept _)

theorem State.followConflict_listLawsKept (s : State) : s.ListLawsKept s.followConflict :=
  .ite (fun _ => .refl s) (s.setRole_listLawsKept _)

theorem State.meetCommand_listLawsKept (s : State) (a : Addr) : s.ListLawsKept (s.meetCommand a) :=
  (s.log_listLawsKept _).trans (.ite (fun _ => State.setRole_listLawsKept _ _) (State.setRole_listLawsKept _ _))

theorem State.roleOnAnnounce_listLawsKept (s : State) (a : Addr) (r : Announced) :
    s.ListLawsKept (s.roleOnAnnounce a r) := by
  unfold State.roleOnAnnounce
  split
  · exact s.followTable_listLawsKept
  · exact s.followTable_listLawsKept
  · exact .ite (fun _ => s.setRole_listLawsKept _) (.refl s)
  · exact .ite (fun _ => .refl s) (s.meetCommand_listLawsKept a)
  · exact .of_cru rfl rfl rfl
  · exact s.followConflict_listLawsKept

/-- An announce is heard where the table has an entry or a place for it, and the table keeps its law (R60). -/
theorem State.takeAnnounce_listLawsKept (s : State) (f : Frame) : s.ListLawsKept (s.takeAnnounce f) := by
  unfold State.takeAnnounce
  dsimp only
  split
  · exact .of_cru rfl rfl rfl
  · split
    · exact .ite (fun _ => .refl s) (.of_cru rfl rfl rfl)
    · next hfull =>
      have hplace : s.cru.holdsCab (addrOf f.src) = true ∨ s.cru.cabs.length < 4 := by
        rw [not_and, Nat.not_le] at hfull
        exact (Bool.eq_false_or_eq_true _).imp id hfull
      refine .trans ?_ (State.roleOnAnnounce_listLawsKept _ _ _)
      exact .of_marks (fun h => Cru.hear_tableLaw h hplace) (.refl _) (.refl _)

theorem State.roleOnRemoval_listLawsKept (s : State) : s.ListLawsKept s.roleOnRemoval := by
  unfold State.roleOnRemoval
  split
  · exact s.followTable_listLawsKept
  · exact .of_cru rfl rfl rfl
  · exact s.followConflict_listLawsKept
  · exact .refl s

/-- An entry removed leaves the others in their order (R61). -/
theorem State.withoutCab_listLawsKept (s : State) (a : Addr) : s.ListLawsKept (s.withoutCab a) := by
  refine .of_marks (fun h => ?_) (.refl _) (.refl _)
  have hsub := s.cru.cabs.filter_sublist (p := fun e => e.cab != a)
  exact ⟨hsub.length_le.trans h.1, h.2.sublist (hsub.map _)⟩

theorem State.entryTimeout_listLawsKept (s : State) (a : Addr) : s.ListLawsKept (s.entryTimeout a) :=
  (s.withoutCab_listLawsKept a).trans (State.roleOnRemoval_listLawsKept _)

/-! ### The demand period, the stop record and the reset -/

theorem State.releasingFinding_listLawsKept (s : State) : s.ListLawsKept s.releasingFinding :=
  .ite (fun _ => .refl s) (.ite (fun _ => s.keyOffMoving_listLawsKept 1) (.of_cru rfl rfl rfl))

theorem State.period_listLawsKept (s : State) : s.ListLawsKept s.period := by
  have hfound : s.ListLawsKept (s.onTdu fun u => { u with periodTimer := some 20 }).findSpeed :=
    .of_units (by simp) (by simp) (by simp)
  have hstages := (hfound.trans (State.judgeClosures_listLawsKept _)).trans
    (State.computeDemand_listLawsKept _ (s.tdu.live.getD s.tdu.shadow))
  exact (hstages.trans (.of_units (by simp) (by simp) (by simp))).trans (State.releasingFinding_listLawsKept _)

theorem State.stopPressTaken_listLawsKept (s : State) (f : Frame) : s.ListLawsKept (s.stopPressTaken f) := by
  refine .of_snu (by simp) (by simp) ?_
  unfold State.stopPressTaken
  split
  · exact .refl _
  · split
    · exact .refl _
    · split
      · exact .refl _
      · unfold State.validPress
        split
        · simp only [State.firstPress, State.onSnu_snu, State.indicateRequested_keeps, State.onSru_snu]
          exact Snu.requestEvent_signalsKept _ _
        · unfold State.furtherPress
          dsimp only
          split
          · simp only [State.onSnu_snu, State.indicateRequested_keeps, State.onSru_snu]
            exact Snu.requestEvent_signalsKept _ _
          · exact .refl _
        · exact .refl _

/-- No context, an empty Cab Table, and the lamp dark with both requests withdrawn meet the laws (R72, R140, R159). -/
theorem State.ListLawsKept.of_reset (hcabs : t.cru.cabs = []) (hcontexts : t.jcu.contexts = [])
    (hoverflow : t.jcu.overflow = false) (hlamp : t.jcu.routeLamp = false) (hwarning : t.snu.warning = false)
    (hclaim : t.snu.alertJunction = false) : s.ListLawsKept t where
  list _ := Jcu.listLaw_of_nil hcontexts
  table _ := by
    rw [Cru.TableLaw, hcabs]
    exact ⟨by decide, List.Pairwise.nil⟩
  signal _ := by simp [State.SignalLaw, Jcu.Warns, Jcu.Alerts, hcontexts, hoverflow, hlamp, hwarning, hclaim]

theorem State.settleReset_listLawsKept (s : State) : s.ListLawsKept s.settleReset := by
  unfold State.settleReset
  split
  · exact .refl s
  · exact .ite (fun _ => .refl s)
      (.ite (fun _ => .of_units rfl rfl rfl) (.of_reset rfl rfl rfl rfl rfl rfl))

end Sys2Proof.Machine
end

section
/-! SUPPORT. The laws of the contexts, of the Cab Table and of the signals through every command and every bit time,
with the statement that every step keeps them (R60, R123, R136, R137). -/

namespace Sys2Proof.Machine

variable {s : State}

/-! ### The commands that take a CONTROL frame -/

/-- An action of the Management Unit keeps the laws. -/
def Act.ListLawsKept (act : Act) : Prop := ∀ (t : State) (f : Frame), t.ListLawsKept (act t f).1

/-- An action that moves neither the roles, nor the contexts, nor the sounds. -/
theorem Act.ListLawsKept.of_units {act : Act}
    (h : ∀ t f, (act t f).1.cru = t.cru ∧ (act t f).1.jcu = t.jcu ∧ (act t f).1.snu = t.snu) : act.ListLawsKept := by
  intro t f
  obtain ⟨hcru, hjcu, hsnu⟩ := h t f
  exact .of_units hcru hjcu hsnu

theorem State.control_listLawsKept {row : Instr} {act : Act} (acts : act.ListLawsKept) :
    s.ListLawsKept (s.control row act) :=
  State.control_ind (P := s.ListLawsKept) (fun t h => h.trans (.of_units (by simp) (by simp) (by simp)))
    (fun t f h => h.trans (acts t f)) (fun t f h => h.trans (.of_units rfl rfl rfl))
    (fun t f a h => h.trans (.of_units (by simp) (by simp) (by simp)))
    (fun t b h => h.trans (.of_units (by simp) (by simp) (by simp)))
    (fun t h => h.trans t.settleReset_listLawsKept) (.refl s)

/-- A table write keeps the laws where the write of one entry does (R171). -/
theorem writeEntries_listLawsKept {α : Type} {lo hi size : Nat} {parse : Nat → List Byte → Option (Taken α)}
    {put : State → Nat → α → State} (puts : ∀ (t : State) i x, t.ListLawsKept (put t i x)) :
    Act.ListLawsKept fun t f => t.writeEntries lo hi size f.payload parse put :=
  fun t _ => State.writeEntries_ind (P := t.ListLawsKept) (fun u i x h => h.trans (puts u i x)) (.refl t)

/-- The shadow Route Table is none of the contexts (R120). -/
theorem writeRoute_listLawsKept : Act.ListLawsKept fun t f => t.writeRoute f.payload :=
  fun t _ => State.writeRoute_ind (P := t.ListLawsKept)
    (fun u _ _ h => h.trans (u.onJcu_listLawsKept ⟨rfl, rfl, rfl, rfl⟩))
    (fun u _ _ h => h.trans (u.onJcu_listLawsKept ⟨rfl, rfl, rfl, rfl⟩)) (.refl t)

theorem writePattern_listLawsKept : Act.ListLawsKept fun t f => t.writePattern f.payload :=
  fun t _ => State.writePattern_ind (P := t.ListLawsKept)
    (fun u _ _ h => h.trans (u.onSnu_listLawsKept (Snu.writePattern_signalsKept _ _ _))) (.refl t)

theorem setMode_listLawsKept (m : PortMode) : (setMode m).ListLawsKept := by
  refine .of_units fun t f => ?_
  unfold setMode
  (repeat' split) <;> simp [State.badIndex]

theorem setCode_listLawsKept (c : LoopCode) : (setCode c).ListLawsKept := by
  refine .of_units fun t f => ?_
  unfold setCode
  split <;> simp [State.badIndex]

/-- A live Route Table is none of the contexts (R121). -/
theorem commitRoute_listLawsKept : commitRoute.ListLawsKept := by
  intro t f
  unfold commitRoute
  dsimp only
  split
  · exact .refl t
  · exact .of_cabs rfl ⟨rfl, rfl, rfl, rfl⟩ (.refl _)

/-- A PROFILE made live takes the key-on that waited for one (R62, R94). -/
theorem commitProfile_listLawsKept : commitProfile.ListLawsKept := by
  intro t f
  have hlive {g : Tdu → Tdu} : t.ListLawsKept (t.onTdu g) := .of_units rfl rfl rfl
  unfold commitProfile
  dsimp only
  split
  · exact .refl t
  · split
    · exact .refl t
    · exact .ite (fun _ => hlive.trans (State.takeKeyOn_listLawsKept _)) hlive

theorem noRow_listLawsKept : noRow.ListLawsKept := by
  refine .of_units fun t f => ?_
  unfold noRow
  split <;> exact ⟨rfl, rfl, rfl⟩

theorem setManager_listLawsKept : setManager.ListLawsKept := by
  refine .of_units fun t f => ?_
  unfold setManager
  dsimp only
  split <;> exact ⟨rfl, rfl, rfl⟩

theorem preselect_listLawsKept : preselect.ListLawsKept := by
  intro t f
  unfold preselect
  split
  · exact .refl t
  · split
    · exact .refl t
    · exact t.routePress_listLawsKept _

theorem resetPart_listLawsKept : resetPart.ListLawsKept := by
  refine .of_units fun t f => ?_
  unfold resetPart
  split <;> exact ⟨rfl, rfl, rfl⟩

theorem exec_control_listLawsKept {c : Instr} (hc : c ∈ controlRows) (s : State) :
    ∃ t, exec c s = .next t ∧ s.ListLawsKept t := by
  cases c
  case unknownCommand => exact ⟨_, rfl, State.control_listLawsKept noRow_listLawsKept⟩
  case readTable | readState | readLog =>
    exact ⟨_, rfl, State.control_listLawsKept fun t _ => .refl t⟩
  case writeNode | writeClass | writeTagMap | writeWeights | writeQueueMap | writeAttributeConfig | writeProfile =>
    exact ⟨_, rfl, State.control_listLawsKept (writeEntries_listLawsKept fun _ _ _ => .of_units rfl rfl rfl)⟩
  case writeTone =>
    exact ⟨_, rfl, State.control_listLawsKept
      (writeEntries_listLawsKept fun t _ _ => t.onSnu_listLawsKept (Snu.writeTone_signalsKept _ _ _))⟩
  case writeSoundMap =>
    exact ⟨_, rfl, State.control_listLawsKept
      (writeEntries_listLawsKept fun t _ _ => t.onSnu_listLawsKept (Snu.writeMap_signalsKept _ _))⟩
  case writePortConfig =>
    exact ⟨_, rfl, State.control_listLawsKept
      (writeEntries_listLawsKept fun _ _ _ => .of_units (by simp) (by simp) (by simp))⟩
  case writeRoute => exact ⟨_, rfl, State.control_listLawsKept writeRoute_listLawsKept⟩
  case writePattern => exact ⟨_, rfl, State.control_listLawsKept writePattern_listLawsKept⟩
  case commitRoute => exact ⟨_, rfl, State.control_listLawsKept commitRoute_listLawsKept⟩
  case commitProfile => exact ⟨_, rfl, State.control_listLawsKept commitProfile_listLawsKept⟩
  case clearLatches | clearLog | clearAttributes | clearCounters =>
    exact ⟨_, rfl, State.control_listLawsKept fun _ _ => .of_cabs rfl ⟨rfl, rfl, rfl, rfl⟩ ⟨rfl, rfl⟩⟩
  case setNormal | setLocalLoopback | setRemoteLoopback | setDisabled =>
    exact ⟨_, rfl, State.control_listLawsKept (setMode_listLawsKept _)⟩
  case sendLoopup | sendLoopdown | stopLoopcode =>
    exact ⟨_, rfl, State.control_listLawsKept (setCode_listLawsKept _)⟩
  case setManager => exact ⟨_, rfl, State.control_listLawsKept setManager_listLawsKept⟩
  case setReport => exact ⟨_, rfl, State.control_listLawsKept fun _ _ => .of_units rfl rfl rfl⟩
  case preselect => exact ⟨_, rfl, State.control_listLawsKept preselect_listLawsKept⟩
  case resetPart => exact ⟨_, rfl, State.control_listLawsKept resetPart_listLawsKept⟩
  all_goals simp [controlRows] at hc

/-! ### The commands without a CONTROL frame -/

theorem State.consume_listLawsKept {kind : Byte} {act : State → Frame → State}
    (acts : ∀ (t : State) (f : Frame), t.ListLawsKept (act t f)) : s.ListLawsKept (s.consume kind act) :=
  State.consume_ind (P := s.ListLawsKept) (fun t h => h.trans (.of_units (by simp) (by simp) (by simp)))
    (fun t f h => h.trans (acts t f)) (fun t b h => h.trans (.of_units (by simp) (by simp) (by simp))) (.refl s)

theorem State.deadmanChange_listLawsKept (s : State) (held : Bool) : s.ListLawsKept (s.deadmanChange held) :=
  .of_units (by simp) (by simp) (by simp)

theorem State.doorChange_listLawsKept (s : State) (on : Bool) : s.ListLawsKept (s.doorChange on) :=
  .of_units (by simp) (by simp) (by simp)

theorem State.judgeHorn_listLawsKept (s : State) : s.ListLawsKept s.judgeHorn :=
  s.onSnu_listLawsKept (Snu.setHorn_signalsKept _ _)

/-- A debounced change moves the contexts by the key and the route buttons alone (R76). -/
theorem State.deliverChange_listLawsKept (s : State) (i : Input) (level : Bool) :
    s.ListLawsKept (s.deliverChange i level) := by
  cases i with
  | key => exact (s.keyChange_listLawsKept level).trans (State.judgeHorn_listLawsKept _)
  | deadman => exact s.deadmanChange_listLawsKept level
  | estop => exact .ite (fun _ => s.emergency_listLawsKept 1) (.refl s)
  | doorRelease => exact s.doorChange_listLawsKept level
  | horn => exact s.judgeHorn_listLawsKept
  | bell => exact .ite (fun _ => s.onSnu_listLawsKept (Snu.pressBell_signalsKept _)) (.refl s)
  | routeLeft | routeStraight | routeRight => exact .ite (fun _ => s.routePress_listLawsKept _) (.refl s)

/-- The telegrams that move a context are idents and replies (R111). -/
theorem State.acceptTelegram_listLawsKept (s : State) (m : Telegram) : s.ListLawsKept (s.acceptTelegram m) := by
  unfold State.acceptTelegram
  split
  · exact .of_units rfl rfl rfl
  · exact s.requestIdent_listLawsKept _ _ _
  · exact s.clearIdent_listLawsKept _
  · exact .of_units rfl rfl rfl
  · exact s.pointReply_listLawsKept _ _ _

theorem State.endTelegram_listLawsKept (s : State) (m : Telegram) : s.ListLawsKept (s.endTelegram m) := by
  refine .ite (fun _ => ?_) (.of_units rfl rfl rfl)
  exact (s.onLlu_listLawsKept _).trans (State.acceptTelegram_listLawsKept _ m)

theorem State.testResult_listLawsKept (s : State) : s.ListLawsKept s.testResult :=
  .of_units (by simp) (by simp) (by simp)

theorem State.endListening_listLawsKept (s : State) : s.ListLawsKept s.endListening :=
  ((s.onLlu_listLawsKept _).trans (State.carrierLost_listLawsKept _)).trans (State.testResult_listLawsKept _)

/-- The end of a frame's transmission moves the lists only by the control reset that waited for it (R56, R178). -/
theorem exec_frameSent_listLawsKept (s : State) (p : Port) :
    ∃ t, exec (.frameSent p) s = .next t ∧ s.ListLawsKept t := by
  refine ⟨_, rfl, ?_⟩
  split
  · next b _ =>
    have hsent : s.ListLawsKept (s.completeFrame p b) := .of_units (by simp) (by simp) (by simp)
    exact (hsent.trans (State.settleReset_listLawsKept _)).trans (.of_units (by simp) (by simp) (by simp))
  · exact .refl s

theorem exec_autoloopEnter_listLawsKept (s : State) (p : Port) :
    ∃ t, exec (.autoloopEnter p) s = .next t ∧ s.ListLawsKept t := by
  have hentered : s.ListLawsKept ((s.enterRemote p).log (portEntry .autoloopEnter p)) :=
    .of_units (by simp) (by simp) (by simp)
  exact ⟨_, rfl, .ite (fun _ => hentered.trans (State.settleReset_listLawsKept _)) (.refl s)⟩

/-- Every command but a power-on reset and the CONTROL commands keeps the laws. -/
theorem exec_event_listLawsKept {c : Instr} (hr : c ∉ controlRows) (hp : ∀ straps, c ≠ .powerOnReset straps)
    (s : State) : ∃ t, exec c s = .next t ∧ s.ListLawsKept t := by
  cases c
  case powerOnReset straps => exact absurd rfl (hp straps)
  case frameSent p => exact exec_frameSent_listLawsKept s p
  case autoloopEnter p => exact exec_autoloopEnter_listLawsKept s p
  case takeCabAnnounce => exact ⟨_, rfl, State.consume_listLawsKept State.takeAnnounce_listLawsKept⟩
  case takeInverterStatus =>
    exact ⟨_, rfl, State.consume_listLawsKept fun _ _ => .of_units (by simp) (by simp) (by simp)⟩
  case takeStopPress => exact ⟨_, rfl, State.consume_listLawsKept State.stopPressTaken_listLawsKept⟩
  case announceTimerExpiry =>
    exact ⟨_, rfl, .ite (fun _ => (s.onCru_listLawsKept rfl).trans (State.sendAnnounce_listLawsKept _)) (.refl s)⟩
  case claimWindowExpiry | clearTimerExpiry => exact ⟨_, rfl, .ite (fun _ => s.setRole_listLawsKept _) (.refl s)⟩
  case cabEntryTimeout cab => exact ⟨_, rfl, .ite (fun _ => s.entryTimeout_listLawsKept cab) (.refl s)⟩
  case releasingTimerExpiry => exact ⟨_, rfl, .ite (fun _ => s.keyOffMoving_listLawsKept 2) (.refl s)⟩
  case cabLampFlash => exact ⟨_, rfl, .ite (fun _ => .of_cru rfl rfl rfl) (.refl s)⟩
  case debouncedChange i level =>
    have hset : s.ListLawsKept (s.setLevel i level) := .of_units rfl rfl rfl
    exact ⟨_, rfl, .ite (fun _ => hset.trans (State.deliverChange_listLawsKept _ i level)) (.refl s)⟩
  case graceTimerExpiry =>
    exact ⟨_, rfl, .ite (fun _ => (s.log_listLawsKept _).trans (State.emergency_listLawsKept _ 2)) (.refl s)⟩
  case demandPeriod => exact ⟨_, rfl, .ite (fun _ => s.period_listLawsKept) (.refl s)⟩
  case carrierGain =>
    exact ⟨_, rfl, .ite (fun _ => .ite (fun _ => .of_units rfl rfl rfl) (.of_units rfl rfl rfl)) (.refl s)⟩
  case carrierLoss =>
    have hlost := s.onLlu_listLawsKept fun u => u.setCarrier false
    exact ⟨_, rfl, .ite (fun _ => .ite (fun _ => hlost.trans (State.endListening_listLawsKept _)) hlost) (.refl s)⟩
  case telegramReceived m => exact ⟨_, rfl, .ite (fun _ => s.endTelegram_listLawsKept m) (.refl s)⟩
  case retryTimerExpiry j =>
    refine ⟨_, rfl, ?_⟩
    split
    · exact .ite (fun _ => s.retryExpiry_listLawsKept _) (.refl s)
    · exact .refl s
  case pointRequestSent =>
    refine ⟨_, rfl, ?_⟩
    split
    · exact .refl s
    · exact .ite (fun _ => (s.onLlu_listLawsKept _).trans (State.requestReported_listLawsKept _ _)) (.refl s)
  case stepEnd c =>
    exact ⟨_, rfl, .ite (fun _ => s.onSnu_listLawsKept (Snu.stepEnd_signalsKept _ _ _)) (.refl s)⟩
  case handleSample => exact ⟨_, rfl, .of_units (by simp) (by simp) (by simp)⟩
  case frameEnd =>
    refine ⟨_, rfl, ?_⟩
    split
    · exact .ite (fun _ => .of_units (by simp) (by simp) (by simp)) (.refl s)
    · exact .refl s
  case pointRequestTransmit =>
    refine ⟨_, rfl, ?_⟩
    split
    · exact .refl s
    · exact .ite (fun _ => .of_units (by simp) (by simp) (by simp)) (.refl s)
  case frameStart | skippedFrameEnd | lengthError | syncLoss | receiverDown | receiverUp | autoloopExit |
      learningTimerExpiry | loopReportHoldExpiry | fillPairSent | handleFault | handleFaultCleared |
      telegramStart | loopLengthError | refreshTimerExpiry | inhibitTimerExpiry | recoveryTimerExpiry |
      reportTimerExpiry | bitJudged =>
    exact ⟨_, rfl, .ite (fun _ => .of_units (by simp) (by simp) (by simp)) (.refl s)⟩
  all_goals exact absurd (by decide) hr

/-! ### Every step -/

/-- A bit time moves the timers of the entries and of the contexts, and the tone outputs (R61, R127, R150). -/
theorem State.clock_listLawsKept (s : State) : s.ListLawsKept s.clock := by
  obtain ⟨-, hwithin, hends⟩ := s.clock_units
  by_cases hm : s.cmn.micros + 1 < 1000
  · obtain ⟨-, -, hcru, -, -, hjcu, -, hsnu, -⟩ := hwithin hm
    exact .of_snu hcru hjcu (by rw [hsnu]; exact s.snu.clock_signalsKept)
  · obtain ⟨-, -, hcru, -, -, hjcu, -, hsnu, -⟩ := hends (not_lt.1 hm)
    refine .of_marks (fun h => ?_) ?_ ?_
    · rw [hcru, Cru.TableLaw, Cru.tick, List.length_map, List.map_map]
      exact h
    · rw [hjcu]
      exact .of_map (fun _ => rfl) fun _ => rfl
    · rw [hsnu]
      exact s.snu.clock_signalsKept

theorem step_listLawsKept {t : State} (hs : step s = .next t) : s.ListLawsKept t := by
  unfold Machine.step at hs
  split at hs
  · cases hs
    exact s.clock_listLawsKept
  · next c rest _ =>
    have hqueue : s.ListLawsKept { s with pending := rest } := .of_units rfl rfl rfl
    by_cases hr : c ∈ controlRows
    · obtain ⟨u, hu, hkept⟩ := exec_control_listLawsKept hr { s with pending := rest }
      cases hs.symm.trans hu
      exact hqueue.trans hkept
    · by_cases hp : ∃ straps, c = .powerOnReset straps
      · obtain ⟨straps, rfl⟩ := hp
        cases hs
        exact .of_reset rfl rfl rfl rfl rfl rfl
      · obtain ⟨u, hu, hkept⟩ :=
          exec_event_listLawsKept hr (fun straps k => hp ⟨straps, k⟩) { s with pending := rest }
        cases hs.symm.trans hu
        exact hqueue.trans hkept

/-- Settles O59: each command keeps the three laws from the state it is taken in, and a bit time moves no more than
timers and tone outputs. -/
theorem listLawsAreKept : Obligations.ListLawsAreKept :=
  ⟨fun _ _ h hs => (step_listLawsKept hs).list h, fun _ _ h hs => (step_listLawsKept hs).table h,
    fun _ _ h hs => (step_listLawsKept hs).signal h⟩

end Sys2Proof.Machine
end

section
/-! SUPPORT. The telegrams that reach the Junction Unit (R111), and what each changes: one context in its place, with the
requests that wait for it (R127, R131, R132). -/

namespace Sys2Proof.Machine

variable {s t v : State} {m : Telegram} {j i run locked : Nat} {st : PointStatus} {r : ReplyResult} {x : Ctx}

/-! ### A telegram handed on -/

/-- A good telegram counted, the receiver back in HUNT with nothing heard there yet (R110; log entry 40). -/
def State.telegramCounted (s : State) : State :=
  { s with llu := { s.llu with rx := .hunt, front := LoopFront.start, good := bump s.llu.good } }

theorem exec_telegramReceived_counted (hr : s.llu.rx = .telegram) (hlen : m.fields.length ≤ 16)
    (hc : m.check = telegramCheck m) :
    exec (.telegramReceived m) s = .next (s.telegramCounted.acceptTelegram m) :=
  exec_telegramReceived_good hr hlen hc

theorem State.acceptTelegram_request (h : loopMessage m = some (.ident .request j st locked)) :
    s.acceptTelegram m = s.requestIdent j st locked := by
  rw [State.acceptTelegram, h]

theorem State.acceptTelegram_clear (h : loopMessage m = some (.ident .clear j st locked)) :
    s.acceptTelegram m = s.clearIdent j := by
  rw [State.acceptTelegram, h]

theorem State.acceptTelegram_reply (h : loopMessage m = some (.reply j run r)) :
    s.acceptTelegram m = s.pointReply j run r := by
  rw [State.acceptTelegram, h]

/-! ### The context of a junction in the list (R123) -/

/-- The context of a junction after a change of one in its place. -/
theorem Jcu.find_update {u : Jcu} {f : Ctx → Ctx} (hj : ∀ y, (f y).junction = y.junction) :
    (u.update i f).find j = (u.find j).map fun y => if y.junction = i then f y else y := by
  have hsame : (fun x : Ctx => x.junction == j) ∘ (fun y => if y.junction = i then f y else y) =
      fun x => x.junction == j := by
    funext y
    simp only [Function.comp_apply]
    split <;> simp [hj]
  rw [Jcu.find, Jcu.update, List.find?_map, hsame]
  rfl

/-- A change of one context leaves that of another junction. -/
theorem Jcu.find_update_ne {u : Jcu} {f : Ctx → Ctx} (hj : ∀ y, (f y).junction = y.junction) (hne : i ≠ j)
    (h : u.find j = some x) : (u.update i f).find j = some x := by
  have hother : x.junction ≠ i := Jcu.junction_of_find h ▸ hne.symm
  rw [Jcu.find_update hj, h, Option.map_some, if_neg hother]

/-- Two changes of the context of one junction are one. -/
theorem Jcu.update_update {u : Jcu} {f g : Ctx → Ctx} (hj : ∀ y, (f y).junction = y.junction) :
    (u.update j f).update j g = u.update j fun y => g (f y) := by
  simp only [Jcu.update, List.map_map]
  congr 1
  refine List.map_congr_left fun y _ => ?_
  simp only [Function.comp_apply]
  by_cases h : y.junction = j
  · rw [if_pos h, if_pos h, if_pos ((hj y).trans h)]
  · rw [if_neg h, if_neg h, if_neg h]

/-! ### A context taken to another state (R127) -/

/-- The waiting requests as a context leaves its state: it withdraws its own where it was REQUESTING (R127). -/
def State.queueWithout (s : State) (x : Ctx) : List PointRequest :=
  if x.state = .requesting then s.llu.queue.filter fun q => q.junction != x.junction else s.llu.queue

/-- A context taken to a state other than REQUESTING: its timer stops, its request is withdrawn, and the signals are
judged anew (R127, R136, R137). -/
theorem State.ctxTo_eq (s : State) (x : Ctx) (f : Ctx → Ctx) : s.ctxTo x f = State.judgeJunctions { s with
    jcu := s.jcu.update x.junction fun y => { f y with retry := none }
    llu := { s.llu with queue := s.queueWithout x } } := by
  unfold State.ctxTo State.queueWithout
  dsimp only
  split <;> rfl

/-! ### What the telegrams of the Junction Unit change -/

/-- `t` is `s` but for the waiting requests, the contexts, the ROUTE lamp, the sounds and the monitor. -/
def State.JunctionsMoved (s t : State) : Prop :=
  ∃ q l lamp snu cmn, t = { s with
    llu := { s.llu with queue := q }, jcu := { s.jcu with contexts := l, routeLamp := lamp }, snu := snu, cmn := cmn }

theorem State.JunctionsMoved.refl (s : State) : s.JunctionsMoved s := ⟨_, _, _, _, _, rfl⟩

theorem State.JunctionsMoved.trans (h : s.JunctionsMoved t) (k : t.JunctionsMoved v) : s.JunctionsMoved v := by
  obtain ⟨_, _, _, _, _, rfl⟩ := h
  obtain ⟨_, _, _, _, _, rfl⟩ := k
  exact ⟨_, _, _, _, _, rfl⟩

theorem State.ctxTo_junctionsMoved (s : State) (x : Ctx) (f : Ctx → Ctx) : s.JunctionsMoved (s.ctxTo x f) := by
  rw [State.ctxTo_eq]
  exact ⟨_, _, _, _, _, rfl⟩

theorem State.log_junctionsMoved (s : State) (e : LogInfo) : s.JunctionsMoved (s.log e) := ⟨_, _, _, _, _, rfl⟩

end Sys2Proof.Machine
end

section
/-! SUPPORT. An accepted CLEAR ident (R132) and the caps of a PASSED context (R124, R135), with the statement about
them. -/

namespace Sys2Proof.Machine

variable {s t : State} {m : Telegram} {j i run locked : Nat} {st : PointStatus} {x : Ctx}

/-! ### The ident -/

/-- The context after its CLEAR ident: the readings and the train length as they stand (R132). -/
def State.passedCtx (s : State) (y : Ctx) : Ctx :=
  { y with
    state := .passed, odoCleared := some s.tdu.odometer, movingCleared := some s.tdu.movingTime
    trainLength := s.tdu.live.map fun p => p.trainLength.toNat }

theorem State.clearIdent_open (h : s.jcu.find j = some x) (hne : x.state ≠ .passed) :
    s.clearIdent j = s.ctxTo x s.passedCtx := by
  simp only [State.clearIdent, h, if_neg hne]
  rfl

theorem State.clearIdent_idle (h : s.jcu.find j = none ∨ ∃ x, s.jcu.find j = some x ∧ x.state = .passed) :
    s.clearIdent j = s := by
  rcases h with h | ⟨x, h, hx⟩
  · simp only [State.clearIdent, h]
  · simp only [State.clearIdent, h, if_pos hx]

/-! ### A PASSED context (R132) -/

theorem State.find_ctxTo {f : Ctx → Ctx} {y : Ctx} (hj : ∀ z, (f z).junction = z.junction) (hne : y.junction ≠ j)
    (h : s.jcu.find j = some x) : (s.ctxTo y f).jcu.find j = some x := by
  rw [State.ctxTo_eq]
  exact Jcu.find_update_ne hj hne h

theorem State.find_toMismatch {y : Ctx} {cause : Int} (hne : y.junction ≠ j) (h : s.jcu.find j = some x) :
    (s.toMismatch y cause).jcu.find j = some x := by
  unfold State.toMismatch
  split
  · exact h
  · exact State.find_ctxTo (fun _ => rfl) hne h

/-- A status update leaves the contexts of the other junctions, and a PASSED one of its own (R131, R132). -/
theorem State.find_statusUpdate (h : s.jcu.find j = some x) (hx : x.state = .passed) :
    (s.statusUpdate i st locked).jcu.find j = some x := by
  unfold State.statusUpdate
  split
  · exact h
  · next y hy =>
    split
    · exact h
    · next hnot =>
      have hij : i ≠ j := by
        rintro rfl
        obtain rfl : x = y := Option.some.inj (h.symm.trans hy)
        exact hnot hx
      have hne : y.junction ≠ j := Jcu.junction_of_find hy ▸ hij
      have hupdated : (s.onJcu fun u => u.update i fun z => { z with status := some st }).jcu.find j = some x :=
        Jcu.find_update_ne (fun _ => rfl) hij h
      dsimp only
      split
      · exact hupdated
      · exact hupdated
      · exact State.find_toMismatch hne hupdated
      · split
        · exact hupdated
        · split
          · exact State.find_ctxTo (fun _ => rfl) hne hupdated
          · exact State.find_toMismatch hne hupdated

theorem State.find_addCtx {y : Ctx} (h : s.jcu.find j = some x) : (s.addCtx y).jcu.find j = some x := by
  simp only [Jcu.find] at h
  simp [State.addCtx, State.judgeJunctions_eq, Jcu.find, List.find?_append, h]

theorem State.find_addRequesting {y : Ctx} {d : Direction} {src : DirSource} (hne : y.junction ≠ j)
    (h : s.jcu.find j = some x) : (s.addRequesting y d src).jcu.find j = some x := by
  rw [State.addRequesting, State.offerAttempt_eq]
  exact Jcu.find_update_ne (fun _ => rfl) hne (State.find_addCtx h)

/-- A context created leaves those of the other junctions. -/
theorem State.find_createCtx (hne : i ≠ j) (h : s.jcu.find j = some x) :
    (s.createCtx i).jcu.find j = some x := by
  unfold State.createCtx
  split
  · exact State.find_addCtx h
  · split
    · exact State.find_addRequesting hne h
    · split
      · exact State.find_addRequesting hne h
      · exact State.find_addCtx h

theorem State.find_requestIdent (h : s.jcu.find j = some x) (hx : x.state = .passed) :
    (s.requestIdent i st locked).jcu.find j = some x := by
  unfold State.requestIdent
  dsimp only
  split
  · exact State.find_statusUpdate h hx
  · next hnone =>
    split
    · unfold State.contextFull
      split <;> exact h
    · refine State.find_statusUpdate (State.find_createCtx ?_ h) hx
      rintro rfl
      exact hnone (by rw [h]; rfl)

theorem State.find_clearIdent (h : s.jcu.find j = some x) (hx : x.state = .passed) :
    (s.clearIdent i).jcu.find j = some x := by
  unfold State.clearIdent
  split
  · exact h
  · next y hy =>
    split
    · exact h
    · next hnot =>
      refine State.find_ctxTo (fun _ => rfl) ?_ h
      rw [Jcu.junction_of_find hy]
      rintro rfl
      obtain rfl : x = y := Option.some.inj (h.symm.trans hy)
      exact hnot hx

/-- A context matched by a reply and changed by it is not PASSED (R128). -/
theorem State.find_pointReply {r : ReplyResult} (h : s.jcu.find j = some x) (hx : x.state = .passed) :
    (s.pointReply i run r).jcu.find j = some x := by
  unfold State.pointReply
  split
  · exact h
  · next y hy =>
    have hfound : s.jcu.find i = some y := by
      unfold Jcu.matched at hy
      split at hy
      · exact hy
      · cases hy
    have hne (hnot : y.state ≠ .passed) : y.junction ≠ j := by
      rw [Jcu.junction_of_find hfound]
      rintro rfl
      obtain rfl : x = y := Option.some.inj (h.symm.trans hfound)
      exact hnot hx
    split
    · split
      · next hawaits =>
        exact State.find_ctxTo (fun _ => rfl) (hne fun hp => by simp [Ctx.awaits, hp] at hawaits) h
      · exact h
    · split
      · next hawaits =>
        exact State.find_ctxTo (fun _ => rfl) (hne fun hp => by simp [Ctx.awaits, hp] at hawaits) h
      · exact h

/-- No telegram changes a PASSED context (R132). -/
theorem State.find_acceptTelegram (h : s.jcu.find j = some x) (hx : x.state = .passed) :
    (s.acceptTelegram m).jcu.find j = some x := by
  unfold State.acceptTelegram
  split
  · exact h
  · exact State.find_requestIdent h hx
  · exact State.find_clearIdent h hx
  · exact h
  · exact State.find_pointReply h hx

theorem find_telegramReceived (h : s.jcu.find j = some x) (hx : x.state = .passed)
    (he : exec (.telegramReceived m) s = .next t) : t.jcu.find j = some x := by
  obtain rfl : _ = t := Host.Outcome.next.inj he
  split
  · unfold State.endTelegram
    split
    · exact State.find_acceptTelegram h hx
    · exact h
  · exact h

/-! ### The obligation -/

/-- Settles O44: the ident takes an open context to PASSED or finds none to take, every telegram acts on the context of
its own junction and on none in PASSED, and the cap of a PASSED context is read off its was-set flag. -/
theorem clearIdentPassesItsContext : Obligations.ClearIdentPassesItsContext := by
  refine ⟨?passes, ?idle, ?stays, ?cap⟩
  case passes =>
    intro s m j locked st x hr hlen hc hm hfind hne
    obtain rfl := Jcu.junction_of_find hfind
    refine ⟨s.telegramCounted.ctxTo x s.passedCtx, ?_, ?_⟩
    · rw [exec_telegramReceived_counted hr hlen hc, State.acceptTelegram_clear hm,
        State.clearIdent_open (s := s.telegramCounted) hfind hne]
      rfl
    · rw [State.ctxTo_eq]
      exact ⟨rfl, State.judgeJunctions_signals _, rfl, rfl⟩
  case idle =>
    intro s m j locked st hr hlen hc hm h
    rw [exec_telegramReceived_counted hr hlen hc, State.acceptTelegram_clear hm,
      State.clearIdent_idle (s := s.telegramCounted) h]
    rfl
  case stays => exact fun s t m x hx hfind _ he => find_telegramReceived hfind hx he
  case cap =>
    intro x hx
    refine ⟨fun hset degraded => ?_, fun hset => ⟨?_, ?_⟩⟩ <;> simp [Ctx.cap, Ctx.setCap, Ctx.routeCap, hx, hset]

end Sys2Proof.Machine
end

section
/-! SUPPORT. A status update of an open context (R131) and a POINT_REPLY matched to one (R128), case by case, with the
statements about them. -/

namespace Sys2Proof.Machine

variable {s : State} {j run locked : Nat} {st : PointStatus} {r : ReplyResult} {x : Ctx} {d : Direction}

/-! ### A status update -/

/-- The last point status of a junction's context, set (R131). -/
def State.statusSet (s : State) (j : Nat) (st : PointStatus) : State :=
  s.onJcu fun u => u.update j fun y => { y with status := some st }

/-- A status that moves no context: NONE and MOVING, a SET for another run, and a mismatch where the context is in
MISMATCH already (R131). -/
def State.Quiet (s : State) (x : Ctx) (st : PointStatus) (locked : Nat) : Prop :=
  st = .none ∨ st = .moving ∨ (∃ d, st = .set d ∧ s.jcu.ourRun ≠ some locked) ∨
    (x.state = .mismatch ∧ (st = .fault ∨ ∃ d, st = .set d ∧ x.direction ≠ some d))

/-- A status that makes a context MISMATCH, with its cause: FAULT, or SET for our run of another direction or with
none of its own (R131). -/
def State.Mismatches (s : State) (x : Ctx) (st : PointStatus) (locked : Nat) (cause : Int) : Prop :=
  (st = .fault ∧ cause = 2) ∨
    (∃ d, st = .set d ∧ s.jcu.ourRun = some locked ∧ x.direction ≠ some d ∧ cause = 1)

theorem State.statusUpdate_passed (h : s.jcu.find j = some x) (hx : x.state = .passed) :
    s.statusUpdate j st locked = s := by
  simp only [State.statusUpdate, h, if_pos hx]

theorem State.toMismatch_again {cause : Int} (hx : x.state = .mismatch) : s.toMismatch x cause = s := if_pos hx

theorem State.statusUpdate_quiet (h : s.jcu.find j = some x) (hx : x.state ≠ .passed) (hq : s.Quiet x st locked) :
    s.statusUpdate j st locked = s.statusSet j st := by
  simp only [State.statusUpdate, h, if_neg hx]
  rcases hq with rfl | rfl | ⟨d, rfl, hrun⟩ | ⟨hmis, rfl | ⟨d, rfl, hd⟩⟩
  · rfl
  · rfl
  · exact if_pos hrun
  · exact State.toMismatch_again hmis
  · dsimp only
    rw [if_neg hd, State.toMismatch_again hmis]
    exact ite_self _

theorem State.statusUpdate_set (h : s.jcu.find j = some x) (hx : x.state ≠ .passed)
    (hrun : s.jcu.ourRun = some locked) (hd : x.direction = some d) :
    s.statusUpdate j (.set d) locked =
      (s.statusSet j (.set d)).ctxTo x fun y => { y with state := .set, wasSet := true } := by
  simp only [State.statusUpdate, h, if_neg hx]
  rw [if_neg (not_not.2 hrun), if_pos hd]
  rfl

theorem State.statusUpdate_mismatch {cause : Int} (h : s.jcu.find j = some x) (hx : x.state ≠ .passed)
    (hmis : x.state ≠ .mismatch) (hm : s.Mismatches x st locked cause) :
    s.statusUpdate j st locked =
      ((s.statusSet j st).ctxTo x fun y => { y with state := .mismatch }).log
        { kind := .junctionMismatch, block := .jcu, junction := some x.junction, value := some cause } := by
  have hentered : (s.statusSet j st).toMismatch x cause =
      ((s.statusSet j st).ctxTo x fun y => { y with state := .mismatch }).log
        { kind := .junctionMismatch, block := .jcu, junction := some x.junction, value := some cause } := if_neg hmis
  simp only [State.statusUpdate, h, if_neg hx]
  rcases hm with ⟨rfl, rfl⟩ | ⟨d, rfl, hrun, hd, rfl⟩
  · exact hentered
  · dsimp only
    rw [if_neg (not_not.2 hrun), if_neg hd]
    exact hentered

/-- An update changes its context in one of these ways (R131). -/
theorem State.statusUpdate_junctionsMoved (s : State) (j : Nat) (st : PointStatus) (locked : Nat) :
    s.JunctionsMoved (s.statusUpdate j st locked) := by
  have hset : s.JunctionsMoved (s.statusSet j st) := ⟨_, _, _, _, _, rfl⟩
  have hmismatch (x : Ctx) (cause : Int) : s.JunctionsMoved ((s.statusSet j st).toMismatch x cause) := by
    unfold State.toMismatch
    split
    · exact hset
    · exact (hset.trans (State.ctxTo_junctionsMoved _ _ _)).trans (State.log_junctionsMoved _ _)
  unfold State.statusUpdate
  split
  · exact .refl s
  · split
    · exact .refl s
    · dsimp only
      split
      · exact hset
      · exact hset
      · exact hmismatch _ _
      · split
        · exact hset
        · split
          · exact hset.trans (State.ctxTo_junctionsMoved _ _ _)
          · exact hmismatch _ _

/-- The contexts once the status of one is set and its state changed. -/
theorem State.contexts_statusSet_ctxTo {f : Ctx → Ctx} : ((s.statusSet x.junction st).ctxTo x f).jcu.contexts =
    s.jcu.contexts.map fun y =>
      if y.junction = x.junction then { f { y with status := some st } with retry := none } else y := by
  rw [State.ctxTo_eq]
  exact congrArg Jcu.contexts
    (Jcu.update_update (u := s.jcu) (f := fun y => { y with status := some st }) fun _ => rfl)

/-- The state behind the record of a REQUEST ident (R122). -/
def State.identRecorded (s : State) (j : Nat) : State :=
  s.onJcu fun u => { u with lastIdent := some (j, s.cmn.partTime) }

theorem State.requestIdent_open (h : s.jcu.find j = some x) :
    s.requestIdent j st locked = (s.identRecorded j).statusUpdate j st locked := by
  simp only [State.requestIdent, h]
  rfl

/-- Settles O43: the update of the open context by the status and the state it meets. -/
theorem identsUpdateContexts : Obligations.IdentsUpdateContexts := by
  intro s m j locked st x hr hlen hc hm hfind
  obtain rfl := Jcu.junction_of_find hfind
  have hexec : exec (.telegramReceived m) s =
      .next ((s.telegramCounted.identRecorded x.junction).statusUpdate x.junction st locked) := by
    rw [exec_telegramReceived_counted hr hlen hc, State.acceptTelegram_request hm,
      State.requestIdent_open (s := s.telegramCounted) hfind]
  have hfind' : (s.telegramCounted.identRecorded x.junction).jcu.find x.junction = some x := hfind
  obtain ⟨q, l, lamp, snu, cmn, hmoved⟩ :=
    (s.telegramCounted.identRecorded x.junction).statusUpdate_junctionsMoved x.junction st locked
  refine ⟨_, hexec, by rw [hmoved]; rfl, by rw [hmoved]; rfl, by rw [hmoved]; rfl, fun hx => ?passed, fun hx =>
    ⟨fun d hst hrun hd => ?set, fun cause hcause hmis => ?mismatch, fun hquiet => ?quiet⟩⟩
  case passed =>
    rw [State.statusUpdate_passed hfind' hx]
    exact ⟨rfl, rfl, rfl, rfl, rfl⟩
  case set =>
    subst hst
    rw [State.statusUpdate_set hfind' hx hrun hd]
    refine ⟨?_, ?_, ?_, State.contexts_statusSet_ctxTo⟩ <;> rw [State.ctxTo_eq]
    · rfl
    · exact State.judgeJunctions_signals _
    · rfl
  case mismatch =>
    rw [State.statusUpdate_mismatch hfind' hx hmis hcause]
    refine ⟨?_, ?_, ?_, State.contexts_statusSet_ctxTo⟩ <;> rw [State.ctxTo_eq]
    · rfl
    · exact State.judgeJunctions_signals _
    · rfl
  case quiet =>
    rw [State.statusUpdate_quiet hfind' hx hquiet]
    exact ⟨rfl, rfl, rfl, rfl, rfl⟩

/-! ### A reply -/

theorem Ctx.awaits_iff (x : Ctx) : x.awaits = true ↔ x.state = .requesting ∨ x.state = .unanswered :=
  decide_eq_true_iff

theorem Jcu.matched_some {u : Jcu} (hrun : u.ourRun = some run) : u.matched j run = u.find j := if_pos hrun

theorem Jcu.matched_none {u : Jcu} (h : u.ourRun ≠ some run ∨ u.find j = none) : u.matched j run = none := by
  unfold Jcu.matched
  split
  · next hrun => exact h.resolve_left (not_not.2 hrun)
  · rfl

theorem State.pointReply_unmatched (h : s.jcu.ourRun ≠ some run ∨ s.jcu.find j = none) :
    s.pointReply j run r = s.onJcu fun u => { u with unmatched := bump u.unmatched } := by
  simp only [State.pointReply, Jcu.matched_none h]

theorem State.pointReply_accepted (hrun : s.jcu.ourRun = some run) (h : s.jcu.find j = some x) :
    s.pointReply j run .accepted = if x.awaits then s.ctxTo x fun y => { y with state := .accepted } else s := by
  simp only [State.pointReply, Jcu.matched_some hrun, h]

theorem State.pointReply_refused {n : Nat} (hrun : s.jcu.ourRun = some run) (h : s.jcu.find j = some x) :
    s.pointReply j run (.refused n) = if x.awaits ∨ x.state = .accepted then
      (s.ctxTo x fun y => { y with state := .refused }).log
        { kind := .junctionRefused, block := .jcu, junction := some j, value := some (n : Int) } else s := by
  simp only [State.pointReply, Jcu.matched_some hrun, h]

/-- A reply changes a context that does not wait for it in no way (R128). -/
theorem State.pointReply_unawaited (hrun : s.jcu.ourRun = some run) (h : s.jcu.find j = some x)
    (hidle : x.awaits = false) (hrefused : x.state = .accepted → r = .accepted) : s.pointReply j run r = s := by
  cases r with
  | accepted =>
    rw [State.pointReply_accepted hrun h]
    exact if_neg (by simp [hidle])
  | refused n =>
    rw [State.pointReply_refused hrun h]
    exact if_neg fun k => k.elim (by simp [hidle]) fun ha => nomatch hrefused ha

theorem State.pointReply_junctionsMoved (hrun : s.jcu.ourRun = some run) (h : s.jcu.find j = some x) :
    s.JunctionsMoved (s.pointReply j run r) := by
  cases r with
  | accepted =>
    rw [State.pointReply_accepted hrun h]
    split
    · exact State.ctxTo_junctionsMoved _ _ _
    · exact .refl s
  | refused n =>
    rw [State.pointReply_refused hrun h]
    split
    · exact (State.ctxTo_junctionsMoved _ _ _).trans (State.log_junctionsMoved _ _)
    · exact .refl s

/-- Settles O45: the reply by the context it is matched to and the state that this one is in. -/
theorem repliesMoveTheirContext : Obligations.RepliesMoveTheirContext := by
  refine ⟨fun s m j run r x hr hlen hc hm hrun hfind => ?_, fun s m j run r hr hlen hc hm h => ?_⟩
  · obtain rfl := Jcu.junction_of_find hfind
    have hexec : exec (.telegramReceived m) s = .next (s.telegramCounted.pointReply x.junction run r) := by
      rw [exec_telegramReceived_counted hr hlen hc, State.acceptTelegram_reply hm]
    have hrun' : s.telegramCounted.jcu.ourRun = some run := hrun
    have hfind' : s.telegramCounted.jcu.find x.junction = some x := hfind
    obtain ⟨q, l, lamp, snu, cmn, hmoved⟩ := State.pointReply_junctionsMoved (r := r) hrun' hfind'
    refine ⟨_, hexec, by rw [hmoved]; rfl, by rw [hmoved]; rfl, by rw [hmoved]; rfl, fun hres hx => ?accepted,
      fun n hres hx => ?refused, fun hx => ?idle⟩
    case accepted =>
      subst hres
      rw [State.pointReply_accepted hrun' hfind', if_pos (x.awaits_iff.2 hx), State.ctxTo_eq]
      exact ⟨rfl, State.judgeJunctions_signals _, rfl, rfl⟩
    case refused =>
      subst hres
      have hmoves : x.awaits = true ∨ x.state = .accepted := by rwa [x.awaits_iff, or_assoc]
      rw [State.pointReply_refused hrun' hfind', if_pos hmoves, State.ctxTo_eq]
      exact ⟨rfl, State.judgeJunctions_signals _, rfl, rfl⟩
    case idle =>
      have hidle : x.awaits = false := by
        rw [Bool.eq_false_iff, ne_eq, x.awaits_iff]
        rcases hx with h | h | h | h | h | ⟨-, h⟩ <;> rw [h] <;> decide
      have haccepted (ha : x.state = .accepted) : r = .accepted := by
        rw [ha] at hx
        simpa using hx
      rw [State.pointReply_unawaited hrun' hfind' hidle haccepted]
      exact ⟨rfl, rfl, rfl, rfl⟩
  · rw [exec_telegramReceived_counted hr hlen hc, State.acceptTelegram_reply hm,
      State.pointReply_unmatched (s := s.telegramCounted) h]
    rfl

end Sys2Proof.Machine
end

section
/-! SUPPORT. The creation of a context by the rows of R126: where it stands, what it copies, the request it offers, and
the signals that stand with it (R123, R127, R136, R137). -/

namespace Sys2Proof.Machine

variable {s t v : State} {j : Nat} {x : Ctx} {r : LiveRoute} {d : Direction}

/-! ### The signals judged again -/

/-- Signals set once more as they stand stay as they are (R154). -/
theorem Snu.signals_set_again (u : Snu) (on claim : Bool) :
    (((u.setWarning on).setAlertJunction claim).setWarning on).setAlertJunction claim =
      (u.setWarning on).setAlertJunction claim := by
  obtain ⟨hwarning, halert⟩ := u.signals_set on claim
  have houter := Snu.Settled.arbitrate_interior (u := { u.setWarning on with alertJunction := claim })
    (Snu.settled_arbitrate { u with warning := on } .exterior)
  rw [Snu.setWarning_same hwarning houter, Snu.setAlertJunction_same halert (Snu.settled_arbitrate _ _)]

/-- A judgement that finds what the one before it found changes no sound (R136, R137). -/
theorem State.judgeJunctions_again (hsnu : v.snu = t.judgeJunctions.snu) (hw : v.jcu.warning = t.jcu.warning)
    (ha : v.jcu.alert = t.jcu.alert) : v.judgeJunctions = State.judgeJunctions { v with snu := t.snu } := by
  rw [State.judgeJunctions_eq, State.judgeJunctions_eq, hsnu, State.judgeJunctions_eq, hw, ha,
    Snu.signals_set_again]

/-- The signals as judged stand while the marks of the contexts do (R136, R137). -/
theorem State.Signals.of_marks {u : Snu} (h : t.Signals u) (hm : t.jcu.SameMarks v.jcu) (hs : v.snu = t.snu) :
    v.Signals u := by
  obtain ⟨on, claim, hon, hclaim, hlamp, hsnu⟩ := h
  exact ⟨on, claim, hon.trans hm.warns.symm, hclaim.trans hm.alerts.symm, hm.lamp.trans hlamp, hs.trans hsnu⟩

/-! ### A context at the tail (R123) -/

/-- The context at the tail is the one found, where no other has its junction. -/
theorem find_append_new {l : List Ctx} (hnew : ∀ y ∈ l, y.junction ≠ x.junction) :
    (l ++ [x]).find? (fun y => y.junction == x.junction) = some x := by
  rw [List.find?_append, List.find?_eq_none.2 fun y hy => by simpa using hnew y hy]
  simp

/-- The context at the tail changed, where no other has its junction. -/
theorem map_append_new {l : List Ctx} {f : Ctx → Ctx} (hnew : ∀ y ∈ l, y.junction ≠ x.junction) :
    ((l ++ [x]).map fun y => if y.junction = x.junction then f y else y) = l ++ [f x] := by
  rw [List.map_append, List.map_congr_left fun y hy => if_neg (hnew y hy)]
  simp

/-- A context that waits for its row or for an answer: it warns and claims nothing (R136, R137). -/
def Ctx.Fresh (x : Ctx) : Prop := x.state = .noRoute ∨ x.state = .requesting

theorem Ctx.Fresh.warns (h : x.Fresh) : x.warns = true := by
  rcases h with h | h <;> simp [Ctx.warns, h]

theorem Ctx.Fresh.alerts (h : x.Fresh) : x.alerts = false := by
  rcases h with h | h <;> simp [Ctx.alerts, h]

theorem Jcu.warning_append {u : Jcu} (h : x.Fresh) : Jcu.warning { u with contexts := u.contexts ++ [x] } = true := by
  simp [Jcu.warning, h.warns]

theorem Jcu.alert_append {u : Jcu} (h : x.Fresh) :
    Jcu.alert { u with contexts := u.contexts ++ [x] } = u.alert := by
  simp [Jcu.alert, h.alerts]

/-- The state with a fresh context at the tail: the lamp lit, the WARNING source active, and the claim of CAB_ALERT as
the others have it (R136, R137). -/
def State.contextAdded (s : State) (x : Ctx) : State := { s with
  jcu := { s.jcu with contexts := s.jcu.contexts ++ [x], routeLamp := true }
  snu := (s.snu.setWarning true).setAlertJunction s.jcu.alert }

theorem State.addCtx_eq (h : x.Fresh) : s.addCtx x = s.contextAdded x := by
  unfold State.addCtx
  rw [State.judgeJunctions_eq]
  simp only [State.onJcu_jcu, Jcu.warning_append h, Jcu.alert_append h]
  rfl

theorem State.contextAdded_signals (h : x.Fresh) : (s.contextAdded x).Signals s.snu := by
  rw [← State.addCtx_eq h]
  exact State.judgeJunctions_signals _

/-- A context as its first attempt is offered (R127). -/
def Ctx.asking (x : Ctx) (d : Direction) (src : DirSource) : Ctx :=
  { x with direction := some d, source := some src, state := .requesting, attempt := 1, retry := some 200 }

/-- A context with a direction is created REQUESTING with attempt 1 offered; the offer changes no signal (R126, R127). -/
theorem State.addRequesting_eq (hnew : ∀ y ∈ s.jcu.contexts, y.junction ≠ x.junction) (src : DirSource) :
    s.addRequesting x d src = { s.contextAdded (x.asking d src) with
      llu := { s.llu with queue := s.offered { junction := x.junction, direction := d, attempt := 1 } } } := by
  generalize hy : ({ x with direction := some d, source := some src, state := .requesting } : Ctx) = y
  have hfresh : y.Fresh := .inr (by rw [← hy])
  have hasking : (x.asking d src).Fresh := .inr rfl
  have htail : y.junction = x.junction := by rw [← hy]
  have hadded : s.addRequesting x d src = (s.contextAdded y).offerAttempt x.junction d 1 := by
    rw [State.addRequesting, hy, State.addCtx_eq hfresh]
  have hcontexts : ((s.contextAdded y).jcu.update x.junction fun z =>
      { z with state := .requesting, attempt := 1, retry := some 200 }) =
        (s.contextAdded (x.asking d src)).jcu := by
    rw [Jcu.update, State.contextAdded, ← htail, map_append_new (by rwa [htail]), ← hy]
    rfl
  rw [hadded, State.offerAttempt_eq, hcontexts, State.judgeJunctions_again (t := s.onJcu fun u =>
    { u with contexts := u.contexts ++ [y] })]
  · rw [← State.addCtx_eq hasking]
    rfl
  · rw [← State.addCtx_eq hfresh]
    rfl
  · exact (Jcu.warning_append (u := { s.jcu with routeLamp := true }) hasking).trans (Jcu.warning_append hfresh).symm
  · exact (Jcu.alert_append (u := { s.jcu with routeLamp := true }) hasking).trans (Jcu.alert_append hfresh).symm

end Sys2Proof.Machine
end

section
/-! SUPPORT. A REQUEST ident for a junction with no context (R125, R126), with the statement about it. -/

namespace Sys2Proof.Machine

variable {s t : State} {m : Telegram} {j locked : Nat} {x : Ctx} {r : LiveRoute} {d : Direction} {st : PointStatus}
  {e : Option RouteEntry}

/-! ### The rows of R126 -/

/-- The direction of a context created under the live table: the preselection, or that of its entry (R126). -/
def State.directionFor (s : State) (e : Option RouteEntry) : Option Direction :=
  if s.jcu.preselection.isSome then s.jcu.preselection else e.map fun x => x.direction

/-- The context created under the live table, by its entry there and the direction it takes (R126). -/
def State.tabledCtx (s : State) (r : LiveRoute) (j : Nat) (e : Option RouteEntry) (d : Option Direction) : Ctx :=
  { junction := j, tabled := true, direction := d
    source := if s.jcu.preselection.isSome then some .manual else e.map fun _ => .table
    state := if d.isSome then .requesting else .noRoute
    attempt := if d.isSome then 1 else 0
    status := none, requestSent := none, wasSet := false
    straightCap := (e.bind fun x => x.straightCap).getD r.header.straightCap
    divergingCap := (e.bind fun x => x.divergingCap).getD r.header.divergingCap
    unconfirmedCap := r.header.unconfirmed
    junctionLength := (e.bind fun x => x.junctionLength).getD r.header.junctionLength
    odoCreated := s.tdu.odometer, movingCreated := s.tdu.movingTime
    odoCleared := none, movingCleared := none, trainLength := none
    retry := if d.isSome then some 200 else none }

theorem State.tabledCtx_fresh (s : State) (r : LiveRoute) (j : Nat) (e : Option RouteEntry) (d : Option Direction) :
    (s.tabledCtx r j e d).Fresh := by
  cases d
  · exact .inl rfl
  · exact .inr rfl

/-- The waiting requests once a context is created: one with a direction has offered its first attempt (R127). -/
def State.queueCreated (s : State) (j : Nat) : Option Direction → List PointRequest
  | some d => s.offered { junction := j, direction := d, attempt := 1 }
  | none => s.llu.queue

/-- The state with the preselection taken (R126). -/
def State.unselected (s : State) : State := s.onJcu fun u => { u with preselection := none }

theorem State.unselected_of_none (hp : s.jcu.preselection = none) : s.unselected = s := by
  have hkept : ({ s.jcu with preselection := none } : Jcu) = s.jcu := by rw [← hp]
  exact congrArg (fun u => { s with jcu := u }) hkept

theorem State.createCtx_preselected (hlive : s.jcu.live = some r) (hp : s.jcu.preselection = some d) :
    s.createCtx j = s.unselected.addRequesting (s.copiedCtx r j) d .manual := by
  simp only [State.createCtx, hlive, hp]
  rfl

theorem State.createCtx_entry {y : RouteEntry} (hlive : s.jcu.live = some r) (hp : s.jcu.preselection = none)
    (he : r.entryFor j = some y) : s.createCtx j = s.addRequesting (s.copiedCtx r j) y.direction .table := by
  simp only [State.createCtx, hlive, hp, he]

theorem State.createCtx_noEntry (hlive : s.jcu.live = some r) (hp : s.jcu.preselection = none)
    (he : r.entryFor j = none) : s.createCtx j = s.addCtx (s.copiedCtx r j) := by
  simp only [State.createCtx, hlive, hp, he]

/-- The state that the new context joins: the preselection taken, and the request for its direction offered. -/
def State.asked (s : State) (j : Nat) (d : Option Direction) : State :=
  { s.unselected with llu := { s.llu with queue := s.queueCreated j d } }

/-- A context created under the live table, by the preselection, by its entry, or with neither (R126). -/
theorem State.createCtx_live {d : Option Direction} (hlive : s.jcu.live = some r)
    (hnew : ∀ y ∈ s.jcu.contexts, y.junction ≠ j) (he : r.entryFor j = e) (hd : s.directionFor e = d) :
    s.createCtx j = (s.asked j d).contextAdded (s.tabledCtx r j e d) := by
  subst hd
  cases hp : s.jcu.preselection with
  | some d =>
    have hdirection : s.directionFor e = some d := by simp [State.directionFor, hp]
    have hcreated : s.tabledCtx r j e (some d) = (s.copiedCtx r j).asking d .manual := by
      simp only [State.tabledCtx, State.copiedCtx, he, hp]
      rfl
    rw [State.createCtx_preselected hlive hp, State.addRequesting_eq (by exact hnew), hdirection, hcreated]
    rfl
  | none =>
    rw [State.asked, State.unselected_of_none hp]
    cases e with
    | some y =>
      have hdirection : s.directionFor (some y) = some y.direction := by simp [State.directionFor, hp]
      have hcreated : s.tabledCtx r j (some y) (some y.direction) = (s.copiedCtx r j).asking y.direction .table := by
        simp only [State.tabledCtx, State.copiedCtx, he, hp]
        rfl
      rw [State.createCtx_entry hlive hp he, State.addRequesting_eq (by exact hnew), hdirection, hcreated]
      rfl
    | none =>
      have hdirection : s.directionFor none = none := by simp [State.directionFor, hp]
      have hcreated : s.tabledCtx r j none none = s.copiedCtx r j := by
        simp only [State.tabledCtx, State.copiedCtx, he, hp]
        rfl
      rw [State.createCtx_noEntry hlive hp he, State.addCtx_eq (.inl rfl), hdirection, hcreated]
      rfl

theorem State.queueCreated_deaf (h : s.listening = false) (d : Option Direction) :
    s.queueCreated j d = s.llu.queue := by
  cases d with
  | none => rfl
  | some d => exact State.offered_deaf h

/-- The context created with no table live, and the entry that says so (R126). -/
def State.missingAdded (s : State) (j : Nat) : State :=
  (s.contextAdded (s.freshCtx false j 0 0 100 30)).log { kind := .routeTableMissing, block := .jcu, junction := some j }

/-- A context created with no table live has no direction (R126). -/
theorem State.createCtx_missing (hlive : s.jcu.live = none) : s.createCtx j = s.missingAdded j := by
  simp only [State.createCtx, hlive]
  rw [State.addCtx_eq (.inl rfl)]
  rfl

/-! ### The first status update -/

theorem State.requestIdent_new (hnew : ∀ y ∈ s.jcu.contexts, y.junction ≠ j) (hroom : s.jcu.contexts.length < 8) :
    s.requestIdent j st locked = ((s.identRecorded j).createCtx j).statusUpdate j st locked := by
  have hnone : s.jcu.find j = none := Jcu.find_none_iff.2 hnew
  simp only [State.requestIdent, hnone]
  exact if_neg (Nat.not_le.2 hroom)

theorem State.requestIdent_full (hnew : ∀ y ∈ s.jcu.contexts, y.junction ≠ j) (hfull : 8 ≤ s.jcu.contexts.length) :
    s.requestIdent j st locked = (s.identRecorded j).contextFull j := by
  have hnone : s.jcu.find j = none := Jcu.find_none_iff.2 hnew
  simp only [State.requestIdent, hnone]
  exact if_pos hfull

theorem State.contextAdded_find (hnew : ∀ y ∈ s.jcu.contexts, y.junction ≠ x.junction) :
    (s.contextAdded x).jcu.find x.junction = some x := find_append_new hnew

/-- The contexts once the status of the new one is set. -/
theorem State.contextAdded_statusSet (hnew : ∀ y ∈ s.jcu.contexts, y.junction ≠ x.junction) :
    (s.contextAdded x).statusSet x.junction st = s.contextAdded { x with status := some st } := by
  have hcontexts : ((s.contextAdded x).jcu.update x.junction fun y => { y with status := some st }) =
      (s.contextAdded { x with status := some st }).jcu := by
    rw [Jcu.update, State.contextAdded, map_append_new hnew]
    rfl
  exact congrArg (fun u => { s.contextAdded x with jcu := u }) hcontexts

/-- The new context changed by its first status update (R126, R131). -/
theorem State.contextAdded_ctxTo {f : Ctx → Ctx} (hnew : ∀ y ∈ s.jcu.contexts, y.junction ≠ x.junction) :
    (((s.contextAdded x).statusSet x.junction st).ctxTo x f).jcu.contexts =
      s.jcu.contexts ++ [{ f { x with status := some st } with retry := none }] := by
  rw [State.contexts_statusSet_ctxTo]
  exact map_append_new hnew

/-- An offer withdrawn leaves the requests of the other junctions alone (R114). -/
theorem filter_queueOffer (l : List PointRequest) (q : PointRequest) :
    ((queueOffer l q).filter fun y => y.junction != q.junction) = l.filter fun y => y.junction != q.junction := by
  by_cases h : ∃ y ∈ l, y.junction = q.junction
  · have hkept : (fun y : PointRequest => y.junction != q.junction) ∘
        (fun y => if y.junction = q.junction then q else y) = fun y => y.junction != q.junction := by
      funext y
      simp only [Function.comp_apply]
      split
      · next hy => rw [hy]
      · rfl
    rw [queueOffer_replaces h, List.filter_map, hkept]
    refine (List.map_congr_left fun y hy => if_neg ?_).trans (List.map_id _)
    simpa using (List.mem_filter.1 hy).2
  · rw [queueOffer_joins (by simpa using h)]
    split
    · simp
    · rfl

theorem State.filter_offered (s : State) (q : PointRequest) :
    ((s.offered q).filter fun y => y.junction != q.junction) =
      s.llu.queue.filter fun y => y.junction != q.junction := by
  unfold State.offered
  split
  · exact filter_queueOffer _ _
  · rfl

/-- The new context leaves REQUESTING: the request just offered is withdrawn (R127). -/
theorem State.queueWithout_tabledCtx (s : State) (r : LiveRoute) (j : Nat) (e : Option RouteEntry)
    (d : Option Direction) : (s.asked j d).queueWithout (s.tabledCtx r j e d) =
      if d.isSome then s.llu.queue.filter fun q => q.junction != j else s.llu.queue := by
  cases d with
  | none => rfl
  | some d => exact s.filter_offered { junction := j, direction := d, attempt := 1 }

/-- What a context taken to another state leaves of the rest, and that the signals follow. -/
theorem State.ctxTo_leaves (s : State) (x : Ctx) (f : Ctx → Ctx) :
    s.ctxTo x f = { s with llu := (s.ctxTo x f).llu, jcu := (s.ctxTo x f).jcu, snu := (s.ctxTo x f).snu } ∧
      (s.ctxTo x f).Signals s.snu ∧ (s.ctxTo x f).llu = { s.llu with queue := s.queueWithout x } ∧
      (s.ctxTo x f).jcu = { s.jcu with
        contexts := (s.ctxTo x f).jcu.contexts, routeLamp := (s.ctxTo x f).jcu.routeLamp } := by
  rw [State.ctxTo_eq]
  exact ⟨rfl, State.judgeJunctions_signals _, rfl, rfl⟩

/-- A first update that moves the new context (R126, R127, R131, R136, R137). -/
theorem State.firstUpdate_moves {d : Option Direction} (f : Ctx → Ctx) (hnew : ∀ y ∈ s.jcu.contexts, y.junction ≠ j)
    (ht : t = (((s.asked j d).contextAdded (s.tabledCtx r j e d)).statusSet j st).ctxTo (s.tabledCtx r j e d) f) :
    t = { s with llu := t.llu, jcu := t.jcu, snu := t.snu } ∧
      t.Signals ((s.snu.setWarning true).setAlertJunction s.jcu.alert) ∧
      t.llu = { s.llu with
        queue := if d.isSome then s.llu.queue.filter fun q => q.junction != j else s.llu.queue } ∧
      t.jcu = { s.jcu with
        preselection := none, routeLamp := t.jcu.routeLamp
        contexts := s.jcu.contexts ++ [{ f { s.tabledCtx r j e d with status := some st } with retry := none }] } := by
  have hcontexts : t.jcu.contexts =
      s.jcu.contexts ++ [{ f { s.tabledCtx r j e d with status := some st } with retry := none }] := by
    rw [ht]
    exact State.contextAdded_ctxTo (s := s.asked j d) (x := s.tabledCtx r j e d) hnew
  rw [← hcontexts, ← s.queueWithout_tabledCtx r j e d]
  obtain ⟨hrest, hsignals, hllu, hjcu⟩ := State.ctxTo_leaves
    (((s.asked j d).contextAdded (s.tabledCtx r j e d)).statusSet j st) (s.tabledCtx r j e d) f
  rw [← ht] at hrest hsignals hllu hjcu
  exact ⟨hrest, hsignals, hllu, hjcu⟩

theorem State.missingAdded_find (hnew : ∀ y ∈ s.jcu.contexts, y.junction ≠ j) :
    (s.missingAdded j).jcu.find j = some (s.freshCtx false j 0 0 100 30) :=
  State.contextAdded_find (x := s.freshCtx false j 0 0 100 30) hnew

/-- With no table live no SET is for our run: any status but FAULT leaves the new context NO_ROUTE (R122, R126). -/
theorem State.missingAdded_waits (hlive : s.jcu.live = none) (hnew : ∀ y ∈ s.jcu.contexts, y.junction ≠ j)
    (hst : st ≠ .fault) : (s.missingAdded j).statusUpdate j st locked =
      (s.contextAdded { s.freshCtx false j 0 0 100 30 with status := some st }).log
        { kind := .routeTableMissing, block := .jcu, junction := some j } := by
  have hrun : (s.missingAdded j).jcu.ourRun = none := congrArg (Option.map fun y : LiveRoute => y.header.run) hlive
  have hquiet : (s.missingAdded j).Quiet (s.freshCtx false j 0 0 100 30) st locked := by
    cases st with
    | none => exact .inl rfl
    | moving => exact .inr (.inl rfl)
    | set y => exact .inr (.inr (.inl ⟨y, rfl, by rw [hrun]; exact nofun⟩))
    | fault => exact absurd rfl hst
  rw [State.statusUpdate_quiet (State.missingAdded_find hnew) nofun hquiet]
  exact congrArg (State.log · _) (State.contextAdded_statusSet (x := s.freshCtx false j 0 0 100 30) hnew)

/-- FAULT makes the new context MISMATCH, with its entry (R126, R131, R136, R137). -/
theorem State.missingAdded_fault (hnew : ∀ y ∈ s.jcu.contexts, y.junction ≠ j) :
    ∃ t : State, (s.missingAdded j).statusUpdate j .fault locked =
        t.log { kind := .junctionMismatch, block := .jcu, junction := some j, value := some 2 } ∧
      t = { s.missingAdded j with llu := t.llu, jcu := t.jcu, snu := t.snu } ∧
      t.Signals ((s.snu.setWarning true).setAlertJunction s.jcu.alert) ∧ t.llu = s.llu ∧
      t.jcu = { s.jcu with
        routeLamp := t.jcu.routeLamp
        contexts := s.jcu.contexts ++
          [{ s.freshCtx false j 0 0 100 30 with status := some .fault, state := .mismatch }] } := by
  have hcontexts := (State.contexts_statusSet_ctxTo (s := s.missingAdded j) (x := s.freshCtx false j 0 0 100 30)
    (st := .fault) (f := fun y => { y with state := .mismatch })).trans (map_append_new hnew)
  have hupdated := State.statusUpdate_mismatch (locked := locked) (State.missingAdded_find hnew) nofun nofun
    (.inl ⟨rfl, rfl⟩)
  have hleaves := State.ctxTo_leaves ((s.missingAdded j).statusSet (s.freshCtx false j 0 0 100 30).junction .fault)
    (s.freshCtx false j 0 0 100 30) fun y => { y with state := .mismatch }
  obtain ⟨hrest, hsignals, hllu, hjcu⟩ := hleaves
  rw [hcontexts] at hjcu
  exact ⟨_, hupdated, hrest, hsignals, hllu, hjcu⟩

/-! ### A full list (R125) -/

theorem State.contextFull_first (h : s.jcu.overflow = false) : s.contextFull j =
    (State.judgeJunctions (s.onJcu fun u => { u with overflow := true })).log
      { kind := .contextFull, block := .jcu, junction := some j } :=
  if_neg (by simp [h])

theorem State.contextFull_again (h : s.jcu.overflow = true) : s.contextFull j = s := if_pos h

/-- The overflow flag raises the warning condition: the lamp is lit (R136). -/
theorem State.contextFull_jcu (h : s.jcu.overflow = false) :
    (s.contextFull j).jcu = { s.jcu with overflow := true, routeLamp := true } := by
  have hwarning : Jcu.warning { s.jcu with overflow := true } = true := by simp [Jcu.warning]
  rw [State.contextFull_first h]
  exact congrArg (fun on => ({ s.jcu with overflow := true, routeLamp := on } : Jcu)) hwarning

/-! ### The obligation -/

/-- The state behind a good ident, counted and recorded as the last one (R110, R122). -/
def State.identTaken (s : State) (j : Nat) : State := s.telegramCounted.identRecorded j

theorem exec_identNew (hr : s.llu.rx = .telegram) (hlen : m.fields.length ≤ 16) (hc : m.check = telegramCheck m)
    (hm : loopMessage m = some (.ident .request j st locked)) (hnew : ∀ y ∈ s.jcu.contexts, y.junction ≠ j)
    (hroom : s.jcu.contexts.length < 8) :
    exec (.telegramReceived m) s = .next (((s.identTaken j).createCtx j).statusUpdate j st locked) := by
  rw [exec_telegramReceived_counted hr hlen hc, State.acceptTelegram_request hm,
    State.requestIdent_new (s := s.telegramCounted) hnew hroom]
  rfl

theorem exec_identFull (hr : s.llu.rx = .telegram) (hlen : m.fields.length ≤ 16) (hc : m.check = telegramCheck m)
    (hm : loopMessage m = some (.ident .request j st locked)) (hnew : ∀ y ∈ s.jcu.contexts, y.junction ≠ j)
    (hfull : 8 ≤ s.jcu.contexts.length) :
    exec (.telegramReceived m) s = .next ((s.identTaken j).contextFull j) := by
  rw [exec_telegramReceived_counted hr hlen hc, State.acceptTelegram_request hm,
    State.requestIdent_full (s := s.telegramCounted) hnew hfull]
  rfl

/-- The context just created under the live table is the one that the update finds (R126, R131). -/
theorem State.createCtx_live_find (hlive : s.jcu.live = some r) (hnew : ∀ y ∈ s.jcu.contexts, y.junction ≠ j)
    (he : r.entryFor j = e) {d : Option Direction} (hd : s.directionFor e = d) :
    (s.createCtx j).jcu.find j = some (s.tabledCtx r j e d) := by
  rw [State.createCtx_live hlive hnew he hd]
  exact State.contextAdded_find (s := s.asked j d) (x := s.tabledCtx r j e d) hnew

theorem Ctx.Fresh.not_passed (h : x.Fresh) : x.state ≠ .passed := by
  rcases h with h | h <;> rw [h] <;> decide

theorem Ctx.Fresh.not_mismatch (h : x.Fresh) : x.state ≠ .mismatch := by
  rcases h with h | h <;> rw [h] <;> decide

/-- The run is that of the live table still (R122, R126). -/
theorem State.createCtx_ourRun (s : State) (hlive : s.jcu.live = some r)
    (hnew : ∀ y ∈ s.jcu.contexts, y.junction ≠ j) : (s.createCtx j).jcu.ourRun = some r.header.run := by
  rw [State.createCtx_live hlive hnew rfl rfl]
  exact congrArg (Option.map fun y => y.header.run) hlive

/-- A status that leaves the context just created where it is (R126, R131). -/
theorem State.firstUpdate_waits {d : Option Direction} (hlive : s.jcu.live = some r)
    (hnew : ∀ y ∈ s.jcu.contexts, y.junction ≠ j) (he : r.entryFor j = e) (hd : s.directionFor e = d)
    (hst : st = .none ∨ st = .moving ∨ ∃ y, st = .set y ∧ r.header.run ≠ locked) :
    (s.createCtx j).statusUpdate j st locked =
      (s.asked j d).contextAdded { s.tabledCtx r j e d with status := some st } := by
  have hfind := State.createCtx_live_find hlive hnew he hd
  have hcreated := State.createCtx_live hlive hnew he hd
  have hrun := s.createCtx_ourRun hlive hnew
  have hquiet : (s.createCtx j).Quiet (s.tabledCtx r j e d) st locked := by
    rcases hst with h | h | ⟨y, h, hne⟩
    · exact .inl h
    · exact .inr (.inl h)
    · exact .inr (.inr (.inl ⟨y, h, by simpa [hrun] using hne⟩))
  rw [State.statusUpdate_quiet hfind (s.tabledCtx_fresh r j e d).not_passed hquiet, hcreated]
  exact State.contextAdded_statusSet (s := s.asked j d) (x := s.tabledCtx r j e d) hnew

/-- A SET for our run of the direction that the context is created with (R126, R131). -/
theorem State.firstUpdate_set {y : Direction} (hlive : s.jcu.live = some r)
    (hnew : ∀ y ∈ s.jcu.contexts, y.junction ≠ j) (he : r.entryFor j = e) (hd : s.directionFor e = some y)
    (hrun : r.header.run = locked) :
    (s.createCtx j).statusUpdate j (.set y) locked =
      (((s.asked j (some y)).contextAdded (s.tabledCtx r j e (some y))).statusSet j (.set y)).ctxTo
        (s.tabledCtx r j e (some y)) fun z => { z with state := .set, wasSet := true } := by
  have hours : (s.createCtx j).jcu.ourRun = some locked := by rw [s.createCtx_ourRun hlive hnew, hrun]
  rw [State.statusUpdate_set (State.createCtx_live_find hlive hnew he hd)
    (s.tabledCtx_fresh r j e (some y)).not_passed hours rfl, State.createCtx_live hlive hnew he hd]

/-- FAULT, or a SET for our run of another direction or of one where the context has none (R126, R131). -/
theorem State.firstUpdate_mismatch {d : Option Direction} {cause : Int} (hlive : s.jcu.live = some r)
    (hnew : ∀ y ∈ s.jcu.contexts, y.junction ≠ j) (he : r.entryFor j = e) (hd : s.directionFor e = d)
    (hst : (st = .fault ∧ cause = 2) ∨ ∃ y, st = .set y ∧ r.header.run = locked ∧ d ≠ some y ∧ cause = 1) :
    ∃ t, (s.createCtx j).statusUpdate j st locked =
        t.log { kind := .junctionMismatch, block := .jcu, junction := some j, value := some cause } ∧
      t = (((s.asked j d).contextAdded (s.tabledCtx r j e d)).statusSet j st).ctxTo (s.tabledCtx r j e d)
        fun z => { z with state := .mismatch } := by
  have hfresh := s.tabledCtx_fresh r j e d
  have hcause : (s.createCtx j).Mismatches (s.tabledCtx r j e d) st locked cause :=
    hst.imp_right fun ⟨y, h, hrun, hne, hk⟩ => ⟨y, h, by rw [s.createCtx_ourRun hlive hnew, hrun], hne, hk⟩
  rw [State.statusUpdate_mismatch (State.createCtx_live_find hlive hnew he hd) hfresh.not_passed
    hfresh.not_mismatch hcause, State.createCtx_live hlive hnew he hd]
  exact ⟨_, rfl, rfl⟩

/-- The request offered for the context as created (R114, R127). -/
theorem State.queueCreated_listening {q : PointRequest} (h : s.listening = true)
    (hq : q = { junction := j, direction := d, attempt := 1 }) :
    s.queueCreated j (some d) = queueOffer s.llu.queue q := by
  subst hq
  exact State.offered_listening h

/-- Settles O42: the context joins the list by its row of R126, and the ident is its first update; a full list takes
none. -/
theorem identsOpenContexts : Obligations.IdentsOpenContexts := by
  refine ⟨?waits, ?moves, ?missing, ?full, ?again⟩
  case waits =>
    intro s m j locked st r e d hr hlen hc hm hst hnew hroom hlive he hd
    have hupdated := State.firstUpdate_waits (s := s.identTaken j) hlive hnew he.symm hd.symm hst
    have hfresh : Ctx.Fresh { (s.identTaken j).tabledCtx r j e d with status := some st } :=
      (s.identTaken j).tabledCtx_fresh r j e d
    refine ⟨_, exec_identNew hr hlen hc hm hnew hroom, ?_⟩
    rw [hupdated]
    refine ⟨rfl, rfl, State.contextAdded_signals (s := (s.identTaken j).asked j d) hfresh, rfl, ?_, ?_, ?_⟩
    · rintro rfl
      rfl
    · exact fun h => State.queueCreated_deaf (s := s.identTaken j) h d
    · rintro y q rfl h hq
      have hqueue := State.queueCreated_listening (s := s.identTaken j) h hq
      have hjunction : q.junction = j := by rw [hq]
      exact ⟨fun hwaits => hqueue.trans (by rw [queueOffer_replaces (by rwa [hjunction]), hjunction]; rfl),
        fun hnone => hqueue.trans (queueOffer_joins (by rwa [hjunction]))⟩
  case moves =>
    intro s m j locked st r e d c hr hlen hc hm hnew hroom hlive he hd hcreated hst
    have hexec := exec_identNew hr hlen hc hm hnew hroom
    by_cases hset : ∃ y, st = .set y ∧ d = some y
    · obtain ⟨y, rfl, rfl⟩ := hset
      have hrun : r.header.run = locked := by simpa using hst
      have hupdated := State.firstUpdate_set (s := s.identTaken j) hlive hnew he.symm hd.symm hrun
      generalize ((s.identTaken j).createCtx j).statusUpdate j (.set y) locked = t at hexec hupdated
      obtain ⟨hrest, hsignals, hllu, hjcu⟩ := State.firstUpdate_moves (s := s.identTaken j) _ hnew hupdated
      subst hcreated
      refine ⟨t, _, s.jcu.alert, hexec, Jcu.alert_iff _, ?_, hsignals, hllu, hjcu, ?_, ?_⟩
      · rw [hrest]; rfl
      · exact fun _ _ _ => ⟨rfl, by rw [hrest]; rfl⟩
      · rintro k (⟨h, -⟩ | ⟨z, h, hne, -⟩)
        · exact nomatch h
        · exact absurd (by rw [PointStatus.set.inj h]) hne
    · obtain ⟨cause, hcause, hsame⟩ : ∃ cause : Int,
          ((st = .fault ∧ cause = 2) ∨ ∃ y, st = .set y ∧ r.header.run = locked ∧ d ≠ some y ∧ cause = 1) ∧
            ∀ k : Int, ((st = .fault ∧ k = 2) ∨ ∃ y, st = .set y ∧ d ≠ some y ∧ k = 1) → k = cause := by
        rcases hst with rfl | ⟨y, rfl, hrun⟩
        · refine ⟨2, .inl ⟨rfl, rfl⟩, ?_⟩
          rintro k (⟨-, rfl⟩ | ⟨y, h, -⟩)
          · rfl
          · exact nomatch h
        · refine ⟨1, .inr ⟨y, rfl, hrun, fun h => hset ⟨y, rfl, h⟩, rfl⟩, ?_⟩
          rintro k (⟨h, -⟩ | ⟨z, -, -, rfl⟩)
          · exact nomatch h
          · rfl
      obtain ⟨t, hupdated, ht⟩ := State.firstUpdate_mismatch (s := s.identTaken j) hlive hnew he.symm hd.symm hcause
      rw [hupdated] at hexec
      obtain ⟨hrest, hsignals, hllu, hjcu⟩ := State.firstUpdate_moves (s := s.identTaken j) _ hnew ht
      have hcmn : t.cmn = s.cmn := by rw [hrest]; rfl
      subst hcreated
      refine ⟨_, _, s.jcu.alert, hexec, Jcu.alert_iff _, ?_, hsignals, hllu, hjcu, ?_, ?_⟩
      · rw [hrest]; rfl
      · exact fun y h hd => absurd ⟨y, h, hd⟩ hset
      · intro k hk
        rw [hsame k hk]
        exact ⟨rfl, by rw [State.log, State.onCmn_cmn, hcmn]⟩
  case missing =>
    intro s m j locked st hr hlen hc hm hnew hroom hlive
    have hexec := exec_identNew hr hlen hc hm hnew hroom
    rw [State.createCtx_missing (s := s.identTaken j) hlive] at hexec
    by_cases hst : st = .fault
    · subst hst
      obtain ⟨t, hupdated, hrest, hsignals, hllu, hjcu⟩ :=
        State.missingAdded_fault (s := s.identTaken j) (locked := locked) hnew
      rw [hupdated] at hexec
      have hcmn : t.cmn = s.cmn.note { kind := .routeTableMissing, block := .jcu, junction := some j } := by
        rw [hrest]; rfl
      refine ⟨_, hexec, ?_, hllu, ?_, fun h => absurd rfl h, fun _ => ⟨s.jcu.alert, Jcu.alert_iff _, hsignals⟩, hjcu⟩
      · rw [hrest]; rfl
      · rw [State.log, State.onCmn_cmn, hcmn, if_pos rfl]
    · have hupdated := State.missingAdded_waits (s := s.identTaken j) (locked := locked) hlive hnew hst
      have hfresh : Ctx.Fresh { (s.identTaken j).freshCtx false j 0 0 100 30 with status := some st } := .inl rfl
      rw [hupdated] at hexec
      refine ⟨_, hexec, rfl, rfl, (if_neg hst).symm,
        fun _ => State.contextAdded_signals hfresh, fun h => absurd h hst, ?_⟩
      rw [if_neg hst]
      rfl
  case full =>
    intro s m j locked st hr hlen hc hm hnew hfull hflag
    refine ⟨_, exec_identFull hr hlen hc hm hnew hfull, ?_, ?_, ?_, ?_,
      State.contextFull_jcu (s := s.identTaken j) hflag⟩ <;>
      rw [State.contextFull_first (s := s.identTaken j) hflag]
    · rfl
    · rfl
    · rfl
    · exact State.judgeJunctions_signals ((s.identTaken j).onJcu fun u => { u with overflow := true })
  case again =>
    intro s m j locked st hr hlen hc hm hnew hfull hflag
    rw [exec_identFull hr hlen hc hm hnew hfull, State.contextFull_again (s := s.identTaken j) hflag]
    rfl

end Sys2Proof.Machine
end

section
/-! SUPPORT. The horn, the bell, the route presses and PRESELECT (R122, R130, R153, R155), with the statement about
them. -/

namespace Sys2Proof.Machine

variable {s : State} {i : Input} {x : Ctx} {d : Direction} {b : Nat} {f : Frame} {v : Byte}

/-! ### The horn and the bell -/

/-- A change of another button leaves the key as it is (R75). -/
theorem State.keyOn_setLevel_other (on : Bool) (h : inputIndex i ≠ inputIndex .key) :
    (s.setLevel i on).keyOn = s.keyOn :=
  congrArg (fun y : InputState => s.addressed && y.level) (Tab.get_set_ne _ _ _ _ _ h)

theorem exec_hornChange {on : Bool} (h : (s.ciu.input .horn).due on = true) :
    exec (.debouncedChange .horn on) s = .next ((s.setLevel .horn on).onSnu fun u => u.setHorn (s.keyOn && on)) := by
  have hsound : ((s.setLevel .horn on).keyOn && (s.setLevel .horn on).level .horn) = (s.keyOn && on) := by
    rw [State.keyOn_setLevel_other on (by decide), State.level_of_setLevel (s := s) rfl]
  rw [exec_debouncedChange h, ← hsound]
  rfl

/-- A bell press with the key on, where the request does not stand and its pattern is not empty (R153, R155). -/
theorem Snu.pressBell_eq {u : Snu} (hbell : u.bell = false) (hpattern : u.patternOf .bell ≠ []) :
    u.pressBell = Snu.arbitrate { u with bell := true } .exterior :=
  if_neg (by simp [hbell, hpattern])

theorem exec_bellPress (h : (s.ciu.input .bell).due true = true) (hkey : s.keyOn = true) :
    exec (.debouncedChange .bell true) s = .next ((s.setLevel .bell true).onSnu Snu.pressBell) := by
  have hon : (s.setLevel .bell true).keyOn = true := by rw [State.keyOn_setLevel_other true (by decide), hkey]
  rw [exec_debouncedChange h]
  exact congrArg Host.Outcome.next (if_pos (by rw [hon]; rfl))

/-! ### A route press -/

/-- A context created without a live table is no target (R126; log entry 51). -/
theorem State.pressTarget_untabled {seen : Word} (hlast : s.jcu.lastIdent = some (x.junction, seen))
    (hfind : s.jcu.find x.junction = some x) (htabled : x.tabled = false) : s.pressTarget = none := by
  rw [Option.eq_none_iff_forall_ne_some]
  intro y hy
  obtain ⟨j, t, hlast', -, -, -, hfind', htabled'⟩ := (s.pressTarget_eq_some_iff y).1 hy
  obtain ⟨rfl, -⟩ : x.junction = j ∧ seen = t := by simpa [hlast] using hlast'
  obtain rfl : x = y := by simpa [hfind] using hfind'
  simp [htabled] at htabled'

/-- The state with the preselection set, or taken back where it stood at that direction (R122). -/
def State.preselected (s : State) (d : Direction) : State := s.onJcu fun u =>
  { u with preselection := if s.jcu.preselection = some d then none else some d }

theorem State.routePress_idle (h : s.cru.role ≠ .active) : s.routePress d = s := if_pos h

theorem State.routePress_preselects (hrole : s.cru.role = .active) (hnone : s.pressTarget = none) :
    s.routePress d = s.preselected d := by
  simp only [State.routePress, hnone]
  exact if_neg (not_not.2 hrole)

theorem State.routePress_target (hrole : s.cru.role = .active) (htarget : s.pressTarget = some x) :
    s.routePress d = s.routeChange x d := by
  simp only [State.routePress, htarget]
  exact if_neg (not_not.2 hrole)

theorem State.routeChange_refused (h : x.state = .set ∨ x.state = .passed) : s.routeChange x d =
    s.log { kind := .routeChangeRefused, block := .jcu, junction := some x.junction
            value := some (codeDirection d : Int) } := if_pos h

/-- A route change is one change of the context, with its first attempt offered (R127, R130). -/
theorem State.routeChange_eq (hset : x.state ≠ .set) (hpassed : x.state ≠ .passed) : s.routeChange x d =
    State.judgeJunctions { s with
      jcu := s.jcu.update x.junction fun y =>
        { y with direction := some d, source := some .manual, wasSet := false, state := .requesting
                 attempt := 1, retry := some 200 }
      llu := { s.llu with queue := s.offered { junction := x.junction, direction := d, attempt := 1 } } } := by
  rw [State.routeChange, if_neg (not_or.2 ⟨hset, hpassed⟩), State.offerAttempt_eq, State.onJcu_jcu,
    Jcu.update_update fun _ => by rfl]
  rfl

theorem State.routeChange_changed (hlisten : s.listening = true) : s.RouteChanged x d (s.routeChange x d) := by
  refine ⟨State.routeChange_refused, fun hset hpassed => ?_⟩
  rw [State.routeChange_eq hset hpassed]
  refine ⟨rfl, State.judgeJunctions_signals _, rfl, rfl, fun h => ?_, fun h => ?_⟩
  · exact (State.offered_listening hlisten).trans (queueOffer_replaces h)
  · exact (State.offered_listening hlisten).trans (queueOffer_joins h)

/-- A press with one context created under a live Route Table under the antenna is a route change (R122, R130). -/
theorem State.routePress_changed {seen : Word} (hrole : s.cru.role = .active) (hcarrier : s.llu.carrier = true)
    (hlive : s.jcu.live.isSome = true) (hlast : s.jcu.lastIdent = some (x.junction, seen))
    (hseen : (s.cmn.partTime - seen).toNat < 500) (hfind : s.jcu.find x.junction = some x)
    (htabled : x.tabled = true) : s.RouteChanged x d (s.routePress d) := by
  have htarget : s.pressTarget = some x :=
    (s.pressTarget_eq_some_iff x).2 ⟨_, seen, hlast, hcarrier, hseen, hlive, hfind, htabled⟩
  rw [State.routePress_target hrole htarget]
  exact State.routeChange_changed (s.listening_iff.2 ⟨hrole, hcarrier⟩)

/-- The route buttons and their directions (R75, R122). -/
def RouteButton (i : Input) (d : Direction) : Prop :=
  i = .routeLeft ∧ d = .left ∨ i = .routeStraight ∧ d = .straight ∨ i = .routeRight ∧ d = .right

theorem exec_routeButton (hbutton : RouteButton i d) (h : (s.ciu.input i).due true = true) :
    exec (.debouncedChange i true) s = .next ((s.setLevel i true).routePress d) := by
  rw [exec_debouncedChange h]
  rcases hbutton with ⟨rfl, rfl⟩ | ⟨rfl, rfl⟩ | ⟨rfl, rfl⟩ <;> rfl

theorem exec_routeButton_preselects (hbutton : RouteButton i d) (h : (s.ciu.input i).due true = true)
    (hrole : s.cru.role = .active) (hnone : s.pressTarget = none) :
    exec (.debouncedChange i true) s = .next ((s.setLevel i true).preselected d) := by
  rw [exec_routeButton hbutton h, State.routePress_preselects (s := s.setLevel i true) hrole hnone]

theorem exec_routeButton_idle (hbutton : RouteButton i d) (h : (s.ciu.input i).due true = true)
    (hrole : s.cru.role ≠ .active) : exec (.debouncedChange i true) s = .next (s.setLevel i true) := by
  rw [exec_routeButton hbutton h, State.routePress_idle (s := s.setLevel i true) hrole]

/-! ### PRESELECT -/

theorem preselect_mgu (s : State) (f : Frame) : (preselect s f).1.mgu = s.mgu := by
  unfold preselect
  split
  · rfl
  · split
    · rfl
    · simp

theorem exec_preselect (h : s.Commanded b f) (hp : f.payload = [10, v]) :
    exec .preselect s = .next ((preselect s.takeHead f).1.answered b f (preselect s.takeHead f).2) := by
  refine congrArg Host.Outcome.next (State.control_answered h (by rw [hp]; rfl) (by rw [hp]; rfl) (by rw [hp]; rfl) ?_)
  rw [preselect_mgu]
  exact h.2.1

theorem preselect_role (hrole : s.cru.role ≠ .active) : preselect s f = (s, Answer.refused reasonRole 0) :=
  if_pos hrole

theorem preselect_invalid (hrole : s.cru.role = .active) (hp : f.payload = [10, v])
    (hd : directionOf v.toNat = none) : preselect s f = (s, Answer.refused reasonInvalid 0) := by
  have hnumber : directionOf (num1 f.payload 1) = none := by rw [hp]; exact hd
  simp only [preselect, hnumber]
  exact if_neg (not_not.2 hrole)

theorem preselect_press (hrole : s.cru.role = .active) (hp : f.payload = [10, v])
    (hd : directionOf v.toNat = some d) : preselect s f = (s.routePress d, Answer.ok []) := by
  have hnumber : directionOf (num1 f.payload 1) = some d := by rw [hp]; exact hd
  simp only [preselect, hnumber]
  exact if_neg (not_not.2 hrole)

/-- An accepted PRESELECT does what a press does (R122, R175). -/
theorem exec_preselect_press (h : s.Commanded b f) (hp : f.payload = [10, v]) (hd : directionOf v.toNat = some d)
    (hrole : s.cru.role = .active) :
    exec .preselect s = .next ((s.takeHead.routePress d).answered b f (Answer.ok [])) := by
  rw [exec_preselect h hp, preselect_press (s := s.takeHead) hrole hp hd]

theorem exec_preselect_preselects (h : s.Commanded b f) (hp : f.payload = [10, v])
    (hd : directionOf v.toNat = some d) (hrole : s.cru.role = .active) (hnone : s.pressTarget = none) :
    exec .preselect s = .next ((s.takeHead.preselected d).answered b f (Answer.ok [])) := by
  rw [exec_preselect_press h hp hd hrole, State.routePress_preselects (s := s.takeHead) hrole hnone]

/-- Settles O30: each button by its consumer, and PRESELECT as the press of its direction. -/
theorem hornBellAndRouteButtons : Obligations.HornBellAndRouteButtons := by
  refine ⟨?horn, ?bell, ?preselects, ?changes, ?untabled, ?idle, ?command, ?commandUntabled, ?commandPreselects,
    ?refused⟩
  case horn => exact fun s on h => exec_hornChange h
  case bell =>
    intro s h haddressed hkey hbell hpattern
    have hon : s.keyOn = true := by rw [State.keyOn, haddressed, hkey]; rfl
    rw [exec_bellPress h hon, ← Snu.pressBell_eq hbell hpattern]
    rfl
  case preselects => exact fun s i d hbutton h hrole hnone => exec_routeButton_preselects hbutton h hrole hnone
  case changes =>
    intro s i d x seen hbutton h hrole hcarrier hlive hlast hseen hfind htabled
    exact ⟨_, exec_routeButton hbutton h,
      State.routePress_changed (s := s.setLevel i true) hrole hcarrier hlive hlast hseen hfind htabled⟩
  case untabled =>
    intro s i d x seen hbutton h hrole hlast hfind htabled
    exact exec_routeButton_preselects hbutton h hrole (State.pressTarget_untabled hlast hfind htabled)
  case idle =>
    intro s i hi h hrole
    rcases hi with rfl | rfl | rfl
    · exact exec_routeButton_idle (.inl ⟨rfl, rfl⟩) h hrole
    · exact exec_routeButton_idle (.inr (.inl ⟨rfl, rfl⟩)) h hrole
    · exact exec_routeButton_idle (.inr (.inr ⟨rfl, rfl⟩)) h hrole
  case command =>
    intro s b f v d x seen h hp hd hrole hcarrier hlive hlast hseen hfind htabled
    exact ⟨_, exec_preselect_press h hp hd hrole,
      State.routePress_changed (s := s.takeHead) hrole hcarrier hlive hlast hseen hfind htabled⟩
  case commandUntabled =>
    intro s b f v d x seen h hp hd hrole hlast hfind htabled
    exact exec_preselect_preselects h hp hd hrole (State.pressTarget_untabled hlast hfind htabled)
  case commandPreselects => exact fun s b f v d h hp hd hrole hnone => exec_preselect_preselects h hp hd hrole hnone
  case refused =>
    intro s b f v h hp
    refine ⟨fun hrole => ?_, fun hrole hd => ?_⟩
    · rw [exec_preselect h hp, preselect_role (s := s.takeHead) hrole]
      rfl
    · rw [exec_preselect h hp, preselect_invalid (s := s.takeHead) hrole hp hd]
      rfl

end Sys2Proof.Machine
end

section
/-! SUPPORT. The entry into ACTIVE from CLAIMING, with the statement about the claim window (R64, R69, R90, R138,
R147). -/

namespace Sys2Proof.Machine

variable {s : State}

theorem exec_claimWindowExpiry (hrole : s.cru.role = .claiming) (hwindow : s.cru.claimWindow = some 0) :
    exec .claimWindowExpiry s = .next (s.setRole .active) :=
  congrArg _ (if_pos ⟨hrole, hwindow⟩)

theorem State.arriveActive_jcu (s : State) (old : Role) : (s.arriveActive old).jcu = s.junctionStart.jcu := by
  unfold State.arriveActive
  dsimp only
  split <;> simp

/-- As CLAIMING becomes ACTIVE the Junction Unit begins, and the ports are as they were (R138). -/
theorem State.setRole_active_claiming (h : s.cru.role = .claiming) :
    (s.setRole .active).jcu = s.junctionStart.jcu ∧ (s.setRole .active).ports = s.ports := by
  have hdepart : (s.onCru fun u => u.enter .active).departFrom .claiming .active = s.onCru fun u => u.enter .active :=
    rfl
  unfold State.setRole
  rw [h, hdepart]
  dsimp only
  rw [if_pos rfl]
  simp only [State.sendAnnounce_keeps, State.onSnu_jcu, State.onSnu_ports, State.arriveActive_jcu,
    State.arriveActive_keeps]
  exact ⟨rfl, rfl⟩

/-- OFF left: the first period in 20 ms, and RUN or EMERGENCY by the emergency stop (R90, R91). -/
theorem Tdu.started_off {u : Tdu} {estop : Bool} (h : u.state = .off) :
    (u.started estop).r = 0 ∧ (u.started estop).f = 1000 ∧ (u.started estop).slip = false ∧
      (u.started estop).periodTimer = some 20 ∧
      (estop = false → (u.started estop).state = .run ∧ (u.started estop).d = 0) ∧
      (estop = true → (u.started estop).state = .emergency ∧ (u.started estop).d = -1000) := by
  cases estop <;> simp [Tdu.started, h, Tdu.leaveOff]

theorem Sru.emptied_served_state (u : Sru) (release : Bool) :
    (if release then u.emptied.served else u.emptied).record.state = if release then .serving else .idle := by
  cases release <;> rfl

/-- Settles O22, unit by unit of the change of role. -/
theorem claimWindowGivesCommand : Obligations.ClaimWindowGivesCommand := by
  intro s hrole hwindow hoff
  obtain ⟨_, hcru⟩ := s.setRole_cru .active
  obtain ⟨_, hsru⟩ := s.setRole_sru .active
  obtain ⟨hjcu, hports⟩ := State.setRole_active_claiming hrole
  obtain ⟨hown, hfsw, hciu, hmgu, -⟩ := s.setRole_keeps .active
  have htdu : (s.setRole .active).tdu = s.tdu.started (s.level .estop) := by
    rw [State.setRole_tdu, hrole]
    rfl
  obtain ⟨hr, hf, hslip, hperiod, hrun, hemergency⟩ := Tdu.started_off (estop := s.level .estop) hoff
  refine ⟨_, exec_claimWindowExpiry hrole hwindow, ?_⟩
  rw [hcru, hsru, hjcu, htdu, if_pos rfl]
  exact ⟨rfl, rfl, rfl, rfl, rfl, rfl, rfl, rfl, rfl, rfl, hr, hf, hslip, hperiod, hrun, hemergency,
    s.sru.emptied_served_state _, hports, hfsw, hciu, hmgu, hown⟩

end Sys2Proof.Machine
end

section
/-! SUPPORT. The presses and the timers of the Stop Request Record (R141 to R146), with the statement about
STOP_PRESS. -/

namespace Sys2Proof.Machine

variable {s t : State} {b : Nat} {f : Frame} {door : Nat} {accessible : Bool} {p : Profile}

/-! ### A STOP_INDICATE in REQUESTED (R145) -/

/-- The state once a STOP_INDICATE has told of a request, as a Stop Request Unit holds it (R145, R182). -/
def State.requestTold (s : State) (u : Sru) : State :=
  s.sendOwn 4 (ownFrame s.own 63 0x31 4 u.seq
    ([1] ++ oct2 u.record.doors.toNat ++ octFlag u.record.accessible))

/-- A STOP_INDICATE of a request, sent where the buffers, the queues and the monitor are as in `s`. -/
theorem State.SendsAlike.indicateRequested (h : t.SendsAlike s) (ho : t.own = s.own)
    (hr : t.sru.record.state = .requested) : t.indicateRequested = { t with
      bqm := (s.requestTold t.sru).bqm
      cmn := (s.requestTold t.sru).cmn
      sru := { t.sru with refreshTimer := some 1000, seq := s.bqm.seqAfter t.sru.seq } } := by
  have hframe : t.indicateFrame = ownFrame s.own 63 0x31 4 t.sru.seq
      ([1] ++ oct2 t.sru.record.doors.toNat ++ octFlag t.sru.record.accessible) := by
    rw [State.indicateFrame_eq, hr, ho]
    rfl
  rw [State.indicateRequested, State.indicate_eq, (h.sendOwn _ _).bqm, (h.sendOwn _ _).cmn, h.seqAfter, hframe]
  rfl

/-! ### A press judged (R142) -/

theorem exec_takeStopPress (h : s.headOfKind kindStopPress = some (b, f)) :
    exec .takeStopPress s = .next ((s.takeHead.stopPressTaken f).consumed b) :=
  congrArg Host.Outcome.next (State.consume_head h)

theorem State.stopPressTaken_other (h : s.cru.role ≠ .active) : s.stopPressTaken f = s := if_pos h

theorem State.stopPressTaken_rejected (hrole : s.cru.role = .active) (h : stopPress f.payload = none) :
    s.stopPressTaken f = s.onSru fun u => { u with rejected := bump u.rejected } := by
  unfold State.stopPressTaken
  rw [if_neg (by simp [hrole]), h]

/-- A press that reads right is judged by its door (R142). -/
theorem State.stopPressTaken_door (hrole : s.cru.role = .active)
    (h : stopPress f.payload = some (door, accessible)) (hlive : s.tdu.live = some p) :
    s.stopPressTaken f = if door = 0 ∨ p.doorCount < (door : Int) then s.count .stopPanel
      else s.validPress door accessible := by
  unfold State.stopPressTaken
  rw [if_neg (by simp [hrole]), h, hlive]
  rfl

theorem exec_validPress (hf : s.headOfKind kindStopPress = some (b, f)) (hrole : s.cru.role = .active)
    (h : stopPress f.payload = some (door, accessible)) (hlive : s.tdu.live = some p) (hlow : 1 ≤ door)
    (hhigh : (door : Int) ≤ p.doorCount) :
    exec .takeStopPress s = .next ((s.takeHead.validPress door accessible).consumed b) := by
  rw [exec_takeStopPress hf, State.stopPressTaken_door (s := s.takeHead) hrole h hlive, if_neg (by omega)]

/-! ### A valid press, by the state of the record (R143, R146) -/

/-- The Stop Request Unit with a request begun at a door (R143). -/
def Sru.requestedAt (u : Sru) (time : Word) (door : Nat) (accessible : Bool) : Sru :=
  { u with
    record := { state := .requested, doors := 1#16 <<< (door - 1), accessible := accessible
                firstPress := some time, presses := 1 }
    lamp := true }

/-- The Stop Request Unit with a door added to its request, and the accessible flag raised (R143). -/
def Sru.joinedBy (u : Sru) (door : Nat) (accessible : Bool) : Sru :=
  { u with record := { u.record with
      doors := u.record.doors ||| 1#16 <<< (door - 1)
      accessible := u.record.accessible || accessible
      presses := min 255 (u.record.presses + 1) } }

theorem State.validPress_idle (h : s.sru.record.state = .idle) : s.validPress door accessible =
    { s with
      bqm := (s.requestTold (s.sru.requestedAt s.cmn.partTime door accessible)).bqm
      cmn := (s.requestTold (s.sru.requestedAt s.cmn.partTime door accessible)).cmn
      sru := { s.sru.requestedAt s.cmn.partTime door accessible with
        refreshTimer := some 1000, seq := s.bqm.seqAfter s.sru.seq }
      snu := s.snu.requestEvent (if accessible then .accessChime else .chime) } := by
  let v := s.onSru fun u => u.requestedAt s.cmn.partTime door accessible
  have hsame : v.SendsAlike s := ⟨rfl, rfl, rfl, rfl⟩
  have hfirst : s.validPress door accessible =
      v.indicateRequested.onSnu fun u => u.requestEvent (if accessible then .accessChime else .chime) := by
    unfold State.validPress
    rw [h]
    rfl
  rw [hfirst, hsame.indicateRequested rfl rfl]
  rfl

theorem State.validPress_requested (h : s.sru.record.state = .requested) :
    s.validPress door accessible = s.furtherPress door accessible := by
  unfold State.validPress
  rw [h]

theorem State.validPress_counted (h : s.sru.record.state = .serving ∨ s.sru.record.state = .inhibit) :
    s.validPress door accessible = s.onSru fun u => { u with record := u.record.pressed } := by
  unfold State.validPress
  rcases h with h | h <;> rw [h]

/-- A press that raises no flag is not told of (R143). -/
theorem State.furtherPress_quiet (h : accessible = false ∨ s.sru.record.accessible = true) :
    s.furtherPress door accessible = s.onSru fun u => u.joinedBy door accessible :=
  if_neg (by rcases h with h | h <;> simp [h])

/-- The flag raised is heard and told (R143, R146). -/
theorem State.furtherPress_raises (hr : s.sru.record.state = .requested) (h : s.sru.record.accessible = false) :
    s.furtherPress door true = { s with
      bqm := (s.requestTold (s.sru.joinedBy door true)).bqm
      cmn := (s.requestTold (s.sru.joinedBy door true)).cmn
      sru := { s.sru.joinedBy door true with refreshTimer := some 1000, seq := s.bqm.seqAfter s.sru.seq }
      snu := s.snu.requestEvent .accessChime } := by
  let v := (s.onSru fun u => u.joinedBy door true).onSnu fun u => u.requestEvent .accessChime
  have hsame : v.SendsAlike s := ⟨rfl, rfl, rfl, rfl⟩
  have hraised : s.furtherPress door true = v.indicateRequested := if_pos (by simp [h])
  rw [hraised, hsame.indicateRequested rfl hr]
  rfl

theorem Sru.joinedBy_quiet {u : Sru} (h : accessible = false ∨ u.record.accessible = true) :
    u.joinedBy door accessible = { u with record := { u.record with
      doors := u.record.doors ||| 1#16 <<< (door - 1)
      presses := min 255 (u.record.presses + 1) } } := by
  have hflag : (u.record.accessible || accessible) = u.record.accessible := by
    rcases h with h | h <;> simp [h]
  rw [Sru.joinedBy, hflag]

theorem Sru.joinedBy_raises (u : Sru) : u.joinedBy door true = { u with record := { u.record with
      doors := u.record.doors ||| 1#16 <<< (door - 1), accessible := true
      presses := min 255 (u.record.presses + 1) } } := by
  rw [Sru.joinedBy, Bool.or_true]

/-- Settles O20: a valid press by the state of the record, then the presses that are none. -/
theorem stopPressesAreTaken : Obligations.StopPressesAreTaken := by
  refine ⟨fun s b f door accessible p hf hrole h hlive hlow hhigh hst => ?_,
    fun s b f door accessible p hf hrole h hlive hlow hhigh hst => ?_,
    fun s b f door accessible p hf hrole h hlive hlow hhigh hst hflag => ?_,
    fun s b f door accessible p hf hrole h hlive hdoor => ?_, fun s b f hf hrole h => ?_,
    fun s b f door p hf hrole h hlive hlow hhigh hst hflag => ?_, fun s b f hf hrole => ?_⟩
  · refine ⟨_, exec_validPress hf hrole h hlive hlow hhigh, ?_⟩
    rw [State.validPress_idle (s := s.takeHead) hst]
    exact ⟨rfl, rfl, rfl, _, rfl, rfl, rfl⟩
  · rw [exec_validPress hf hrole h hlive hlow hhigh, State.validPress_counted (s := s.takeHead) hst]
    rfl
  · rw [exec_validPress hf hrole h hlive hlow hhigh, State.validPress_requested (s := s.takeHead) hst,
      State.furtherPress_quiet (s := s.takeHead) hflag, State.onSru,
      Sru.joinedBy_quiet (u := s.takeHead.sru) hflag]
    rfl
  · rw [exec_takeStopPress hf, State.stopPressTaken_door (s := s.takeHead) hrole h hlive, if_pos hdoor]
    rfl
  · rw [exec_takeStopPress hf, State.stopPressTaken_rejected (s := s.takeHead) hrole h]
    rfl
  · refine ⟨_, exec_validPress hf hrole h hlive hlow hhigh, ?_⟩
    rw [State.validPress_requested (s := s.takeHead) hst, State.furtherPress_raises (s := s.takeHead) hst hflag,
      Sru.joinedBy_raises]
    exact ⟨rfl, rfl, rfl, _, rfl, rfl, rfl⟩
  · rw [exec_takeStopPress hf, State.stopPressTaken_other (s := s.takeHead) hrole]
    rfl

end Sys2Proof.Machine
end

section
/-! SUPPORT. The end of a step (R154, R155), the decision of a channel, an event asked for (R153 to R156) and the
wave of a tone (R150). -/

namespace Sys2Proof.Machine

variable {u : Snu} {c k : Channel} {x : Source} {y : Step} {held : Bool} {t : Nat}

/-! ### The end of a step (R154, R155) -/

theorem Snu.stepLeft_of_step (hx : (u.player c).playing = some x)
    (hy : (u.patternOf x)[(u.player c).step]? = some y) :
    u.stepLeft c = some (y.duration * 10 - (u.player c).elapsed) := by
  simp only [Snu.stepLeft, Snu.currentStep, hx, hy, Option.map_some]

theorem exec_stepEnd_due {s : State} (hx : (s.snu.player c).playing = some x)
    (hy : (s.snu.patternOf x)[(s.snu.player c).step]? = some y)
    (hdue : y.duration * 10 ≤ (s.snu.player c).elapsed) :
    exec (.stepEnd c) s = .next (s.onSnu fun u => u.stepEnd c (s.level .bell && s.keyOn)) :=
  congrArg _ (if_pos (by rw [Snu.stepLeft_of_step hx hy, Nat.sub_eq_zero_of_le hdue]))

theorem exec_stepEnd_early {s : State} (hx : (s.snu.player c).playing = some x)
    (hy : (s.snu.patternOf x)[(s.snu.player c).step]? = some y)
    (hearly : (s.snu.player c).elapsed < y.duration * 10) : exec (.stepEnd c) s = .next s :=
  congrArg _ (if_neg (by rw [Snu.stepLeft_of_step hx hy, Option.some.injEq]; omega))

theorem Snu.stepEnd_inner (hx : (u.player c).playing = some x)
    (h : (u.player c).step + 1 < (u.patternOf x).length) : u.stepEnd c held =
      u.setPlayer c { u.player c with step := (u.player c).step + 1, elapsed := 0 } := by
  simp only [Snu.stepEnd, hx, if_pos h]

theorem Snu.stepEnd_last (hx : (u.player c).playing = some x)
    (h : (u.player c).step + 1 = (u.patternOf x).length) : u.stepEnd c held = u.playingEnd c x held := by
  simp only [Snu.stepEnd, hx, if_neg (Nat.not_lt.2 h.ge)]

theorem Snu.playingEnd_restarts (h : sourceKind x = .condition ∨ (x = .bell ∧ held = true)) :
    u.playingEnd c x held = u.restart c := by
  unfold Snu.playingEnd
  rcases h with h | ⟨rfl, rfl⟩
  · rw [h]
  · rfl

theorem Snu.playingEnd_ends (h : sourceKind x = .event ∨ (x = .bell ∧ held = false)) :
    u.playingEnd c x held = (u.endRequest x).arbitrate c := by
  unfold Snu.playingEnd
  rcases h with h | ⟨rfl, rfl⟩
  · rw [h]
  · rfl

/-- The last step of a source that goes on: its pattern begins again (R155). -/
theorem exec_stepEnd_restarts {s : State} (hx : (s.snu.player c).playing = some x)
    (hy : (s.snu.patternOf x)[(s.snu.player c).step]? = some y)
    (hdue : y.duration * 10 ≤ (s.snu.player c).elapsed)
    (hlast : (s.snu.player c).step + 1 = (s.snu.patternOf x).length)
    (h : sourceKind x = .condition ∨ (x = .bell ∧ (s.level .bell && s.keyOn) = true)) :
    exec (.stepEnd c) s = .next (s.onSnu fun u => u.restart c) := by
  rw [exec_stepEnd_due hx hy hdue, State.onSnu, Snu.stepEnd_last hx hlast, Snu.playingEnd_restarts h]
  rfl

/-- The last step of a source that ends: the channel decides without its request (R155). -/
theorem exec_stepEnd_ends {s : State} (hx : (s.snu.player c).playing = some x)
    (hy : (s.snu.patternOf x)[(s.snu.player c).step]? = some y)
    (hdue : y.duration * 10 ≤ (s.snu.player c).elapsed)
    (hlast : (s.snu.player c).step + 1 = (s.snu.patternOf x).length)
    (h : sourceKind x = .event ∨ (x = .bell ∧ (s.level .bell && s.keyOn) = false)) :
    exec (.stepEnd c) s = .next (s.onSnu fun u => (u.endRequest x).arbitrate c) := by
  rw [exec_stepEnd_due hx hy hdue, State.onSnu, Snu.stepEnd_last hx hlast, Snu.playingEnd_ends h]
  rfl

/-! ### The winner and the preempted (R154, R156) -/

theorem find?_cons_ite {α : Type} (p : α → Bool) (a : α) (l : List α) :
    (a :: l).find? p = if p a then some a else l.find? p := by
  rw [List.find?_cons]
  cases p a <;> rfl

theorem Snu.winner_exterior (u : Snu) : u.winner .exterior =
    if u.takesPart .horn then some .horn else if u.takesPart .emergency then some .emergency
    else if u.takesPart .bell then some .bell else if u.takesPart .warning then some .warning else none := by
  simp only [Snu.winner, channelSources, find?_cons_ite, List.find?_nil]

theorem Snu.winner_interior (u : Snu) : u.winner .interior =
    if u.takesPart .cabAlert then some .cabAlert else if u.takesPart .accessChime then some .accessChime
    else if u.takesPart .chime then some .chime else none := by
  simp only [Snu.winner, channelSources, find?_cons_ite, List.find?_nil]

theorem Snu.takesPart_false (h : u.requested x = false) : u.takesPart x = false := by
  rw [Snu.takesPart, h, Bool.false_and]

/-- The end of a request that does not stand changes nothing. -/
theorem Snu.endRequest_idle (h : u.requested x = false) : u.endRequest x = u := by
  cases x
  case bell => exact congrArg (fun r => { u with bell := r }) h.symm
  case accessChime => exact congrArg (fun r => { u with accessChime := r }) h.symm
  case chime => exact congrArg (fun r => { u with chime := r }) h.symm
  all_goals rfl

/-- What the stop of a channel's player leaves of the requests (R156). -/
theorem Snu.stopped_eq (u : Snu) (c : Channel) : u.stopped c = { u with
    accessChime := u.accessChime && !decide ((u.player c).playing = some .accessChime)
    chime := u.chime && !decide ((u.player c).playing = some .chime)
    discarded := if ((u.player c).playing = some .accessChime ∧ u.accessChime = true) ∨
        ((u.player c).playing = some .chime ∧ u.chime = true) then bump u.discarded
      else u.discarded } := by
  unfold Snu.stopped
  cases (u.player c).playing with
  | none => simp
  | some x =>
    by_cases hevent : sourceKind x = .event
    · obtain rfl | rfl := sourceKind_event.1 hevent
      · cases h : u.accessChime
        · simpa [Snu.preempt, Snu.requested, h, Snu.endRequest] using
            (Snu.endRequest_idle (x := .accessChime) h).symm
        · simp [Snu.preempt, sourceKind, Snu.requested, Snu.discard, Snu.endRequest, h]
      · cases h : u.chime
        · simpa [Snu.preempt, Snu.requested, h, Snu.endRequest] using (Snu.endRequest_idle (x := .chime) h).symm
        · simp [Snu.preempt, sourceKind, Snu.requested, Snu.discard, Snu.endRequest, h]
    · obtain ⟨haccess, hchime⟩ := sourceKind_ne_event.1 hevent
      simp [Snu.preempt, hevent, haccess, hchime]

/-- A source whose request has ended gives way without a discard (R155). -/
theorem Snu.arbitrate_ended (hx : (u.player c).playing = some x) (hr : u.requested x = false) :
    u.arbitrate c = u.setPlayer c { u.player c with playing := u.winner c, step := 0, elapsed := 0 } := by
  have hw : u.winner c ≠ (u.player c).playing := fun h =>
    absurd (Snu.takesPart_of_winner (h.trans hx)) (by rw [Snu.takesPart_false hr]; decide)
  have hstopped : u.stopped c = u := by
    simp only [Snu.stopped, hx]
    exact if_neg (by simp [hr])
  rw [Snu.arbitrate_new hw, hstopped]

/-! ### An event asked for (R153, R155, R156) -/

/-- A source above an event takes part (R156). -/
def Snu.covered (u : Snu) (x : Source) : Bool :=
  u.takesPart .cabAlert || (decide (x = .chime) && u.takesPart .accessChime)

/-- The request of an event that stands, or whose pattern is empty, is not made (R153, R155). -/
theorem Snu.requestEvent_unmade (h : u.requested x = true ∨ u.patternOf x = []) : u.requestEvent x = u :=
  if_pos (by rwa [List.isEmpty_iff])

/-- Every event sounds inside (R153). -/
theorem sourceChannel_event (hx : sourceKind x = .event) : sourceChannel x = .interior := by
  obtain rfl | rfl := sourceKind_event.1 hx <;> rfl

/-- An event wins as it is asked for where no source above it takes part. -/
theorem Snu.winner_standRequest (hx : sourceKind x = .event) (hp : u.patternOf x ≠ []) :
    (u.standRequest x).winner .interior = some x ↔ u.covered x = false := by
  have hpattern : (u.standRequest x).patternOf x = u.patternOf x := by cases x <;> rfl
  have hasked : (u.standRequest x).requested x = true := by
    obtain rfl | rfl := sourceKind_event.1 hx <;> rfl
  have htakes : (u.standRequest x).takesPart x = true := by
    simp [Snu.takesPart, hpattern, hasked, hp]
  have hcab : (u.standRequest x).takesPart .cabAlert = u.takesPart .cabAlert := by cases x <;> rfl
  rw [Snu.winner_interior, Snu.covered, hcab]
  obtain rfl | rfl := sourceKind_event.1 hx
  · rw [htakes]
    cases u.takesPart .cabAlert <;> simp
  · have haccess : (u.standRequest .chime).takesPart .accessChime = u.takesPart .accessChime := rfl
    rw [htakes, haccess]
    cases u.takesPart .cabAlert <;> cases u.takesPart .accessChime <;> simp

/-- A covered event is discarded as it is asked for (R156). -/
theorem Snu.requestEvent_covered (hx : sourceKind x = .event) (hr : u.requested x = false) (hp : u.patternOf x ≠ [])
    (h : u.covered x = true) : u.requestEvent x = { u with discarded := bump u.discarded } := by
  have hlost : (u.standRequest x).winner (sourceChannel x) ≠ some x := by
    rw [sourceChannel_event hx, ne_eq, Snu.winner_standRequest hx hp, h]
    decide
  have hback : (u.standRequest x).endRequest x = u := by
    refine Eq.trans ?_ (Snu.endRequest_idle hr)
    cases x <;> rfl
  have hbump : (u.standRequest x).discarded = u.discarded := by cases x <;> rfl
  unfold Snu.requestEvent
  rw [if_neg (by simp [hr, hp])]
  dsimp only
  rw [if_neg hlost, Snu.discard, hback, hbump]

/-- An event that no source covers is played (R154). -/
theorem Snu.requestEvent_uncovered (hx : sourceKind x = .event) (hr : u.requested x = false)
    (hp : u.patternOf x ≠ []) (h : u.covered x = false) :
    u.requestEvent x = (u.standRequest x).arbitrate .interior := by
  unfold Snu.requestEvent
  rw [if_neg (by simp [hr, hp]), sourceChannel_event hx]
  exact if_pos ((Snu.winner_standRequest hx hp).2 h)

/-! ### The wave of a tone (R150, R154) -/

theorem Snu.toneLevel_silent (h : u.soundingTone c = none) : u.toneLevel c = false := by
  simp only [Snu.toneLevel, h]

theorem Snu.toneOutput_silent (h : u.soundingTone c = none) : u.toneOutput c = none := by
  simp only [Snu.toneOutput, h, Option.map_none]

theorem Snu.toneLevel_sounding (h : u.soundingTone c = some t) : u.toneLevel c = (u.waveOf c t).high := by
  simp only [Snu.toneLevel, h]

theorem Snu.toneOutput_sounding (h : u.soundingTone c = some t) : u.toneOutput c = some (u.waveOf c t).hz := by
  simp only [Snu.toneOutput, h, Option.map_some]

/-- The wave of this tone under way goes on (R154). -/
theorem Snu.waveOf_underWay {w : Wave} (h : (u.player c).wave = some w) (ht : w.tone = t) : u.waveOf c t = w := by
  rw [Snu.waveOf_elim, h]
  exact if_pos ht

/-- With no wave of this tone under way one begins, high (R150; log entry 33). -/
theorem Snu.waveOf_begun (h : ∀ w, (u.player c).wave = some w → w.tone ≠ t) :
    u.waveOf c t = { tone := t, high := true, hz := u.tones.get t 0, phase := 0 } := by
  rw [Snu.waveOf_elim]
  cases hw : (u.player c).wave with
  | none => rfl
  | some w => exact if_neg (h w hw)

theorem Snu.soundingTone_clock (u : Snu) (c : Channel) : u.clock.soundingTone c = u.soundingTone c := by
  cases c <;> rfl

theorem Snu.wave_clock (u : Snu) (c : Channel) : (u.clock.player c).wave =
    (u.soundingTone c).map fun t => (u.waveOf c t).next (u.tones.get t 0) := by
  cases c <;> rfl

theorem Wave.next_within {w : Wave} {hz : Nat} (h : w.phase + 2 * w.hz < 1000000) :
    w.next hz = { w with phase := w.phase + 2 * w.hz } :=
  if_neg (Nat.not_le.2 h)

/-- A half-period that is over turns the level over, and the next takes the table's frequency (R150). -/
theorem Wave.next_turned {w : Wave} {hz : Nat} (h : 1000000 ≤ w.phase + 2 * w.hz) :
    w.next hz = { w with high := !w.high, hz := hz, phase := w.phase + 2 * w.hz - 1000000 } :=
  if_pos h

theorem Wave.next_tone (w : Wave) (hz : Nat) : (w.next hz).tone = w.tone := by
  unfold Wave.next
  split <;> rfl

/-- A tone that sounds has its wave one microsecond later (R150). -/
theorem Snu.waveOf_clock (h : u.soundingTone c = some t) :
    u.clock.waveOf c t = (u.waveOf c t).next (u.tones.get t 0) := by
  refine Snu.waveOf_underWay ?_ ((Wave.next_tone _ _).trans (u.waveOf_tone c t))
  rw [Snu.wave_clock, h, Option.map_some]

theorem Snu.toneLevel_clock (h : u.soundingTone c = some t) :
    u.clock.toneLevel c = ((u.waveOf c t).next (u.tones.get t 0)).high := by
  rw [Snu.toneLevel_sounding ((u.soundingTone_clock c).trans h), Snu.waveOf_clock h]

theorem Snu.toneOutput_clock (h : u.soundingTone c = some t) :
    u.clock.toneOutput c = some ((u.waveOf c t).next (u.tones.get t 0)).hz := by
  rw [Snu.toneOutput_sounding ((u.soundingTone_clock c).trans h), Snu.waveOf_clock h]

end Sys2Proof.Machine
end

section
/-! SUPPORT. The timers of the stop record, the last steps of a chime and of the bell, and the statement about timers
and sounds (R144, R145, R150, R153 to R156). -/

namespace Sys2Proof.Machine

variable {s : State} {y : Step}

/-! ### The timers of the stop record (R144, R145) -/

/-- A refresh is told of with the record as it stands (R145). -/
theorem exec_refreshTimerExpiry (hr : s.sru.record.state = .requested) (ht : s.sru.refreshTimer = some 0) :
    exec .refreshTimerExpiry s = .next { s with
      bqm := (s.requestTold s.sru).bqm
      cmn := (s.requestTold s.sru).cmn
      sru := { s.sru with refreshTimer := some 1000, seq := s.bqm.seqAfter s.sru.seq } } := by
  have hsame : s.SendsAlike s := ⟨rfl, rfl, rfl, rfl⟩
  have htold : exec .refreshTimerExpiry s = .next s.indicateRequested := congrArg _ (if_pos ⟨hr, ht⟩)
  rw [htold, hsame.indicateRequested rfl hr]

theorem exec_inhibitTimerExpiry (hr : s.sru.record.state = .inhibit) (ht : s.sru.inhibitTimer = some 0) :
    exec .inhibitTimerExpiry s =
      .next (s.onSru fun u => { u with record := StopRecord.empty, inhibitTimer := none }) :=
  congrArg _ (if_pos ⟨hr, ht⟩)

/-! ### The last step of a chime and of the bell (R155) -/

/-- The chime ends with no other source inside: the channel falls silent. -/
theorem Snu.chime_ends {u : Snu} (hx : u.interior.playing = some .chime) (hrole : u.alertRole = false)
    (hjunction : u.alertJunction = false) (haccess : u.accessChime = false) :
    (u.endRequest .chime).arbitrate .interior = { u with
      chime := false
      interior := { u.interior with playing := none, step := 0, elapsed := 0 } } := by
  have hfirst : (u.endRequest .chime).takesPart .cabAlert = false :=
    Snu.takesPart_false (by change (u.alertRole || u.alertJunction) = false; rw [hrole, hjunction]; rfl)
  have hsecond : (u.endRequest .chime).takesPart .accessChime = false := Snu.takesPart_false haccess
  have hended : (u.endRequest .chime).takesPart .chime = false := Snu.takesPart_false rfl
  have hsilent : (u.endRequest .chime).winner .interior = none := by
    rw [Snu.winner_interior, hfirst, hsecond, hended]
    rfl
  rw [Snu.arbitrate_ended (u := u.endRequest .chime) (c := .interior) hx rfl, hsilent]
  rfl

/-- The bell ends with neither horn nor EMERGENCY: WARNING is behind it, or silence. -/
theorem Snu.bell_ends {u : Snu} (hx : u.exterior.playing = some .bell) (hhorn : u.horn = false)
    (hemergency : u.emergency = false) :
    (u.endRequest .bell).arbitrate .exterior = { u with
      bell := false
      exterior := { u.exterior with
        playing := if u.warning = true ∧ u.patternOf .warning ≠ [] then some .warning else none
        step := 0, elapsed := 0 } } := by
  have hfirst : (u.endRequest .bell).takesPart .horn = false := Snu.takesPart_false hhorn
  have hsecond : (u.endRequest .bell).takesPart .emergency = false := Snu.takesPart_false hemergency
  have hended : (u.endRequest .bell).takesPart .bell = false := Snu.takesPart_false rfl
  have hwarning : (u.endRequest .bell).takesPart .warning = true ↔
      u.warning = true ∧ u.patternOf .warning ≠ [] := by
    change (u.warning && !(u.patternOf .warning).isEmpty) = true ↔ _
    simp
  have hwinner : (u.endRequest .bell).winner .exterior =
      if u.warning = true ∧ u.patternOf .warning ≠ [] then some .warning else none := by
    rw [Snu.winner_exterior, hfirst, hsecond, hended]
    simp only [hwarning, Bool.false_eq_true, if_false]
  rw [Snu.arbitrate_ended (u := u.endRequest .bell) (c := .exterior) hx rfl, hwinner]
  rfl

theorem State.bellHeld_false : (s.level .bell && s.keyOn) = false ↔
    s.level .bell = false ∨ s.addressed = false ∨ s.level .key = false := by
  simp only [State.keyOn, Bool.and_eq_false_iff]

theorem State.bellHeld_true : (s.level .bell && s.keyOn) = true ↔
    s.level .bell = true ∧ s.addressed = true ∧ s.level .key = true := by
  simp only [State.keyOn, Bool.and_eq_true]

/-! ### The statement -/

/-- An output by its sounding tone and the wave under way (R150, R154; log entry 33). -/
theorem Snu.tone_cases (u : Snu) (c : Channel) :
    (u.soundingTone c = none → u.toneLevel c = false ∧ u.toneOutput c = none ∧ u.clock.toneLevel c = false) ∧
    (∀ t, u.soundingTone c = some t →
      ((∀ w, (u.player c).wave = some w → w.tone ≠ t) →
        u.toneLevel c = true ∧ u.toneOutput c = some (u.tones.get t 0)) ∧
      (∀ w, (u.player c).wave = some w → w.tone = t →
        u.toneLevel c = w.high ∧ u.toneOutput c = some w.hz ∧
        (w.phase + 2 * w.hz < 1000000 → u.clock.toneLevel c = w.high ∧ u.clock.toneOutput c = some w.hz) ∧
        (1000000 ≤ w.phase + 2 * w.hz →
          u.clock.toneLevel c = !w.high ∧ u.clock.toneOutput c = some (u.tones.get t 0)))) := by
  refine ⟨fun h => ⟨Snu.toneLevel_silent h, Snu.toneOutput_silent h,
    Snu.toneLevel_silent ((u.soundingTone_clock c).trans h)⟩, fun t h => ⟨fun hnew => ?_, fun w hw ht => ?_⟩⟩
  · rw [Snu.toneLevel_sounding h, Snu.toneOutput_sounding h, Snu.waveOf_begun hnew]
    exact ⟨rfl, rfl⟩
  · rw [Snu.toneLevel_sounding h, Snu.toneOutput_sounding h, Snu.toneLevel_clock h, Snu.toneOutput_clock h,
      Snu.waveOf_underWay hw ht]
    refine ⟨rfl, rfl, fun hphase => ?_, fun hphase => ?_⟩
    · rw [Wave.next_within hphase]
      exact ⟨rfl, rfl⟩
    · rw [Wave.next_turned hphase]
      exact ⟨rfl, rfl⟩

/-- Settles O46: the timers, then the steps of a player, the wave, the decision of a channel and the requests. -/
theorem stopTimersAndSoundSteps : Obligations.StopTimersAndSoundSteps := by
  refine ⟨fun s hr ht => ⟨_, exec_refreshTimerExpiry hr ht, rfl, rfl, _, rfl, rfl, rfl⟩,
    fun s hr ht => exec_inhibitTimerExpiry hr ht,
    fun s c x y hx hy => ⟨fun hdue hinner => ?_, fun hdue hlast hx' => ?_, exec_stepEnd_early hx hy⟩,
    fun s y hx hy hdue hlast hrole hjunction haccess _ => ?_,
    fun s c x y hx hy hdue hlast => ⟨?_, ?_, ?_⟩,
    fun s y hx hy hdue hlast hheld hhorn hemergency => ?_, Snu.tone_cases,
    fun u c w k hw hk => ?_, fun u x cover hx hcover => ?_, fun u on => ⟨rfl, rfl, rfl, rfl, rfl⟩⟩
  · rw [exec_stepEnd_due hx hy hdue, State.onSnu, Snu.stepEnd_inner hx hinner]
  · rw [exec_stepEnd_restarts hx hy hdue hlast ?_]
    · rfl
    · rcases hx' with rfl | rfl | rfl | rfl | ⟨rfl, hheld⟩
      case inr.inr.inr.inr => exact .inr ⟨rfl, State.bellHeld_true.2 hheld⟩
      all_goals exact .inl rfl
  · rw [exec_stepEnd_ends (c := .interior) hx hy hdue hlast (.inl rfl), State.onSnu,
      Snu.chime_ends hx hrole hjunction haccess]
  · rintro rfl
    exact exec_stepEnd_ends hx hy hdue hlast (.inl rfl)
  · rintro rfl
    exact exec_stepEnd_ends hx hy hdue hlast (.inl rfl)
  · rintro rfl hheld
    exact exec_stepEnd_ends hx hy hdue hlast (.inr ⟨rfl, State.bellHeld_false.2 hheld⟩)
  · rw [exec_stepEnd_ends (c := .exterior) hx hy hdue hlast (.inr ⟨rfl, State.bellHeld_false.2 hheld⟩),
      State.onSnu, Snu.bell_ends hx hhorn hemergency]
  · have hwinner : w = u.winner c := by rw [hw]; cases c <;> rfl
    subst hwinner hk
    exact ⟨Snu.arbitrate_kept, fun hne => by rw [Snu.arbitrate_new hne, Snu.stopped_eq]⟩
  · have hcovered : cover = u.covered x := by
      rw [hcover, Snu.covered, Bool.and_assoc]
      rfl
    have hevent := sourceKind_event.2 hx
    subst hcovered
    refine ⟨Snu.requestEvent_unmade, fun hr hp => ⟨Snu.requestEvent_covered hevent hr hp, fun h => ?_⟩⟩
    rw [Snu.requestEvent_uncovered hevent hr hp h]
    rcases hx with rfl | rfl <;> rfl

end Sys2Proof.Machine
end

section
/-! SUPPORT. The moves of the Condition Monitor (R160 to R169): what a command or a bit time can do to it is a chain
of them, and each keeps the law of the attributes and the law of the log. -/

namespace Sys2Proof.Machine

variable {c d : Cmn} {x : AttrState}

/-! ### The moves -/

/-- The monitor `d` comes from `c` by entries, by events, by the recovery and the restoration of attributes, by
configuration writes, clears and resets, and by the passing of time. -/
inductive Cmn.MovesTo (c : Cmn) : Cmn → Prop
  | refl : c.MovesTo c
  | note {d : Cmn} (h : c.MovesTo d) (i : LogInfo) : c.MovesTo (d.note i)
  | count {d : Cmn} (h : c.MovesTo d) (a : Attr) : c.MovesTo (d.count a)
  | recover {d : Cmn} (h : c.MovesTo d) (a : Attr) : c.MovesTo (d.recover a)
  | restore {d : Cmn} (h : c.MovesTo d) (a : Attr) : c.MovesTo (d.restore a)
  | writeAttr {d : Cmn} (h : c.MovesTo d) (a : Attr) (g : AttrConfig) : c.MovesTo (d.writeAttr a g)
  | clearAttributes {d : Cmn} (h : c.MovesTo d) : c.MovesTo d.clearAttributes
  | clearLog {d : Cmn} (h : c.MovesTo d) : c.MovesTo d.clearLog
  | setMicros {d : Cmn} (h : c.MovesTo d) (n : Nat) : c.MovesTo { d with micros := n }
  | tick {d : Cmn} (h : c.MovesTo d) : c.MovesTo d.tick
  | powerOn : c.MovesTo Cmn.powerOn

/-! ### The judgements (R163)

A judgement changes the flag or nothing. -/

section

variable {P : Cmn → Prop} {a : Attr}

theorem Cmn.judgeTrip_ind (flip : ∀ up, P (c.setTripped a up)) (h : P c) : P (c.judgeTrip a) := by
  unfold Cmn.judgeTrip
  split
  · exact flip true
  · exact h

theorem Cmn.judgeRecovery_ind (flip : ∀ up, P (c.setTripped a up)) (h : P c) : P (c.judgeRecovery a) := by
  unfold Cmn.judgeRecovery
  split
  · exact flip false
  · exact h

theorem Cmn.judgeAfresh_ind (flip : ∀ up, P (c.setTripped a up)) (h : P c) : P (c.judgeAfresh a) := by
  rw [Cmn.judgeAfresh_eq]
  split
  · exact h
  · exact flip _

theorem Cmn.restore_ind (flip : ∀ up, P ((c.setAttr a { c.attr a with n := 100, recovery := none }).setTripped a up))
    (set : P (c.setAttr a { c.attr a with n := 100, recovery := none })) (h : P c) : P (c.restore a) := by
  unfold Cmn.restore
  split
  · exact h
  · exact Cmn.judgeRecovery_ind flip set

end

/-! ### The log (R166) -/

theorem nextPlace_eq {n : Nat} (h : n ≤ 32) : nextPlace n = n % 32 + 1 := by
  unfold nextPlace
  split <;> omega

/-- The newest entry is the one just appended. -/
theorem FaultLog.back_append_zero (l : FaultLog) (time : Word) (i : LogInfo) (h : l.pointer ≤ 32) :
    ((l.append time i).back 0).isSome = true := by
  have hplace : ((l.append time i).pointer + 31 - 0) % 32 = nextPlace l.pointer - 1 := by
    simp only [FaultLog.append, nextPlace_eq h]
    omega
  rw [FaultLog.back, hplace, FaultLog.append, Tab.get_set_same _ _ _ _ (by rw [nextPlace_eq h]; omega)]
  rfl

/-- An append moves each entry one place further back, but for the oldest of 32, whose place it takes. -/
theorem FaultLog.back_append_succ (l : FaultLog) (time : Word) (i : LogInfo) (h : l.pointer ≤ 32) {k : Nat}
    (hk : k < 31) : (l.append time i).back (k + 1) = l.back k := by
  have hplace : ((l.append time i).pointer + 31 - (k + 1)) % 32 = (l.pointer + 31 - k) % 32 := by
    simp only [FaultLog.append, nextPlace_eq h]
    omega
  rw [FaultLog.back, hplace, FaultLog.append, Tab.get_set_ne _ _ _ _ _ (by rw [nextPlace_eq h]; omega)]
  rfl

theorem FaultLog.append_held (l : FaultLog) (time : Word) (i : LogInfo) (h : l.held ≤ 32) :
    (l.append time i).held = min 32 (l.held + 1) := by
  simp only [FaultLog.append]
  split <;> omega

theorem FaultLog.append_total (l : FaultLog) (time : Word) (i : LogInfo) (h : l.total ≤ 65535) :
    (l.append time i).total = min 65535 (l.total + 1) := by
  simp only [FaultLog.append]
  split <;> omega

theorem Cmn.LogLaw.note (h : c.LogLaw) (i : LogInfo) : (c.note i).LogLaw := by
  obtain ⟨hheld, htotal, htop, hpointer, hempty, hplaces⟩ := h
  have hnext : (c.note i).log.pointer = c.log.pointer % 32 + 1 := nextPlace_eq hpointer
  have hheld' : (c.note i).log.held = min 32 (c.log.held + 1) := c.log.append_held _ _ hheld
  have htotal' : (c.note i).log.total = min 65535 (c.log.total + 1) := c.log.append_total _ _ htop
  refine ⟨by omega, by omega, by omega, by omega, by omega, fun k hk => ?_⟩
  cases k with
  | zero => exact c.log.back_append_zero _ _ hpointer
  | succ k =>
    have hback : (c.note i).log.back (k + 1) = c.log.back k := c.log.back_append_succ _ _ hpointer (by omega)
    rw [hback]
    exact hplaces k (by omega)

theorem Cmn.logLaw_of_empty (h : c.log = FaultLog.empty) : c.LogLaw := by
  rw [Cmn.LogLaw, h]
  exact ⟨by decide, by decide, by decide, by decide, by decide, fun k hk => absurd hk (Nat.not_lt_zero k)⟩

theorem Cmn.MovesTo.logLaw (h : c.MovesTo d) (hc : c.LogLaw) : d.LogLaw := by
  induction h with
  | refl => exact hc
  | note _ i ih => exact ih.note i
  | count _ a ih => exact Cmn.judgeTrip_ind (fun _ => ih.note _) ih
  | recover _ a ih => exact Cmn.judgeRecovery_ind (fun _ => ih.note _) ih
  | restore _ a ih => exact Cmn.restore_ind (fun _ => ih.note _) ih ih
  | writeAttr _ a g ih => exact Cmn.judgeAfresh_ind (fun _ => ih.note _) ih
  | clearAttributes _ ih => exact ih
  | clearLog _ _ => exact Cmn.logLaw_of_empty rfl
  | setMicros _ n ih => exact ih
  | tick _ ih => exact ih
  | powerOn => exact Cmn.logLaw_of_empty rfl

/-! ### The attributes (R160, R164) -/

/-- A normalised value lies in 1..100, the worst no higher than the present one (R160). -/
def AttrState.InBounds (x : AttrState) : Prop := 1 ≤ x.worst ∧ x.worst ≤ x.n ∧ x.n ≤ 100

theorem AttrState.InBounds.fall (h : x.InBounds) (g : AttrConfig) : (x.fall g).InBounds := by
  obtain ⟨hworst, hn, htop⟩ := h
  exact ⟨by simp only [AttrState.fall]; omega, min_le_right _ _, by simp only [AttrState.fall]; omega⟩

theorem AttrState.InBounds.rise (h : x.InBounds) (g : AttrConfig) : (x.rise g).InBounds := by
  obtain ⟨hworst, hn, htop⟩ := h
  exact ⟨hworst, by simp only [AttrState.rise]; omega, min_le_left _ _⟩

theorem AttrState.start_inBounds : AttrState.start.InBounds := by
  unfold AttrState.InBounds
  decide

theorem Cmn.AttributeLaw.attr (h : c.AttributeLaw) (a : Attr) : (c.attr a).InBounds :=
  Tab.get_of_all c.attrs _ _ h.1 AttrState.start_inBounds

theorem Cmn.setAttr_inBounds (h : c.AttributeLaw) (a : Attr) (hx : x.InBounds) :
    ∀ y ∈ (c.setAttr a x).attrs.data, y.InBounds :=
  Tab.all_set c.attrs _ _ h.1 hx

theorem Cmn.tripped_setAttr (a : Attr) (hx : x.tripped = c.tripped a) (k : Attr) :
    (c.setAttr a x).tripped k = c.tripped k := by
  by_cases hk : k = a
  · rw [hk, Cmn.tripped, Cmn.attr_setAttr_same, hx]
  · rw [Cmn.tripped, Cmn.attr_setAttr_ne _ _ hk]
    rfl

/-- One of the attributes written with its flag as it stands leaves the lamp to the same two flags. -/
theorem Cmn.AttributeLaw.setAttr (h : c.AttributeLaw) (a : Attr) (hx : x.InBounds) (ht : x.tripped = c.tripped a) :
    (c.setAttr a x).AttributeLaw := by
  refine ⟨Cmn.setAttr_inBounds h a hx, ?_⟩
  rw [Cmn.tripped_setAttr a ht, Cmn.tripped_setAttr a ht]
  exact h.2

/-- The lamp set again meets its law, whatever it was (R164). -/
theorem Cmn.relamp_attributeLaw (h : ∀ y ∈ c.attrs.data, y.InBounds) : c.relamp.AttributeLaw :=
  ⟨h, Bool.or_eq_true_iff⟩

theorem Cmn.AttributeLaw.setTripped (h : c.AttributeLaw) (a : Attr) (up : Bool) :
    (c.setTripped a up).AttributeLaw :=
  Cmn.relamp_attributeLaw (Cmn.setAttr_inBounds h a (h.attr a))

theorem Cmn.AttributeLaw.count (h : c.AttributeLaw) (a : Attr) : (c.count a).AttributeLaw :=
  have hfallen := h.setAttr a ((h.attr a).fall _) rfl
  Cmn.judgeTrip_ind (hfallen.setTripped a) hfallen

theorem Cmn.AttributeLaw.recover (h : c.AttributeLaw) (a : Attr) : (c.recover a).AttributeLaw :=
  have hrisen := h.setAttr a ((h.attr a).rise _) rfl
  Cmn.judgeRecovery_ind (hrisen.setTripped a) hrisen

theorem Cmn.AttributeLaw.restore (h : c.AttributeLaw) (a : Attr) : (c.restore a).AttributeLaw := by
  obtain ⟨hworst, hn, htop⟩ := h.attr a
  have hbounds : AttrState.InBounds { c.attr a with n := 100, recovery := none } :=
    ⟨hworst, hn.trans htop, le_refl 100⟩
  have hset := h.setAttr a hbounds rfl
  exact Cmn.restore_ind (hset.setTripped a) hset h

theorem Cmn.tick_tripped (c : Cmn) (a : Attr) : c.tick.tripped a = c.tripped a := by
  have hmap := Tab.get_map (fun x => ({ x with recovery := down x.recovery } : AttrState)) c.attrs (attrIndex a)
    AttrState.start
  exact (congrArg AttrState.tripped hmap :)

/-- A millisecond moves the recovery timers alone. -/
theorem Cmn.AttributeLaw.tick (h : c.AttributeLaw) : c.tick.AttributeLaw := by
  refine ⟨fun y hy => ?_, ?_⟩
  · obtain ⟨z, hz, rfl⟩ := List.mem_map.1 hy
    exact h.1 z hz
  · rw [Cmn.tick_tripped, Cmn.tick_tripped]
    exact h.2

theorem Cmn.MovesTo.attributeLaw (h : c.MovesTo d) (hc : c.AttributeLaw) : d.AttributeLaw := by
  induction h with
  | refl => exact hc
  | note _ i ih => exact ih
  | count _ a ih => exact ih.count a
  | recover _ a ih => exact ih.recover a
  | restore _ a ih => exact ih.restore a
  | @writeAttr e _ a g ih =>
    have hwritten : Cmn.AttributeLaw { e with config := e.config.set (attrIndex a) g } := ih
    exact Cmn.judgeAfresh_ind (hwritten.setTripped a) hwritten
  | clearAttributes _ _ => exact State.reset_fresh.attributeLaw
  | clearLog _ ih => exact ih
  | setMicros _ n ih => exact ih
  | tick _ ih => exact ih.tick
  | powerOn => exact State.reset_fresh.attributeLaw

end Sys2Proof.Machine
end

section
/-! SUPPORT. The moves of the Condition Monitor through the operations of the units: each leaves the monitor a chain of
moves from wherever it stood, by entries, events and the restoration of LOOP_LINK alone (R162, R166). -/

namespace Sys2Proof.Machine

/-- The monitor of `s` comes from `c` by a chain of moves. -/
def State.MonitorFrom (s : State) (c : Cmn) : Prop := c.MovesTo s.cmn

variable {c : Cmn} {s t : State}

theorem State.MonitorFrom.of_cmn (h : s.MonitorFrom c) (hcmn : t.cmn = s.cmn) : t.MonitorFrom c := by
  rw [State.MonitorFrom, hcmn]
  exact h

theorem State.MonitorFrom.ite {q : Prop} [Decidable q] (ht : t.MonitorFrom c) (hs : s.MonitorFrom c) :
    (if q then t else s).MonitorFrom c := by
  split
  · exact ht
  · exact hs

/-- Operations one after another, each a chain of moves. -/
theorem State.MonitorFrom.foldl {α : Type} {f : State → α → State}
    (hf : ∀ (u : State) (x : α), u.MonitorFrom c → (f u x).MonitorFrom c) (l : List α) (h : s.MonitorFrom c) :
    (l.foldl f s).MonitorFrom c :=
  List.foldlRecOn (motive := fun u : State => u.MonitorFrom c) l f h fun u hu x _ => hf u x hu

section

variable (h : s.MonitorFrom c)
include h

/-! ### A change of one unit -/

theorem State.MonitorFrom.onFsw (f : Fsw → Fsw) : (s.onFsw f).MonitorFrom c := h

theorem State.MonitorFrom.onBqm (f : Bqm → Bqm) : (s.onBqm f).MonitorFrom c := h

theorem State.MonitorFrom.onCru (f : Cru → Cru) : (s.onCru f).MonitorFrom c := h

theorem State.MonitorFrom.onCiu (f : Ciu → Ciu) : (s.onCiu f).MonitorFrom c := h

theorem State.MonitorFrom.onTdu (f : Tdu → Tdu) : (s.onTdu f).MonitorFrom c := h

theorem State.MonitorFrom.onLlu (f : Llu → Llu) : (s.onLlu f).MonitorFrom c := h

theorem State.MonitorFrom.onJcu (f : Jcu → Jcu) : (s.onJcu f).MonitorFrom c := h

theorem State.MonitorFrom.onSru (f : Sru → Sru) : (s.onSru f).MonitorFrom c := h

theorem State.MonitorFrom.onSnu (f : Snu → Snu) : (s.onSnu f).MonitorFrom c := h

theorem State.MonitorFrom.onMgu (f : Mgu → Mgu) : (s.onMgu f).MonitorFrom c := h

theorem State.MonitorFrom.onPort (p : Port) (f : LinePort → LinePort) : (s.onPort p f).MonitorFrom c := h

theorem State.MonitorFrom.setRx (p : Port) (x : RxState) : (s.setRx p x).MonitorFrom c := h

theorem State.MonitorFrom.log (i : LogInfo) : (s.log i).MonitorFrom c := h.note i

theorem State.MonitorFrom.count (a : Attr) : (s.count a).MonitorFrom c := Cmn.MovesTo.count h a

/-! ### Queues and own frames (R43, R46, R50, R51, R53) -/

theorem State.MonitorFrom.enqueue (p : Port) (priority b : Nat) : (s.enqueue p priority b).MonitorFrom c := by
  unfold State.enqueue
  dsimp only
  split
  · exact h.onBqm _
  · exact h.onBqm _
  · exact (h.onBqm _).count _

theorem State.MonitorFrom.offerAt (x : Both Bool) (priority b : Nat) : (s.offerAt x priority b).MonitorFrom c := by
  have hA : (if x.a then s.enqueue .A priority b else s).MonitorFrom c := .ite (h.enqueue _ _ _) h
  exact .ite (hA.enqueue _ _ _) hA

theorem State.MonitorFrom.ownFailure : s.ownFailure.MonitorFrom c := (h.onBqm _).count _

theorem State.MonitorFrom.sendOwn (priority : Nat) (f : Frame) : (s.sendOwn priority f).MonitorFrom c := by
  unfold State.sendOwn
  split
  · exact h.ownFailure
  · exact ((h.onBqm _).offerAt _ _ _).onBqm _

theorem State.MonitorFrom.deliver (b : Nat) : (s.deliver b).MonitorFrom c := .ite (h.onBqm _) ((h.onBqm _).count _)

theorem State.MonitorFrom.offerTail (p : Port) (b : Nat) : (s.offerTail p b).MonitorFrom c :=
  (h.enqueue _ _ _).onBqm _

theorem State.MonitorFrom.slotInPlace (p : Port) (b : Nat) : (s.slotInPlace p b).MonitorFrom c := by
  unfold State.slotInPlace
  split
  · exact h
  · exact h.offerTail p b

theorem State.MonitorFrom.slotNew (p : Port) (b : Nat) : (s.slotNew p b).MonitorFrom c := by
  unfold State.slotNew
  split
  · exact h.onBqm _
  · exact h.offerTail p b

theorem State.MonitorFrom.offerDemand (f : Frame) (d : Int) : (s.offerDemand f d).MonitorFrom c := by
  unfold State.offerDemand
  split
  · exact ((h.onBqm _).slotInPlace _ _).slotInPlace _ _
  · split
    · exact (h.log _).ownFailure
    · exact (((h.onBqm _).slotNew _ _).slotNew _ _).onBqm _

/-! ### The line ports (R4 to R19) -/

theorem State.MonitorFrom.settleReset : s.settleReset.MonitorFrom c := by
  unfold State.settleReset
  split
  · exact h
  · exact .ite h (.ite (h.of_cmn (by simp)) (State.MonitorFrom.log (h.of_cmn (by simp)) _))

theorem State.MonitorFrom.releaseReception (p : Port) : (s.releaseReception p).MonitorFrom c := h.of_cmn (by simp)

theorem State.MonitorFrom.lineError (p : Port) (latch : Latches → Latches) (after : RxState) :
    (s.lineError p latch after).MonitorFrom c :=
  (((h.releaseReception p).setRx p _).onPort p _).count _

theorem State.MonitorFrom.enterDisabled (p : Port) : (s.enterDisabled p).MonitorFrom c := by
  have hdown : (s.downByDisable p).MonitorFrom c := .ite h ((((h.releaseReception p).setRx p _).onFsw _).log _)
  exact (hdown.onPort p _).onBqm _

theorem State.MonitorFrom.exitRemote (p : Port) (cause : Int) : (s.exitRemote p cause).MonitorFrom c :=
  ((h.onBqm _).onPort p _).log _

theorem State.MonitorFrom.leaveMode (p : Port) (cause : Int) : (s.leaveMode p cause).MonitorFrom c := by
  unfold State.leaveMode
  split
  · exact h
  · exact h.of_cmn (by simp)
  · exact h.exitRemote p cause
  · exact h.of_cmn (by simp)

theorem State.MonitorFrom.enterMode (p : Port) (m : PortMode) : (s.enterMode p m).MonitorFrom c := by
  cases m with
  | normal => exact h
  | localLoopback | remoteLoopback => exact h.of_cmn (by simp [State.enterMode])
  | disabled => exact h.enterDisabled p

theorem State.MonitorFrom.changeMode (p : Port) (m : PortMode) : (s.changeMode p m).MonitorFrom c :=
  .ite h ((h.leaveMode p 2).enterMode p m)

theorem State.MonitorFrom.setLoopCode (p : Port) (x : LoopCode) : (s.setLoopCode p x).MonitorFrom c :=
  State.MonitorFrom.onPort (.ite (h.exitRemote p 2) h) p _

theorem State.MonitorFrom.unloop (p : Port) (cause : Int) : (s.unloop p cause).MonitorFrom c := by
  unfold State.unloop
  split
  · exact h.of_cmn (by simp)
  · exact h.exitRemote p cause
  · exact h

theorem State.MonitorFrom.unloopBoth (cause : Int) : (s.unloopBoth cause).MonitorFrom c :=
  (h.unloop .A cause).unloop .B cause

theorem State.MonitorFrom.goDown (p : Port) : (s.goDown p).MonitorFrom c := by
  have hdown := ((((h.releaseReception p).setRx p .down).onPort p fun u =>
    { u with latches := { u.latches with downSeen := true }
             discarded := if (s.port p).inFrame then bump u.discarded else u.discarded }).onFsw
      fun w => w.forget p).log (portEntry .portDown p)
  exact .ite (hdown.count _) hdown

/-! ### A frame received (R6 to R8, R16, R29, R30) -/

theorem State.MonitorFrom.ownSourceSeen (p : Port) : (s.ownSourceSeen p).MonitorFrom c :=
  .ite (h.onFsw _) (((h.onFsw _).onFsw _).log _)

theorem State.MonitorFrom.handOn (p : Port) (b : Nat) (f : Frame) (localCopy forward : Bool) :
    (s.handOn p b f localCopy forward).MonitorFrom c := by
  cases localCopy <;> cases forward
  · exact h.onFsw _
  · exact (h.onBqm _).enqueue _ _ _
  · exact h.deliver b
  · exact ((h.onBqm _).deliver b).enqueue _ _ _

theorem State.MonitorFrom.classify (p : Port) (b : Nat) (f : Frame) : (s.classify p b f).MonitorFrom c := by
  unfold State.classify
  refine State.MonitorFrom.onBqm ?_ _
  split
  · exact h.ownSourceSeen p
  · exact h.onFsw _
  · exact h.onFsw _
  · dsimp only
    split
    · exact (h.onFsw _).handOn _ _ _ _ _
    · exact (h.onFsw _).onFsw _

theorem State.MonitorFrom.startFrame (p : Port) : (s.startFrame p).MonitorFrom c := by
  refine .ite ?_ (((h.setRx p _).onPort p _).count _)
  split
  · exact (h.onBqm _).setRx p _
  · exact h

theorem State.MonitorFrom.returnFrame (p : Port) (b : Nat) : (s.returnFrame p b).MonitorFrom c :=
  .ite (h.onPort p _) (((h.onBqm _).onPort p _).count _)

theorem State.MonitorFrom.dispose (p : Port) (b : Nat) (f : Frame) : (s.dispose p b f).MonitorFrom c := by
  unfold State.dispose
  split
  · exact h.classify p b f
  · exact .ite (h.onBqm _) (h.classify p b f)
  · exact h.returnFrame p b
  · exact h.onBqm _

theorem State.MonitorFrom.endFrame (p : Port) (b : Nat) (f : Frame) : (s.endFrame p b f).MonitorFrom c :=
  .ite ((((h.onBqm _).setRx p _).onPort p _).dispose p b f) ((h.onBqm _).lineError p _ _)

/-! ### The demand and the inverters (R79 to R103) -/

theorem State.MonitorFrom.emitDemand (d : Int) (g : DemandFlags) (x : Int) : (s.emitDemand d g x).MonitorFrom c :=
  .ite ((h.offerDemand _ _).onTdu _) (h.offerDemand _ _)

theorem State.MonitorFrom.brake (cause : Int) : (s.brake cause).MonitorFrom c := ((h.onTdu _).log _).onSnu _

theorem State.MonitorFrom.emergency (cause : Int) : (s.emergency cause).MonitorFrom c :=
  (h.brake cause).emitDemand _ _ _

theorem State.MonitorFrom.tractionStart : s.tractionStart.MonitorFrom c :=
  .ite h (.ite ((h.onTdu _).brake 3) (h.onTdu _))

theorem State.MonitorFrom.writeSlot (i : Nat) (x : Slot) : (s.writeSlot i x).MonitorFrom c :=
  .ite ((h.onTdu _).count _) (h.onTdu _)

theorem State.MonitorFrom.placeReport (x : Slot) : (s.placeReport x).MonitorFrom c := by
  unfold State.placeReport
  split
  · exact h.writeSlot _ x
  · split
    · exact h.writeSlot _ x
    · exact .ite h ((h.onTdu _).log _)

theorem State.MonitorFrom.inverterStatus (f : Frame) : (s.inverterStatus f).MonitorFrom c := by
  unfold State.inverterStatus
  split
  · exact h.onTdu _
  · exact h.placeReport _

theorem State.MonitorFrom.findSpeed : s.findSpeed.MonitorFrom c := .ite ((h.onTdu _).count _) (h.onTdu _)

theorem State.MonitorFrom.drivePeriod (q : Profile) (dh x : Int) : (s.drivePeriod q dh x).MonitorFrom c := by
  have hslip (y : Bool) : (s.slipOnset y).MonitorFrom c := .ite (h.count _) h
  exact ((hslip _).onTdu _).emitDemand _ _ _

theorem State.MonitorFrom.brakePeriod (dh x : Int) : (s.brakePeriod dh x).MonitorFrom c := by
  have hdrawn : s.draw.MonitorFrom c := h
  exact (hdrawn.onTdu _).emitDemand _ _ _

theorem State.MonitorFrom.computeDemand (q : Profile) : (s.computeDemand q).MonitorFrom c := by
  have hleft (dh : Int) : (s.drawHandle.leaveEmergency dh).MonitorFrom c := h.of_cmn (by simp)
  exact .ite ((hleft _).brakePeriod _ _) ((hleft _).drivePeriod _ _ _)

/-! ### The stop record (R142 to R147) -/

theorem State.MonitorFrom.indicate : s.indicate.MonitorFrom c := .ite ((h.sendOwn _ _).onSru _) (h.sendOwn _ _)

theorem State.MonitorFrom.indicateRequested : s.indicateRequested.MonitorFrom c := h.indicate.onSru _

theorem State.MonitorFrom.validPress (door : Nat) (accessible : Bool) :
    (s.validPress door accessible).MonitorFrom c := by
  unfold State.validPress
  split
  · exact (h.onSru _).indicateRequested.onSnu _
  · exact .ite ((h.onSru _).onSnu _).indicateRequested (h.onSru _)
  · exact h.onSru _

theorem State.MonitorFrom.stopPressTaken (f : Frame) : (s.stopPressTaken f).MonitorFrom c := by
  unfold State.stopPressTaken
  refine .ite h ?_
  split
  · exact h.onSru _
  · exact .ite (h.count _) (h.validPress _ _)

theorem State.MonitorFrom.serve : s.serve.MonitorFrom c := (h.onSru _).indicate

theorem State.MonitorFrom.doorChange (on : Bool) : (s.doorChange on).MonitorFrom c := by
  unfold State.doorChange
  refine .ite h ?_
  split
  · exact h
  · exact h.serve
  · exact (h.onSru _).indicate
  · exact h

theorem State.MonitorFrom.stopStart : s.stopStart.MonitorFrom c := .ite (h.onSru _).serve (h.onSru _)

theorem State.MonitorFrom.stopEnd : s.stopEnd.MonitorFrom c := .ite (h.onSru _) ((h.onSru _).indicate.onSru _)

/-! ### The junctions (R122 to R138) -/

theorem State.MonitorFrom.ctxTo (x : Ctx) (f : Ctx → Ctx) : (s.ctxTo x f).MonitorFrom c := h.of_cmn (by simp)

theorem State.MonitorFrom.judgeJunctions : s.judgeJunctions.MonitorFrom c := h.of_cmn (by simp)

theorem State.MonitorFrom.createCtx (j : Nat) : (s.createCtx j).MonitorFrom c := by
  unfold State.createCtx
  split
  · exact State.MonitorFrom.log (h.of_cmn (by simp)) _
  · split
    · exact h.of_cmn (by simp)
    · split <;> exact h.of_cmn (by simp)

theorem State.MonitorFrom.toMismatch (x : Ctx) (cause : Int) : (s.toMismatch x cause).MonitorFrom c :=
  .ite h ((h.ctxTo x _).log _)

theorem State.MonitorFrom.statusUpdate (j : Nat) (st : PointStatus) (locked : Nat) :
    (s.statusUpdate j st locked).MonitorFrom c := by
  unfold State.statusUpdate
  split
  · exact h
  · refine .ite h ?_
    dsimp only
    split
    · exact h.onJcu _
    · exact h.onJcu _
    · exact (h.onJcu _).toMismatch _ 2
    · exact .ite (h.onJcu _) (.ite ((h.onJcu _).ctxTo _ _) ((h.onJcu _).toMismatch _ 1))

theorem State.MonitorFrom.contextFull (j : Nat) : (s.contextFull j).MonitorFrom c :=
  .ite h ((h.onJcu _).judgeJunctions.log _)

theorem State.MonitorFrom.requestIdent (j : Nat) (st : PointStatus) (locked : Nat) :
    (s.requestIdent j st locked).MonitorFrom c :=
  .ite ((h.onJcu _).statusUpdate j st locked)
    (.ite ((h.onJcu _).contextFull j) (((h.onJcu _).createCtx j).statusUpdate j st locked))

theorem State.MonitorFrom.pointReply (j run : Nat) (r : ReplyResult) : (s.pointReply j run r).MonitorFrom c := by
  unfold State.pointReply
  split
  · exact h.onJcu _
  · split
    · exact .ite (h.ctxTo _ _) h
    · exact .ite ((h.ctxTo _ _).log _) h

theorem State.MonitorFrom.toUnanswered (x : Ctx) : (s.toUnanswered x).MonitorFrom c :=
  ((h.ctxTo x _).log _).count _

theorem State.MonitorFrom.retryExpiry (x : Ctx) : (s.retryExpiry x).MonitorFrom c := by
  unfold State.retryExpiry
  split
  · exact h
  · exact .ite (h.of_cmn (by simp)) (h.toUnanswered x)

theorem State.MonitorFrom.closeCtx (x : Ctx) (entry : Option LogInfo) : (s.closeCtx x entry).MonitorFrom c := by
  unfold State.closeCtx
  dsimp only
  split
  · exact ((h.onJcu _).onLlu _).judgeJunctions.log _
  · exact ((h.onJcu _).onLlu _).judgeJunctions

theorem State.MonitorFrom.judgeClosures : s.judgeClosures.MonitorFrom c := by
  refine .ite (.foldl (fun u x hu => ?_) _ h) h
  unfold State.judgeClosure
  split
  · exact hu.closeCtx x _
  · exact hu

theorem State.MonitorFrom.routePress (d : Direction) : (s.routePress d).MonitorFrom c := by
  unfold State.routePress
  refine .ite h ?_
  split
  · exact .ite (h.log _) (h.of_cmn (by simp))
  · exact h.onJcu _

/-! ### The loop (R110, R111, R115, R129) -/

/-- A test passed restores LOOP_LINK, and one failed counts on it (R115, R162). -/
theorem State.MonitorFrom.testResult : s.testResult.MonitorFrom c := by
  unfold State.testResult
  split
  · exact h
  · exact .ite (Cmn.MovesTo.restore ((h.onLlu _).log _) .loopLink) (((h.onLlu _).log _).count _)

theorem State.MonitorFrom.endListening : s.endListening.MonitorFrom c := by
  have hlost : (s.onLlu Llu.stopListening).carrierLost.MonitorFrom c :=
    .foldl (fun _ x hu => .ite (hu.toUnanswered x) hu) _ (h.onLlu _)
  exact hlost.testResult

theorem State.MonitorFrom.acceptTelegram (m : Telegram) : (s.acceptTelegram m).MonitorFrom c := by
  unfold State.acceptTelegram
  split
  · exact h.onLlu _
  · exact h.requestIdent _ _ _
  · exact h.of_cmn (by simp)
  · exact h.onLlu _
  · exact h.pointReply _ _ _

theorem State.MonitorFrom.endTelegram (m : Telegram) : (s.endTelegram m).MonitorFrom c :=
  .ite ((h.onLlu _).acceptTelegram m) ((h.onLlu _).count _)

/-! ### A change of role (R58 to R69) -/

theorem State.MonitorFrom.sendAnnounce : s.sendAnnounce.MonitorFrom c := by
  unfold State.sendAnnounce
  split
  · exact h
  · exact .ite ((h.sendOwn _ _).onCru _) (h.sendOwn _ _)

theorem State.MonitorFrom.departFrom (old new : Role) : (s.departFrom old new).MonitorFrom c := by
  cases old with
  | inactive => exact h.unloopBoth 4
  | active =>
    have hended : s.junctionEnd.stopEnd.MonitorFrom c := .stopEnd (h.of_cmn (by simp))
    have hleft : (if new = .conflict then s.junctionEnd.stopEnd.tractionHold
        else s.junctionEnd.stopEnd.tractionOff).MonitorFrom c :=
      .ite (hended.of_cmn (by simp)) (hended.of_cmn (by simp))
    exact hleft.of_cmn (by simp [State.departFrom])
  | conflict => exact .ite h (h.of_cmn (by simp))
  | passive | claiming | blocked => exact h

theorem State.MonitorFrom.arriveActive (old : Role) : (s.arriveActive old).MonitorFrom c := by
  have hstarted : s.junctionStart.stopStart.MonitorFrom c := .stopStart (h.of_cmn (by simp))
  have hdriven : (if old = .conflict then s.junctionStart.stopStart.tractionRun
      else s.junctionStart.stopStart.tractionStart).MonitorFrom c :=
    .ite (hstarted.of_cmn (by simp)) hstarted.tractionStart
  exact hdriven.of_cmn (by simp [State.arriveActive])

theorem State.MonitorFrom.setRole (r : Role) : (s.setRole r).MonitorFrom c := by
  have hdeparted := (h.onCru fun u => u.enter r).departFrom s.cru.role r
  exact (State.MonitorFrom.onSnu (.ite (hdeparted.arriveActive _) hdeparted) _).sendAnnounce

theorem State.MonitorFrom.roleByTable : s.roleByTable.MonitorFrom c := h.setRole _

theorem State.MonitorFrom.keyOffMoving (cause : Int) : (s.keyOffMoving cause).MonitorFrom c := (h.log _).roleByTable

/-! ### The key (R62 to R68) -/

theorem State.MonitorFrom.takeKeyOn : s.takeKeyOn.MonitorFrom c := .ite (h.setRole _) (h.setRole _)

theorem State.MonitorFrom.keyOnIdle : s.keyOnIdle.MonitorFrom c :=
  .ite ((h.unloopBoth 3).onCru _).takeKeyOn ((((h.unloopBoth 3).onCru _).log _).onCru _)

theorem State.MonitorFrom.keyTurnsOn : s.keyTurnsOn.MonitorFrom c := by
  unfold State.keyTurnsOn
  split
  · exact h.keyOnIdle
  · exact h.keyOnIdle
  · exact .ite (h.of_cmn (by simp)) h
  · exact h

theorem State.MonitorFrom.keyTurnsOff : s.keyTurnsOff.MonitorFrom c := by
  unfold State.keyTurnsOff
  split
  · exact h.onCru _
  · exact h.onCru _
  · exact .ite h (.ite h.roleByTable (h.of_cmn (by simp)))
  · exact h.roleByTable

theorem State.MonitorFrom.keyChange (on : Bool) : (s.keyChange on).MonitorFrom c :=
  .ite h (.ite h.keyTurnsOn h.keyTurnsOff)

/-! ### The Cab Table (R60, R61, R65) -/

theorem State.MonitorFrom.followTable : s.followTable.MonitorFrom c := .ite h h.roleByTable

theorem State.MonitorFrom.followConflict : s.followConflict.MonitorFrom c := .ite h (h.setRole _)

theorem State.MonitorFrom.roleOnAnnounce (a : Addr) (r : Announced) : (s.roleOnAnnounce a r).MonitorFrom c := by
  have hmet : (s.meetCommand a).MonitorFrom c := .ite (h.log _).roleByTable ((h.log _).setRole _)
  unfold State.roleOnAnnounce
  split
  · exact h.followTable
  · exact h.followTable
  · exact .ite (h.setRole _) h
  · exact .ite h hmet
  · exact h.onCru _
  · exact h.followConflict

theorem State.MonitorFrom.takeAnnounce (f : Frame) : (s.takeAnnounce f).MonitorFrom c := by
  unfold State.takeAnnounce
  dsimp only
  split
  · exact h.onCru _
  · exact .ite (.ite h ((h.onCru _).log _)) ((h.onCru _).roleOnAnnounce _ _)

theorem State.MonitorFrom.roleOnRemoval : s.roleOnRemoval.MonitorFrom c := by
  unfold State.roleOnRemoval
  split
  · exact h.followTable
  · exact h.onCru _
  · exact h.followConflict
  · exact h

/-! ### The inputs, the handle and the demand period (R73 to R76, R95) -/

theorem State.MonitorFrom.takeSample (n : Nat) : (s.takeSample n).MonitorFrom c :=
  .ite (((h.onCiu _).onCiu _).log _) (h.onCiu _)

theorem State.MonitorFrom.deliverChange (i : Input) (level : Bool) : (s.deliverChange i level).MonitorFrom c := by
  cases i with
  | key => exact (h.keyChange level).onSnu _
  | deadman => exact h.of_cmn (by simp [State.deliverChange])
  | estop => exact .ite (h.emergency 1) h
  | doorRelease => exact h.doorChange level
  | horn => exact h.onSnu _
  | bell => exact .ite (h.onSnu _) h
  | routeLeft | routeStraight | routeRight => exact .ite (h.routePress _) h

theorem State.MonitorFrom.releasingFinding : s.releasingFinding.MonitorFrom c :=
  .ite h (.ite (h.keyOffMoving 1) (h.onCru _))

theorem State.MonitorFrom.period : s.period.MonitorFrom c := by
  have hcomputed := (h.onTdu fun u => { u with periodTimer := some 20 }).findSpeed.judgeClosures.computeDemand
    (s.tdu.live.getD s.tdu.shadow)
  exact State.MonitorFrom.releasingFinding (hcomputed.of_cmn (by simp))

end

end Sys2Proof.Machine
end

section
/-! SUPPORT. The moves of the Condition Monitor through every command and every bit time, with the statement that every
step keeps the laws of the attributes, of the lamp and of the log (R160, R164, R166). -/

namespace Sys2Proof.Machine

variable {c : Cmn} {s : State}

/-! ### The commands that take a CONTROL frame -/

/-- An action of the Management Unit leaves the monitor a chain of moves from wherever it stood. -/
def Act.MovesMonitor (act : Act) : Prop :=
  ∀ (c : Cmn) (t : State) (f : Frame), t.MonitorFrom c → (act t f).1.MonitorFrom c

/-- An action that leaves the monitor as it is. -/
theorem Act.MovesMonitor.of_cmn {act : Act} (h : ∀ t f, (act t f).1.cmn = t.cmn) : act.MovesMonitor :=
  fun _ t f ht => ht.of_cmn (h t f)

theorem State.MonitorFrom.reply (h : s.MonitorFrom c) (f : Frame) (a : Answer) : (s.reply f a).MonitorFrom c := by
  have hmarked : (s.mark f).MonitorFrom c := h.of_cmn (by simp)
  exact (hmarked.sendOwn priorityReply (s.replyFrame f a)).of_cmn (by simp [State.reply])

theorem State.MonitorFrom.control {row : Instr} {act : Act} (acts : act.MovesMonitor) (h : s.MonitorFrom c) :
    (s.control row act).MonitorFrom c :=
  State.control_ind (P := fun u => u.MonitorFrom c) (fun _ hu => hu.of_cmn (by simp)) (acts c)
    (fun _ _ hu => hu.onMgu _) (fun _ f a hu => hu.reply f a) (fun _ _ hu => hu.of_cmn (by simp))
    (fun _ hu => hu.settleReset) h

/-- A table write moves the monitor as the write of one entry does (R171). -/
theorem writeEntries_movesMonitor {α : Type} {lo hi size : Nat} {parse : Nat → List Byte → Option (Taken α)}
    {put : State → Nat → α → State}
    (puts : ∀ (c : Cmn) (t : State) (i : Nat) (x : α), t.MonitorFrom c → (put t i x).MonitorFrom c) :
    Act.MovesMonitor fun t f => t.writeEntries lo hi size f.payload parse put :=
  fun c _ _ ht => State.writeEntries_ind (P := fun u => u.MonitorFrom c) (puts c) ht

theorem writeRoute_movesMonitor : Act.MovesMonitor fun t f => t.writeRoute f.payload :=
  fun c _ _ ht => State.writeRoute_ind (P := fun u => u.MonitorFrom c) (fun _ _ _ hu => hu.onJcu _)
    (fun _ _ _ hu => hu.onJcu _) ht

theorem writePattern_movesMonitor : Act.MovesMonitor fun t f => t.writePattern f.payload :=
  fun c _ _ ht => State.writePattern_ind (P := fun u => u.MonitorFrom c) (fun _ _ _ hu => hu.onSnu _) ht

theorem setMode_movesMonitor (m : PortMode) : (setMode m).MovesMonitor := by
  intro c t f ht
  unfold setMode
  split
  · exact ht
  · split
    · exact ht
    · exact ht.changeMode _ m

theorem setCode_movesMonitor (x : LoopCode) : (setCode x).MovesMonitor := by
  intro c t f ht
  unfold setCode
  split
  · exact ht
  · exact ht.setLoopCode _ x

theorem commitRoute_movesMonitor : commitRoute.MovesMonitor := by
  refine Act.MovesMonitor.of_cmn fun t f => ?_
  unfold commitRoute
  dsimp only
  split <;> rfl

/-- A PROFILE made live takes the key-on that waited for one (R62, R94). -/
theorem commitProfile_movesMonitor : commitProfile.MovesMonitor := by
  intro c t f ht
  unfold commitProfile
  dsimp only
  split
  · exact ht
  · split
    · exact ht
    · exact .ite (ht.onTdu _).takeKeyOn (ht.onTdu _)

theorem noRow_movesMonitor : noRow.MovesMonitor := by
  refine Act.MovesMonitor.of_cmn fun t f => ?_
  unfold noRow
  split <;> rfl

theorem setManager_movesMonitor : setManager.MovesMonitor := by
  refine Act.MovesMonitor.of_cmn fun t f => ?_
  unfold setManager
  dsimp only
  split <;> rfl

theorem preselect_movesMonitor : preselect.MovesMonitor := by
  intro c t f ht
  unfold preselect
  split
  · exact ht
  · split
    · exact ht
    · exact ht.routePress _

theorem resetPart_movesMonitor : resetPart.MovesMonitor := by
  refine Act.MovesMonitor.of_cmn fun t f => ?_
  unfold resetPart
  split <;> rfl

theorem exec_control_monitorFrom {i : Instr} (hi : i ∈ controlRows) (h : s.MonitorFrom c) :
    ∃ t, exec i s = .next t ∧ t.MonitorFrom c := by
  cases i
  case unknownCommand => exact ⟨_, rfl, h.control noRow_movesMonitor⟩
  case readTable | readState | readLog => exact ⟨_, rfl, h.control fun _ _ _ ht => ht⟩
  case writeAttributeConfig =>
    exact ⟨_, rfl, h.control (writeEntries_movesMonitor fun _ _ i g ht => Cmn.MovesTo.writeAttr ht (attrOf i) g)⟩
  case writePortConfig =>
    exact ⟨_, rfl, h.control (writeEntries_movesMonitor fun _ _ _ _ ht => ht.of_cmn (by simp))⟩
  case writeNode | writeClass | writeTagMap | writeWeights | writeQueueMap | writeProfile | writeTone |
      writeSoundMap =>
    exact ⟨_, rfl, h.control (writeEntries_movesMonitor fun _ _ _ _ ht => ht.of_cmn rfl)⟩
  case writeRoute => exact ⟨_, rfl, h.control writeRoute_movesMonitor⟩
  case writePattern => exact ⟨_, rfl, h.control writePattern_movesMonitor⟩
  case commitRoute => exact ⟨_, rfl, h.control commitRoute_movesMonitor⟩
  case commitProfile => exact ⟨_, rfl, h.control commitProfile_movesMonitor⟩
  case clearLog => exact ⟨_, rfl, h.control fun _ _ _ ht => Cmn.MovesTo.clearLog ht⟩
  case clearAttributes => exact ⟨_, rfl, h.control fun _ _ _ ht => Cmn.MovesTo.clearAttributes ht⟩
  case clearLatches | clearCounters => exact ⟨_, rfl, h.control fun _ _ _ ht => ht.of_cmn rfl⟩
  case setNormal | setLocalLoopback | setRemoteLoopback | setDisabled =>
    exact ⟨_, rfl, h.control (setMode_movesMonitor _)⟩
  case sendLoopup | sendLoopdown | stopLoopcode => exact ⟨_, rfl, h.control (setCode_movesMonitor _)⟩
  case setManager => exact ⟨_, rfl, h.control setManager_movesMonitor⟩
  case setReport => exact ⟨_, rfl, h.control fun _ _ _ ht => ht.onMgu _⟩
  case preselect => exact ⟨_, rfl, h.control preselect_movesMonitor⟩
  case resetPart => exact ⟨_, rfl, h.control resetPart_movesMonitor⟩
  all_goals simp [controlRows] at hi

/-! ### The commands without a CONTROL frame -/

theorem State.MonitorFrom.consume {kind : Byte} {act : State → Frame → State}
    (acts : ∀ (t : State) (f : Frame), t.MonitorFrom c → (act t f).MonitorFrom c) (h : s.MonitorFrom c) :
    (s.consume kind act).MonitorFrom c :=
  State.consume_ind (P := fun u => u.MonitorFrom c) (fun _ hu => hu.of_cmn (by simp)) acts
    (fun _ _ hu => hu.of_cmn (by simp)) h

theorem State.MonitorFrom.sendReport (h : s.MonitorFrom c) : s.sendReport.MonitorFrom c :=
  .ite ((h.sendOwn _ _).onMgu _) (h.sendOwn _ _)

theorem exec_event_monitorFrom {i : Instr} (hr : i ∉ controlRows) (h : s.MonitorFrom c) :
    ∃ t, exec i s = .next t ∧ t.MonitorFrom c := by
  cases i
  case powerOnReset straps => exact ⟨_, rfl, Cmn.MovesTo.powerOn⟩
  case frameStart p => exact ⟨_, rfl, .ite (h.startFrame p) h⟩
  case frameEnd p f =>
    refine ⟨_, rfl, ?_⟩
    split
    · exact .ite (h.endFrame p _ f) h
    · exact h
  case lengthError p | syncLoss p => exact ⟨_, rfl, .ite (h.lineError p _ _) h⟩
  case receiverDown p => exact ⟨_, rfl, .ite (h.goDown p) h⟩
  case receiverUp p => exact ⟨_, rfl, .ite ((h.setRx p _).log _) h⟩
  case autoloopEnter p =>
    have hentered : (s.enterRemote p).MonitorFrom c := h.of_cmn (by simp)
    exact ⟨_, rfl, .ite (hentered.log _).settleReset h⟩
  case autoloopExit p => exact ⟨_, rfl, .ite (h.exitRemote p 1) h⟩
  case frameSent p =>
    refine ⟨_, rfl, ?_⟩
    split
    · next b _ =>
      have hsent : (s.completeFrame p b).MonitorFrom c := (h.onPort p _).onBqm _
      exact State.MonitorFrom.onPort (hsent.settleReset.of_cmn (by simp)) p _
    · exact h
  case takeCabAnnounce => exact ⟨_, rfl, h.consume fun _ f ht => ht.takeAnnounce f⟩
  case takeInverterStatus => exact ⟨_, rfl, h.consume fun _ f ht => ht.inverterStatus f⟩
  case takeStopPress => exact ⟨_, rfl, h.consume fun _ f ht => ht.stopPressTaken f⟩
  case announceTimerExpiry => exact ⟨_, rfl, .ite (h.onCru _).sendAnnounce h⟩
  case claimWindowExpiry | clearTimerExpiry => exact ⟨_, rfl, .ite (h.setRole _) h⟩
  case cabEntryTimeout => exact ⟨_, rfl, .ite (h.onCru _).roleOnRemoval h⟩
  case releasingTimerExpiry => exact ⟨_, rfl, .ite (h.keyOffMoving 2) h⟩
  case debouncedChange i level => exact ⟨_, rfl, .ite ((h.onCiu _).deliverChange i level) h⟩
  case graceTimerExpiry => exact ⟨_, rfl, .ite ((h.log _).emergency 2) h⟩
  case handleSample x => exact ⟨_, rfl, h.takeSample x.toNat⟩
  case handleFault x => exact ⟨_, rfl, .ite (h.takeSample x.toNat) h⟩
  case demandPeriod => exact ⟨_, rfl, .ite h.period h⟩
  case carrierGain => exact ⟨_, rfl, .ite (.ite ((h.onLlu _).onLlu _) (h.onLlu _)) h⟩
  case carrierLoss => exact ⟨_, rfl, .ite (.ite (h.onLlu _).endListening (h.onLlu _)) h⟩
  case loopLengthError => exact ⟨_, rfl, .ite ((h.onLlu _).count _) h⟩
  case telegramReceived m => exact ⟨_, rfl, .ite (h.endTelegram m) h⟩
  case pointRequestTransmit | pointRequestSent =>
    refine ⟨_, rfl, ?_⟩
    split
    · exact h
    · exact .ite (h.of_cmn (by simp [State.reportSent])) h
  case retryTimerExpiry j =>
    refine ⟨_, rfl, ?_⟩
    split
    · exact .ite (h.retryExpiry _) h
    · exact h
  case refreshTimerExpiry => exact ⟨_, rfl, .ite h.indicateRequested h⟩
  case recoveryTimerExpiry a => exact ⟨_, rfl, .ite (Cmn.MovesTo.recover h a) h⟩
  case reportTimerExpiry => exact ⟨_, rfl, .ite (h.sendReport.onMgu _) h⟩
  case skippedFrameEnd | learningTimerExpiry | loopReportHoldExpiry | fillPairSent | cabLampFlash |
      handleFaultCleared | telegramStart | bitJudged | inhibitTimerExpiry | stepEnd =>
    exact ⟨_, rfl, .ite (h.of_cmn (by simp)) h⟩
  all_goals exact absurd (by decide) hr

/-! ### Every step -/

/-- A bit time counts a microsecond, and the thousandth ends a millisecond (R165). -/
theorem State.clock_monitorFrom (s : State) : s.clock.MonitorFrom s.cmn := by
  obtain ⟨-, hwithin, hends⟩ := s.clock_units
  unfold State.MonitorFrom
  by_cases hm : s.cmn.micros + 1 < 1000
  · rw [(hwithin hm).1]
    exact Cmn.MovesTo.refl.setMicros _
  · rw [(hends (not_lt.1 hm)).1]
    exact (Cmn.MovesTo.refl.setMicros 0).tick

theorem step_monitorFrom {t : State} (hs : step s = .next t) : t.MonitorFrom s.cmn := by
  unfold Machine.step at hs
  split at hs
  · cases hs
    exact s.clock_monitorFrom
  · next i rest _ =>
    have hqueue : State.MonitorFrom { s with pending := rest } s.cmn := Cmn.MovesTo.refl
    obtain ⟨u, hu, hmoved⟩ : ∃ u, exec i { s with pending := rest } = .next u ∧ u.MonitorFrom s.cmn := by
      by_cases hr : i ∈ controlRows
      · exact exec_control_monitorFrom hr hqueue
      · exact exec_event_monitorFrom hr hqueue
    cases hs.symm.trans hu
    exact hmoved

/-- Settles O57: every step takes the monitor a chain of moves further, and each move keeps both laws. -/
theorem conditionLawsAreKept : Obligations.ConditionLawsAreKept :=
  ⟨fun _ _ h hs => (step_monitorFrom hs).attributeLaw h, fun _ _ h hs => (step_monitorFrom hs).logLaw h⟩

end Sys2Proof.Machine
end

section
/-! SUPPORT. The attributes and the reports (R162 to R164, R168, R176, R177, R182; log entries 2, 13): an event counted,
a recovery, the octets of a STATUS_REPORT, and the two commands that set it up, with the statement about them. -/

namespace Sys2Proof.Machine

variable {s : State} {c d : Cmn} {b : Nat} {f : Frame}

/-! ### The judgements (R163, R164) -/

/-- `d` is `c` after a judgement of `a`, whose flag is set to `up` under the condition `q`: the entry and the lamp
follow a change alone. -/
theorem Cmn.judged_law {a : Attr} {up : Bool} {q : Prop} [Decidable q]
    (hd : d = if q then c.setTripped a up else c) :
    d.config = c.config ∧ d.partTime = c.partTime ∧ d.micros = c.micros ∧
    (∀ k, k ≠ a → d.attr k = c.attr k) ∧
    d.attr a = { c.attr a with tripped := if q then up else (c.attr a).tripped } ∧
    d.log = (if q then c.log.append c.partTime
        { kind := if up then .attributeTripped else .attributeRecovered, block := .cmn
          value := some (attrIndex a + 1 : Nat) }
      else c.log) ∧
    d.faultLamp = (if q then d.tripped .loopLink || d.tripped .speedSource else c.faultLamp) := by
  subst hd
  split
  · exact ⟨rfl, rfl, rfl, fun k hk => Cmn.attr_setAttr_ne c _ hk, Cmn.attr_setAttr_same c a _, rfl, rfl⟩
  · exact ⟨rfl, rfl, rfl, fun k _ => rfl, rfl, rfl, rfl⟩

/-- An event counted: n falls, and trips a lowered flag at its threshold (R162, R163). -/
theorem Cmn.count_eq (c : Cmn) (a : Attr) {trips : Bool}
    (h : trips = true ↔ c.tripped a = false ∧ (c.attrConfig a).threshold ≠ 0 ∧
      ((c.attr a).fall (c.attrConfig a)).n ≤ (c.attrConfig a).threshold) :
    c.count a = if trips = true then (c.setAttr a ((c.attr a).fall (c.attrConfig a))).setTripped a true
      else c.setAttr a ((c.attr a).fall (c.attrConfig a)) := by
  rw [Cmn.count, Cmn.judgeTrip, Cmn.attr_setAttr_same]
  exact (if_congr h rfl rfl).symm

/-- An expiry of the recovery timer: n rises, and lowers a tripped flag 5 above its threshold (R162, R163). -/
theorem Cmn.recover_eq (c : Cmn) (a : Attr) :
    c.recover a = if (c.attr a).tripped = true ∧ (c.attrConfig a).threshold + 5 ≤ min 100 ((c.attr a).n + 1) then
        (c.setAttr a ((c.attr a).rise (c.attrConfig a))).setTripped a false
      else c.setAttr a ((c.attr a).rise (c.attrConfig a)) := by
  rw [Cmn.recover, Cmn.judgeRecovery, Cmn.attr_setAttr_same]
  rfl

/-- The state of `rise` with its flag behind the judgement. -/
theorem AttrState.rise_judged (x : AttrState) (g : AttrConfig) :
    ({ x.rise g with
      tripped := if x.tripped = true ∧ g.threshold + 5 ≤ min 100 (x.n + 1) then false
        else x.tripped } : AttrState) =
      { n := min 100 (x.n + 1), worst := x.worst, raw := x.raw
        tripped := x.tripped && !decide (g.threshold + 5 ≤ min 100 (x.n + 1))
        recovery := if min 100 (x.n + 1) < 100 then some (g.interval * 1000) else none } := by
  by_cases hup : g.threshold + 5 ≤ min 100 (x.n + 1) <;> simp [AttrState.rise, hup]

/-- The state of `fall` with its flag behind the judgement. -/
theorem AttrState.fall_judged (x : AttrState) (g : AttrConfig) (trips : Bool) :
    ({ x.fall g with tripped := if trips = true then true else x.tripped } : AttrState) =
      { n := max 1 (x.n - g.penalty), worst := min x.worst (max 1 (x.n - g.penalty))
        raw := if x.raw < 4294967295 then x.raw + 1 else x.raw
        tripped := x.tripped || trips, recovery := some (g.interval * 1000) } := by
  cases trips with
  | false =>
    rw [if_neg Bool.false_ne_true, Bool.or_false]
    rfl
  | true =>
    rw [if_pos rfl, Bool.or_true]
    rfl

/-! ### The octets of a report (R182) -/

/-- Bit n − 1 of the mask is the flag of the one with id n among the attributes (R181). -/
theorem Cmn.testBit_trippedMask (c : Cmn) (a : Attr) : c.trippedMask.testBit (attrIndex a) = c.tripped a := by
  rw [Cmn.trippedMask, testBit_packBits]
  exact List.getD_map (f := AttrState.tripped) (d := AttrState.start) ..

theorem packBits_lt (l : List Bool) : packBits l < 2 ^ l.length := by
  refine Nat.lt_pow_two_of_testBit _ fun i hi => ?_
  rw [testBit_packBits, List.getD_eq_default _ _ hi]

theorem Cmn.trippedMask_lt (c : Cmn) : c.trippedMask < 256 := by
  have h := packBits_lt (c.attrs.data.map fun x => x.tripped)
  rw [List.length_map, c.attrs.size] at h
  exact h

theorem Latches.mask_eq (l : Latches) :
    l.mask = (if l.check then 1 else 0) + (if l.length then 2 else 0) + (if l.syncLoss then 4 else 0) +
      (if l.downSeen then 8 else 0) + (if l.overrun then 16 else 0) := by
  simp only [Latches.mask, packBits, mul_add, mul_ite, mul_one, mul_zero, add_zero, add_assoc]

theorem octFlag_eq (x : Bool) : octFlag x = [if x then 1 else 0] := by
  cases x <;> rfl

theorem octOpt1_preselection (x : Option Direction) : octOpt1 (x.map codeDirection) =
    oct1 (match x with | none => 255 | some .left => 1 | some .straight => 2 | some .right => 3) := by
  rcases x with _ | _ | _ | _ <;> rfl

theorem octOpt2_speed (v : Option Int) : octOpt2 (v.map Int.toNat) = oct2 (v.elim 65535 Int.toNat) := by
  cases v <;> rfl

/-! ### The report timer (R177) -/

/-- A report is sent with the fields as they stand, and the timer runs again (R177, R182). -/
theorem exec_reportTimerExpiry (h : s.mgu.reportTimer = some 0) :
    exec .reportTimerExpiry s = .next { s with
      bqm := (s.sendOwn 2 (ownFrame s.own (s.mgu.manager.setWidth 8) 0x72 2 s.mgu.reportSeq s.reportPayload)).bqm
      cmn := (s.sendOwn 2 (ownFrame s.own (s.mgu.manager.setWidth 8) 0x72 2 s.mgu.reportSeq s.reportPayload)).cmn
      mgu := { s.mgu with
        reportTimer := some s.mgu.interval
        reportSeq := if s.bqm.firstFree.isSome then s.mgu.reportSeq + 1 else s.mgu.reportSeq } } := by
  have hexec : exec .reportTimerExpiry s =
      .next (s.sendReport.onMgu fun u => { u with reportTimer := some u.interval }) := congrArg _ (if_pos h)
  rw [hexec, State.sendReport, show priorityReport = 2 from rfl, show kindStatusReport = 0x72 from rfl]
  dsimp only
  rw [State.sendOwn_eq, State.canSend]
  split <;> rfl

/-! ### SET_MANAGER and SET_REPORT (R176) -/

theorem exec_setManager {a : Byte} (h : s.Commanded b f) (hp : f.payload = [8, a]) (ha : a.toNat < 63) :
    exec .setManager s = .next
      (({ s.takeHead with mgu := { s.mgu with manager := a.setWidth 6 } } : State).answered b f (Answer.ok [])) := by
  have hact : setManager s.takeHead f =
      ({ s.takeHead with mgu := { s.mgu with manager := a.setWidth 6 } }, Answer.ok []) := by
    have hnumber : num1 f.payload 1 = a.toNat := by rw [hp]; rfl
    simp only [setManager, hnumber]
    rw [if_neg (not_le.2 ha), BitVec.ofNat_toNat]
    rfl
  refine congrArg Host.Outcome.next ?_
  rw [State.control_answered h (by rw [hp]; rfl) (by rw [hp]; rfl) (by rw [hp]; rfl) (by rw [hact]; exact h.2.1), hact]

theorem exec_setManager_refused {a : Byte} (h : s.Commanded b f) (hp : f.payload = [8, a]) (ha : 63 ≤ a.toNat) :
    exec .setManager s =
      .next (s.takeHead.answered b f { status := 3, reason := 4, figure := 0, data := [] }) := by
  have hact : setManager s.takeHead f = (s.takeHead, Answer.refused reasonInvalid 0) := by
    have hnumber : num1 f.payload 1 = a.toNat := by rw [hp]; rfl
    simp only [setManager, hnumber]
    exact if_pos ha
  exact congrArg Host.Outcome.next
    (State.control_acts h (by rw [hp]; rfl) (by rw [hp]; rfl) (by rw [hp]; rfl) hact rfl)

theorem reportInterval_eq (n : Nat) : reportInterval n = if n = 0 then 0 else max 100 (min 5000 n) := by
  unfold reportInterval clampNat
  split
  · rfl
  · split
    · omega
    · split <;> omega

theorem exec_setReport {x y : Byte} (h : s.Commanded b f) (hp : f.payload = [9, x, y]) {n i : Nat}
    (hn : n = x.toNat + 256 * y.toNat) (hi : i = reportInterval n) :
    exec .setReport s = .next (({ s.takeHead with
      mgu := { s.mgu with
        interval := i
        reportTimer := if i ≠ 0 ∧ s.own ≠ broadcast then some i else none } } : State).answered b f
      (Answer.clamped (if i = n then 0 else 1) [])) := by
  have hact : setReport s.takeHead f = ({ s.takeHead with
      mgu := { s.mgu with
        interval := i
        reportTimer := if i ≠ 0 ∧ s.own ≠ broadcast then some i else none } },
      Answer.clamped (if i = n then 0 else 1) []) := by
    have hnumber : num2 f.payload 1 = n := by rw [hp, hn]; rfl
    have haddressed : s.takeHead.addressed = true ↔ s.own ≠ broadcast := decide_eq_true_iff
    simp only [setReport, hnumber, ← hi, haddressed]
    rfl
  refine congrArg Host.Outcome.next ?_
  rw [State.control_answered h (by rw [hp]; rfl) (by rw [hp]; rfl) (by rw [hp]; rfl) (by rw [hact]; exact h.2.1), hact]

/-! ### The obligation -/

/-- Settles O47: the octets of the report, the recovery and the count by their judgements, the two timers due and
early, and the two commands by their actions. -/
theorem attributesRecoverAndReportsAreSent : Obligations.AttributesRecoverAndReportsAreSent := by
  refine ⟨fun s o w g ho hw hg => ?_, fun s a x g hx hg ht => ?_, fun c a x g n trips hx hg hn htrips => ?_,
    fun s h => ⟨_, exec_reportTimerExpiry h, rfl, rfl, _, rfl, rfl, rfl⟩,
    fun s a n h => congrArg _ (if_neg (h ▸ nofun)), fun s n h => congrArg _ (if_neg (h ▸ nofun)),
    fun s b f a h hp => ?_, fun s b f x y n i h hp hn hi => ?_⟩
  · obtain rfl : o = fun n => BitVec.ofNat 8 n := funext ho
    obtain rfl : w = oct2 := funext hw
    obtain rfl : g = fun x => if x then 1 else 0 := funext hg
    refine ⟨codeTraction s.tdu.state, codeIndicate s.sru.record.state, s.cmn.trippedMask,
      BitVec.ofNat 8 (codeRole s.cru.role), s.ports.a.report ++ s.ports.b.report, ?_, ?_, rfl, rfl,
      s.cmn.testBit_trippedMask, s.cmn.trippedMask_lt, ?_⟩
    · rw [State.reportPayload, octFlag_eq, octFlag_eq, octOpt1_preselection, octOpt2_speed]
      rfl
    · cases s.cru.role <;> rfl
    · rw [LinePort.report, LinePort.report, Latches.mask_eq, Latches.mask_eq]
      rfl
  · subst hx hg
    obtain ⟨hconfig, htime, -, hother, hself, hlog, hlamp⟩ := Cmn.judged_law (s.cmn.recover_eq a)
    have hexec : exec (.recoveryTimerExpiry a) s = .next { s with cmn := s.cmn.recover a } := congrArg _ (if_pos ht)
    refine ⟨_, hexec, rfl, hconfig, htime, fun k hk => ?_, ?_, hlog, hlamp⟩
    · exact (hother k hk).trans (Cmn.attr_setAttr_ne _ _ hk)
    · rw [hself, Cmn.attr_setAttr_same]
      exact AttrState.rise_judged _ _
  · subst hx hg hn
    have htrip : trips = true ↔ c.tripped a = false ∧ (c.attrConfig a).threshold ≠ 0 ∧
        ((c.attr a).fall (c.attrConfig a)).n ≤ (c.attrConfig a).threshold := by
      rw [htrips, Bool.and_eq_true, Bool.not_eq_true', decide_eq_true_iff]
      rfl
    obtain ⟨hconfig, htime, hmicros, hother, hself, hlog, hlamp⟩ := Cmn.judged_law (c.count_eq a htrip)
    refine ⟨_, rfl, hconfig, htime, hmicros, fun k hk => ?_, ?_, hlog, hlamp⟩
    · exact (hother k hk).trans (Cmn.attr_setAttr_ne _ _ hk)
    · rw [hself, Cmn.attr_setAttr_same]
      exact AttrState.fall_judged _ _ trips
  · split
    · next ha => exact exec_setManager h hp ha
    · next ha => exact exec_setManager_refused h hp (not_lt.1 ha)
  · exact exec_setReport h hp hn (hi.trans (reportInterval_eq n).symm)

end Sys2Proof.Machine
end

section
/-! SUPPORT. A WRITE_TABLE of any number of entries (R171): the range it names, the entries its octets make, and what
it answers and writes. -/

namespace Sys2Proof.Machine

variable {α : Type} {s : State} {lo hi size i k n : Nat} {payload e : List Byte}
  {parse : Nat → List Byte → Option (Taken α)} {put : State → Nat → α → State}

/-! ### The range (R171 step 2) -/

theorem firstOutside_start (h : i < lo ∨ hi < i) : firstOutside lo hi i n = some i :=
  if_pos h

theorem firstOutside_past (hlo : lo ≤ i) (hhi : i ≤ hi) (h : hi + 1 < i + n) :
    firstOutside lo hi i n = some (hi + 1) := by
  rw [firstOutside, if_neg (by omega), if_pos (by omega)]

theorem firstOutside_within (hlo : lo ≤ i) (hhi : i ≤ hi) (h : i + n ≤ hi + 1) : firstOutside lo hi i n = none := by
  rw [firstOutside, if_neg (by omega), if_neg (by omega)]

/-! ### The entries -/

/-- As many entries as the octets of a write make, a broken last one with them. -/
def entryCount (size : Nat) (e : List Byte) : Nat := (e.length + size - 1) / size

/-- The entries of a write from index `i`, each as its octets are taken. -/
def parsedEntries (parse : Nat → List Byte → Option (Taken α)) (size i : Nat) (e : List Byte) :
    List (Option (Taken α)) :=
  (List.range (entryCount size e)).map fun k => parse (i + k) (chunk size e k)

theorem entryCount_pos (hs : 0 < size) (he : e ≠ []) : 0 < entryCount size e :=
  Nat.div_pos (by have := List.length_pos_iff.2 he; omega) hs

/-- Whole entries with the octets of a broken one behind them. -/
theorem entryCount_flatten {entries : List (List Byte)} {rest : List Byte} (hs : 0 < size)
    (hsize : ∀ x ∈ entries, x.length = size) (hrest : rest.length < size) :
    entryCount size (entries.flatten ++ rest) = entries.length + if rest = [] then 0 else 1 := by
  have hlen : (entries.flatten ++ rest).length = rest.length + entries.length * size := by
    rw [List.length_append, List.length_flatten, List.map_congr_left hsize, List.map_const', List.sum_replicate,
      smul_eq_mul, Nat.add_comm]
  have hshift : rest.length + entries.length * size + size - 1 = rest.length + size - 1 + entries.length * size := by
    omega
  rw [entryCount, hlen, hshift, Nat.add_mul_div_right _ _ hs, Nat.add_comm]
  congr 1
  split
  next h => exact Nat.div_eq_of_lt (by rw [h, List.length_nil]; omega)
  next h =>
    have := List.length_pos_iff.2 h
    exact Nat.div_eq_of_lt_le (by omega) (by omega)

theorem length_flatten_mod {entries : List (List Byte)} {rest : List Byte}
    (hsize : ∀ x ∈ entries, x.length = size) (hrest : rest.length < size) :
    (entries.flatten ++ rest).length % size = rest.length := by
  rw [List.length_append, List.length_flatten, List.map_congr_left hsize, List.map_const', List.sum_replicate,
    smul_eq_mul, Nat.mul_add_mod_self_right, Nat.mod_eq_of_lt hrest]

theorem chunk_flatten {entries : List (List Byte)} (hsize : ∀ x ∈ entries, x.length = size) (hk : k < entries.length) :
    chunk size entries.flatten k = entries[k] := by
  induction entries generalizing k with
  | nil => exact absurd hk (Nat.not_lt_zero k)
  | cons x entries ih =>
    have hx : x.length = size := hsize x List.mem_cons_self
    cases k with
    | zero => rw [chunk, Nat.zero_mul, List.drop_zero, List.flatten_cons, ← hx, List.take_left]; rfl
    | succ k =>
      have hdrop : (x ++ entries.flatten).drop ((k + 1) * size) = entries.flatten.drop (k * size) := by
        rw [Nat.succ_mul, Nat.add_comm, ← List.drop_drop, ← hx, List.drop_left]
      rw [chunk, List.flatten_cons, hdrop]
      exact ih (fun y hy => hsize y (List.mem_cons_of_mem x hy)) (Nat.lt_of_succ_lt_succ hk)

theorem parsedEntries_flatten {entries : List (List Byte)} (hs : 0 < size) (hsize : ∀ x ∈ entries, x.length = size) :
    parsedEntries parse size i entries.flatten = entries.mapIdx fun k x => parse (i + k) x := by
  have hcount : entryCount size entries.flatten = entries.length := by
    have h := entryCount_flatten (rest := []) hs hsize hs
    rwa [List.append_nil, if_pos rfl, Nat.add_zero] at h
  refine List.ext_getElem (by simp [parsedEntries, hcount]) fun k hk _ => ?_
  have hk : k < entries.length := by simpa [parsedEntries, hcount] using hk
  simp [parsedEntries, chunk_flatten hsize hk]

/-! ### The judgement of the entries (R171 steps 4 and 5) -/

variable {l : List (Option (Taken α))}

/-- An unsound entry, the first of them, refuses the write. -/
theorem State.writeTaken_unsound (hk : l[k]? = some none) (hm : ∀ m, m < k → l[m]? ≠ some none) :
    s.writeTaken i l put = (s, Answer.refused reasonInvalid (i + k)) := by
  obtain ⟨hlt, hnone⟩ := List.getElem?_eq_some_iff.1 hk
  have hfirst : (l.findIdx? fun x => x.isNone) = some k := by
    refine List.findIdx?_eq_some_iff_getElem.2 ⟨hlt, by rw [hnone]; rfl, fun m hmk hx => hm m hmk ?_⟩
    rw [List.getElem?_eq_getElem (hmk.trans hlt), Option.isNone_iff_eq_none.1 hx]
  simp only [State.writeTaken, hfirst]

/-- Sound entries are all written. -/
theorem State.writeTaken_sound (h : none ∉ l) :
    s.writeTaken i l put = (putAll put i l s, Answer.clamped (clampTotal l) []) := by
  have hnone : (l.findIdx? fun x => x.isNone) = none :=
    List.findIdx?_eq_none_iff.2 fun x hx => by
      cases x with
      | none => exact absurd hx h
      | some x => rfl
  simp only [State.writeTaken, hnone]

theorem clampTotal_some (l : List (Taken α)) : clampTotal (l.map some) = (l.map fun x => x.clamps).sum := by
  induction l with
  | nil => rfl
  | cons x l ih => rw [List.map_cons, clampTotal, ih, List.map_cons, List.sum_cons]

/-- Sound entries are written one after another, from the index on. -/
theorem putAll_some (l : List (Taken α)) (i : Nat) (s : State) :
    putAll put i (l.map some) s =
      (l.mapIdx fun k x => (i + k, x.value)).foldl (fun t x => put t x.1 x.2) s := by
  induction l generalizing i s with
  | nil => rfl
  | cons x l ih =>
    have hnext : (fun k (y : Taken α) => (i + (k + 1), y.value)) = fun k y => (i + 1 + k, y.value) := by
      funext k y
      rw [Nat.add_assoc, Nat.add_comm 1 k]
    rw [List.map_cons, putAll, ih, List.mapIdx_cons, hnext]
    rfl

/-- The answer to a write that is taken: OK, or CLAMPED with the number of clamped fields (R170). -/
theorem Answer.clamped_eq (n : Nat) (data : List Byte) : Answer.clamped n data =
    { status := if n = 0 then 1 else 2, reason := 0, figure := n, data := data } := by
  by_cases h : n = 0
  · subst h
    rfl
  · rw [Answer.clamped, if_neg h, if_neg h]

/-! ### The write (R171) -/

section
variable (hi₂ : num2 payload 2 = i) (he : payload.drop 4 = e)
include hi₂ he

theorem State.writeEntries_outside (h : firstOutside lo hi i (entryCount size e) = some k) :
    s.writeEntries lo hi size payload parse put = (s, Answer.refused reasonBadIndex k) := by
  subst hi₂ he
  rw [entryCount] at h
  simp only [State.writeEntries, h]

theorem State.writeEntries_broken (h : firstOutside lo hi i (entryCount size e) = none)
    (hbroken : e.length % size ≠ 0) :
    s.writeEntries lo hi size payload parse put = (s, Answer.refused reasonLength 0) := by
  subst hi₂ he
  rw [entryCount] at h
  simp only [State.writeEntries, h]
  exact if_pos hbroken

theorem State.writeEntries_whole (h : firstOutside lo hi i (entryCount size e) = none)
    (hwhole : e.length % size = 0) :
    s.writeEntries lo hi size payload parse put = s.writeTaken i (parsedEntries parse size i e) put := by
  subst hi₂ he
  rw [entryCount] at h
  simp only [State.writeEntries, h]
  exact if_neg (not_not.2 hwhole)

end

/-- The index of a write comes before its entries. -/
theorem num2_index (h1 h2 : Byte) (l : List Byte) (h : i < 65536) : num2 ([h1, h2] ++ oct2 i ++ l) 2 = i := by
  show (BitVec.ofNat 8 i).toNat + 256 * (BitVec.ofNat 8 (i / 256)).toNat = i
  rw [BitVec.toNat_ofNat, BitVec.toNat_ofNat]
  omega

/-- Whole entries from an index inside the table are judged one by one. -/
theorem State.writeEntries_entries {entries : List (List Byte)} (h1 h2 : Byte) (hs : 0 < size)
    (hsize : ∀ x ∈ entries, x.length = size) (hi₂ : i < 65536) (hin : firstOutside lo hi i entries.length = none) :
    s.writeEntries lo hi size ([h1, h2] ++ oct2 i ++ entries.flatten) parse put =
      s.writeTaken i (entries.mapIdx fun k x => parse (i + k) x) put := by
  have hcount := entryCount_flatten (rest := []) hs hsize hs
  have hmod := length_flatten_mod (rest := []) hsize hs
  rw [List.append_nil] at hcount hmod
  rw [State.writeEntries_whole (num2_index h1 h2 _ hi₂) rfl (by rw [← hin]; exact congrArg _ hcount) hmod]
  exact congrArg (s.writeTaken i · put) (parsedEntries_flatten hs hsize)

end Sys2Proof.Machine
end

section
/-! SUPPORT. The rows of WRITE_TABLE (R171): the table each writes, which of its entries are unsound, and the statement
about them. -/

namespace Sys2Proof.Machine

variable {α : Type} {s u : State} {b t lo hi size k n : Nat} {f : Frame} {a : Answer} {row : Instr} {e : List Byte}
  {parse : Nat → List Byte → Option (Taken α)} {put : State → Nat → α → State} {bad : List Byte → Prop}

/-! ### The table of each row -/

/-- `row` writes the entries of table `t` from the frame `f`: indices `lo..hi`, `size` octets each, taken by `parse`
and written by `put`. -/
structure State.WritesBy (s : State) (f : Frame) (row : Instr) (t lo hi size : Nat)
    (parse : Nat → List Byte → Option (Taken α)) (put : State → Nat → α → State) : Prop where
  row_eq : writeRow t = row
  size_pos : 0 < size
  acts : ∃ act : Act, exec row s = .next (s.control row act) ∧
    act s.takeHead f = s.takeHead.writeEntries lo hi size f.payload parse put
  mgu : ∀ u k x, (put u k x).mgu = u.mgu

theorem writesBy_writeNode : s.WritesBy f .writeNode 1 0 62 4 parseNode putNode :=
  ⟨rfl, by decide, ⟨_, rfl, rfl⟩, fun _ _ _ => rfl⟩

theorem writesBy_writeClass : s.WritesBy f .writeClass 2 0 255 4 parseClass putClass :=
  ⟨rfl, by decide, ⟨_, rfl, rfl⟩, fun _ _ _ => rfl⟩

theorem writesBy_writeTagMap : s.WritesBy f .writeTagMap 3 0 7 1 (parseOctet 7) putTag :=
  ⟨rfl, by decide, ⟨_, rfl, rfl⟩, fun _ _ _ => rfl⟩

theorem writesBy_writeWeights : s.WritesBy f .writeWeights 4 0 3 1 (parseOctet 15) putWeight :=
  ⟨rfl, by decide, ⟨_, rfl, rfl⟩, fun _ _ _ => rfl⟩

theorem writesBy_writePortConfig : s.WritesBy f .writePortConfig 5 1 2 15 parsePortConfig putPortConfig :=
  ⟨rfl, by decide, ⟨_, rfl, rfl⟩, fun u k x => by simp⟩

theorem writesBy_writeQueueMap : s.WritesBy f .writeQueueMap 6 1 4 8 parseQueueMap putQueueMap :=
  ⟨rfl, by decide, ⟨_, rfl, rfl⟩, fun _ _ _ => rfl⟩

/-- Index 0 of ROUTE is its header; from index 1 on stand its entries (R120). -/
theorem writesBy_writeRoute (h : num2 f.payload 2 ≠ 0) :
    s.WritesBy f .writeRoute 7 1 256 8 parseRoute putRoute :=
  ⟨rfl, by decide, ⟨_, rfl, if_neg h⟩, fun _ _ _ => rfl⟩

theorem writesBy_writeProfile : s.WritesBy f .writeProfile 8 1 19 2 parseField putField :=
  ⟨rfl, by decide, ⟨_, rfl, rfl⟩, fun _ _ _ => rfl⟩

theorem writesBy_writeTone : s.WritesBy f .writeTone 10 0 7 2 parseTone putTone :=
  ⟨rfl, by decide, ⟨_, rfl, rfl⟩, fun _ _ _ => rfl⟩

theorem writesBy_writeSoundMap : s.WritesBy f .writeSoundMap 11 0 0 7 parseSoundMap putSoundMap :=
  ⟨rfl, by decide, ⟨_, rfl, rfl⟩, fun _ _ _ => rfl⟩

theorem writesBy_writeAttributeConfig : s.WritesBy f .writeAttributeConfig 12 1 8 5 parseAttr putAttr :=
  ⟨rfl, by decide, ⟨_, rfl, rfl⟩, fun _ _ _ => rfl⟩

/-! ### A row's answer -/

theorem rowOf_write {l : List Byte} (h : num1 l 0 = 2) : rowOf l = writeRow (num1 l 1) := by
  simp only [rowOf, h]

theorem knownCode_write {l : List Byte} (h : num1 l 0 = 2) : knownCode l = true := by
  cases l with
  | nil => exact absurd h (by decide)
  | cons x l =>
    simp only [knownCode, h]
    rfl

theorem lengthFits_write {l : List Byte} (h : num1 l 0 = 2) (hl : 5 ≤ l.length) : lengthFits l = true := by
  simp only [lengthFits, h]
  exact decide_eq_true hl

/-- A write taken from its frame leaves and answers what the write of its entries does (R170, R171). -/
theorem State.WritesBy.exec_eq (hw : s.WritesBy f row t lo hi size parse put) (h : s.Commanded b f)
    (hcode : num1 f.payload 0 = 2) (hl : 5 ≤ f.payload.length) (htable : num1 f.payload 1 = t)
    (hwrite : s.takeHead.writeEntries lo hi size f.payload parse put = (u, a)) :
    exec row s = .next (u.answered b f a) := by
  obtain ⟨hrow, -, ⟨act, hexec, hact⟩, hmgu⟩ := hw
  have hu : u.mgu = s.mgu := by
    have hkept := State.writeEntries_ind (P := fun v => v.mgu = s.mgu) (lo := lo) (hi := hi) (size := size)
      (payload := f.payload) (parse := parse) (s := s.takeHead) (fun v k x hv => (hmgu v k x).trans hv) rfl
    rwa [hwrite] at hkept
  rw [hexec, State.control_acts h (by rw [rowOf_write hcode, htable, hrow]) (knownCode_write hcode)
    (lengthFits_write hcode hl) (hact.trans hwrite) hu]

/-- What `row` answers to the octets `e` of `n` entries from index `k`: an index outside, a broken last entry, an
entry that is `bad`, or the write taken (R171). -/
def State.JudgesWrite (s : State) (b : Nat) (f : Frame) (row : Instr) (lo hi size k n : Nat) (e : List Byte)
    (bad : List Byte → Prop) : Prop :=
  ((k < lo ∨ hi < k) → exec row s = .next (s.takeHead.answered b f (Answer.refused reasonBadIndex k))) ∧
  (lo ≤ k → k ≤ hi → hi + 1 < k + n →
    exec row s = .next (s.takeHead.answered b f (Answer.refused reasonBadIndex (hi + 1)))) ∧
  (lo ≤ k → k + n ≤ hi + 1 → e.length % size ≠ 0 →
    exec row s = .next (s.takeHead.answered b f (Answer.refused reasonLength 0))) ∧
  (lo ≤ k → k + n ≤ hi + 1 → e.length % size = 0 →
    (∀ m, m < n → bad (e.drop (m * size)) → (∀ l, l < m → ¬ bad (e.drop (l * size))) →
      exec row s = .next (s.takeHead.answered b f (Answer.refused reasonInvalid (k + m)))) ∧
    ((∀ m, m < n → ¬ bad (e.drop (m * size))) →
      ∃ (u : State) (a : Answer), exec row s = .next (u.answered b f a) ∧ (a.status = 1 ∨ a.status = 2) ∧ a.data = []))

/-- A write whose entries stand behind its table and index is judged by what its row's entries ask. -/
theorem State.WritesBy.judged {x i j : Byte} (hw : s.WritesBy f row t lo hi size parse put) (h : s.Commanded b f)
    (hp : f.payload = [2, x, i, j] ++ e) (he : e ≠ []) (hx : x.toNat = t) (hk : k = i.toNat + 256 * j.toNat)
    (hn : n = entryCount size e) (hbad : ∀ k l, parse k (l.take size) = none ↔ bad l) :
    s.JudgesWrite b f row lo hi size k n e bad := by
  have hpos : 0 < n := hn ▸ entryCount_pos hw.size_pos he
  have hindex : num2 f.payload 2 = k := by rw [hp, hk]; rfl
  have hdrop : f.payload.drop 4 = e := by rw [hp]; rfl
  have hlen : 5 ≤ f.payload.length := by
    have := List.length_pos_iff.2 he
    rw [hp, List.length_append]
    show 5 ≤ 4 + e.length
    omega
  have hexec {u : State} {a : Answer} (hwrite : s.takeHead.writeEntries lo hi size f.payload parse put = (u, a)) :
      exec row s = .next (u.answered b f a) :=
    hw.exec_eq h (by rw [hp]; rfl) hlen (by rw [hp]; exact hx) hwrite
  have hentry {m : Nat} (hm : m < n) :
      (parsedEntries parse size k e)[m]? = some (parse (k + m) ((e.drop (m * size)).take size)) := by
    rw [parsedEntries, List.getElem?_map, List.getElem?_range (hn ▸ hm)]
    rfl
  have hwithin (h1 : lo ≤ k) (h2 : k + n ≤ hi + 1) : firstOutside lo hi k (entryCount size e) = none :=
    hn ▸ firstOutside_within h1 (by omega) h2
  refine ⟨fun hout => hexec (State.writeEntries_outside hindex hdrop (firstOutside_start hout)),
    fun h1 h2 h3 => hexec (State.writeEntries_outside hindex hdrop (hn ▸ firstOutside_past h1 h2 h3)),
    fun h1 h2 hbroken => hexec (State.writeEntries_broken hindex hdrop (hwithin h1 h2) hbroken),
    fun h1 h2 hwhole => ⟨fun m hm hunsound hfirst => ?_, fun hsound => ?_⟩⟩
  · refine hexec ((State.writeEntries_whole hindex hdrop (hwithin h1 h2) hwhole).trans
      (State.writeTaken_unsound ?_ fun l hl hnone => hfirst l hl ?_))
    · rw [hentry hm, (hbad _ _).2 hunsound]
    · rw [hentry (hl.trans hm), Option.some.injEq] at hnone
      exact (hbad _ _).1 hnone
  · refine ⟨_, _, hexec ((State.writeEntries_whole hindex hdrop (hwithin h1 h2) hwhole).trans
      (State.writeTaken_sound fun hmem => ?_)), ?_, ?_⟩
    · obtain ⟨m, hm, hnone⟩ := List.mem_map.1 hmem
      exact hsound m (hn ▸ List.mem_range.1 hm) ((hbad _ _).1 hnone)
    · rw [Answer.clamped_eq]
      exact ite_eq_or_eq ..
    · rw [Answer.clamped_eq]

/-! ### Unsound entries -/

theorem num1_take {l : List Byte} {m : Nat} (h : m < n) : num1 (l.take n) m = num1 l m := by
  rw [num1, num1, octetAt, octetAt, List.getD, List.getD, List.getElem?_take_of_lt h]

theorem nodeRoleOf_eq_none : nodeRoleOf n = none ↔ n = 0 ∨ 7 < n := by
  unfold nodeRoleOf
  repeat' split
  all_goals (simp; omega)

theorem actionOf_eq_none : actionOf n = none ↔ n = 0 ∨ 4 < n := by
  unfold actionOf
  repeat' split
  all_goals (simp; omega)

theorem directionOf_eq_none : directionOf n = none ↔ n = 0 ∨ 3 < n := by
  unfold directionOf
  repeat' split
  all_goals (simp; omega)

theorem queueTypeOf_eq_none : queueTypeOf n = none ↔ n = 0 ∨ 2 < n := by
  unfold queueTypeOf
  repeat' split
  all_goals (simp; omega)

theorem permitOf_eq_none : permitOf n = none ↔ 1 < n := by
  unfold permitOf
  repeat' split
  all_goals (simp; omega)

theorem parseNode_eq_none (k : Nat) (l : List Byte) :
    parseNode k (l.take 4) = none ↔ num1 l 0 = 0 ∨ 7 < num1 l 0 := by
  rw [parseNode, Option.map_eq_none_iff, num1_take (by decide), nodeRoleOf_eq_none]

theorem parseClass_eq_none (k : Nat) (l : List Byte) :
    parseClass k (l.take 4) = none ↔ num1 l 0 = 0 ∨ 4 < num1 l 0 ∨ num1 l 1 = 0 ∨ 4 < num1 l 1 := by
  have hnone : parseClass k (l.take 4) = none ↔ actionOf (num1 l 0) = none ∨ actionOf (num1 l 1) = none := by
    rw [parseClass, num1_take (by decide), num1_take (by decide)]
    cases actionOf (num1 l 0) <;> cases actionOf (num1 l 1) <;> simp
  rw [hnone, actionOf_eq_none, actionOf_eq_none, or_assoc]

theorem parseQueue_eq_none (l : List Byte) {q : Nat} (hq : q < 4) :
    parseQueue (l.take 15) q = none ↔ num1 l (3 + q) = 0 ∨ 2 < num1 l (3 + q) := by
  rw [parseQueue, Option.map_eq_none_iff, num1_take (by omega), queueTypeOf_eq_none]

theorem parsePortConfig_eq_none (k : Nat) (l : List Byte) : parsePortConfig k (l.take 15) = none ↔
    1 < num1 l 2 ∨ ∃ q, q < 4 ∧ (num1 l (3 + q) = 0 ∨ 2 < num1 l (3 + q)) := by
  have hnone : parsePortConfig k (l.take 15) = none ↔ permitOf (num1 l 2) = none ∨
      ∃ q, q < 4 ∧ parseQueue (l.take 15) q = none := by
    have hfour (P : Nat → Prop) : (∃ q, q < 4 ∧ P q) ↔ P 0 ∨ P 1 ∨ P 2 ∨ P 3 := by
      simp only [Nat.exists_lt_succ_right, Nat.not_lt_zero, false_and, exists_false, false_or, or_assoc]
    rw [parsePortConfig, num1_take (by decide), hfour]
    split
    next hp h0 h1 h2 h3 => simp only [hp, h0, h1, h2, h3, reduceCtorEq, or_self]
    next hnone =>
      refine iff_of_true rfl (by_contra fun hall => ?_)
      simp only [not_or, ← ne_eq, Option.ne_none_iff_exists'] at hall
      obtain ⟨⟨p, hp⟩, ⟨x, h0⟩, ⟨y, h1⟩, ⟨z, h2⟩, ⟨w, h3⟩⟩ := hall
      exact hnone p x y z w hp h0 h1 h2 h3
  rw [hnone, permitOf_eq_none]
  exact or_congr_right (exists_congr fun q => and_congr_right fun hq => parseQueue_eq_none l hq)

theorem parseRoute_eq_none (k : Nat) (l : List Byte) :
    parseRoute k (l.take 8) = none ↔ num1 l 2 = 0 ∨ 3 < num1 l 2 := by
  rw [parseRoute, Option.map_eq_none_iff, num1_take (by decide), directionOf_eq_none]

/-! ### The ROUTE header and PATTERN -/

theorem exec_writeRoute_header_length (h : s.Commanded b f) (hp : f.payload = [2, 7, 0, 0] ++ e) (he : e ≠ [])
    (hl : e.length ≠ 13) :
    exec .writeRoute s = .next (s.takeHead.answered b f (Answer.refused reasonLength 0)) := by
  have hact : s.takeHead.writeRoute f.payload = (s.takeHead, Answer.refused reasonLength 0) := by
    rw [hp]
    exact (if_pos rfl).trans (if_pos hl)
  exact congrArg _ (State.control_write (act := fun t g => t.writeRoute g.payload) h hp rfl
    (List.length_pos_iff.2 he) hact rfl)

/-- A PATTERN write that is refused, by its action (R151, R171). -/
theorem exec_writePattern_refused {i j m : Byte} (h : s.Commanded b f) (hp : f.payload = [2, 9, i, j, m] ++ e)
    (hact : s.takeHead.writePattern f.payload = (s.takeHead, a)) :
    exec .writePattern s = .next (s.takeHead.answered b f a) := by
  have hlen : lengthFits f.payload = true := by
    rw [hp]
    exact decide_eq_true (show 5 ≤ ([2, 9, i, j, m] ++ e).length from
      List.length_append (as := [2, 9, i, j, m]) ▸ Nat.le_add_right 5 _)
  exact congrArg _ (State.control_acts (act := fun t g => t.writePattern g.payload) h (by rw [hp]; rfl)
    (by rw [hp]; rfl) hlen hact rfl)

section
variable {i j m : Byte}

theorem State.writePattern_outside (h : 15 < i.toNat + 256 * j.toNat) :
    s.writePattern ([2, 9, i, j, m] ++ e) =
      (s, Answer.refused reasonBadIndex (i.toNat + 256 * j.toNat)) :=
  if_pos h

theorem State.writePattern_length (h : i.toNat + 256 * j.toNat ≤ 15) (hl : e.length ≠ 2 * m.toNat) :
    s.writePattern ([2, 9, i, j, m] ++ e) = (s, Answer.refused reasonLength 0) := by
  have hlen : (m :: e).length ≠ 1 + 2 * m.toNat := by
    rw [List.length_cons]
    omega
  exact (if_neg (not_lt.2 h)).trans (if_pos hlen)

theorem State.writePattern_steps_above (h : i.toNat + 256 * j.toNat ≤ 15) (hl : e.length = 2 * m.toNat)
    (hm : 12 < m.toNat) : s.writePattern ([2, 9, i, j, m] ++ e) =
      (s, Answer.refused reasonInvalid (i.toNat + 256 * j.toNat)) := by
  have hlen : ¬ (m :: e).length ≠ 1 + 2 * m.toNat := by
    rw [List.length_cons]
    omega
  have hnone : parsePattern (m :: e) = none := if_pos hm
  refine (if_neg (not_lt.2 h)).trans ((if_neg hlen).trans ?_)
  exact State.writeTaken_unsound (k := 0) (congrArg some hnone) fun l hl => absurd hl (Nat.not_lt_zero l)

end

/-! ### The obligation -/

/-- Settles O50: the judgement of any write by the range and the entries it names, and each row by the table it
writes. -/
theorem writesAreWholeOrRefused : Obligations.WritesAreWholeOrRefused := by
  refine ⟨?outside, ?entries, ?judged, ?rows, fun s b f e h hp he hl => exec_writeRoute_header_length h hp he hl,
    ?pattern⟩
  case outside =>
    intro α s lo hi size payload parse put h
    exact State.writeEntries_outside rfl rfl (firstOutside_start h)
  case entries =>
    intro α s lo hi size i h1 h2 entries rest parse put hs hsize hrest hi₂ hlo hhi hne
    have hcount := entryCount_flatten hs hsize hrest
    rw [Nat.add_assoc]
    have hdrop : ([h1, h2] ++ oct2 i ++ entries.flatten ++ rest).drop 4 = entries.flatten ++ rest := rfl
    have hindex : num2 ([h1, h2] ++ oct2 i ++ entries.flatten ++ rest) 2 = i := by
      rw [List.append_assoc]
      exact num2_index h1 h2 _ hi₂
    refine ⟨fun hin hnil => ?_, fun hin hbroken => ?_, fun hout => ?_⟩
    · have hwhole := State.writeEntries_entries (s := s) (parse := parse) (put := put) h1 h2 hs hsize hi₂
        (firstOutside_within hlo hhi hin)
      refine ⟨fun l hl => ?_, fun k hk hnone hfirst => ?_⟩
      · rw [hwhole, hl, State.writeTaken_sound (by simp), putAll_some, clampTotal_some, Answer.clamped_eq]
      · refine hwhole.trans (State.writeTaken_unsound ?_ fun m hm hunsound => ?_)
        · rw [List.getElem?_mapIdx, List.getElem?_eq_getElem hk, Option.map_some, ← hnone,
            List.getD_eq_getElem _ _ hk]
        · have hsome := hfirst m hm
          rw [List.getElem?_mapIdx, List.getElem?_eq_getElem (hm.trans hk), Option.map_some,
            Option.some.injEq] at hunsound
          rw [List.getD_eq_getElem _ _ (hm.trans hk), hunsound] at hsome
          exact absurd hsome Bool.false_ne_true
    · refine State.writeEntries_broken hindex hdrop (hcount ▸ firstOutside_within hlo hhi hin) ?_
      rw [length_flatten_mod hsize hrest]
      exact fun h => hbroken (List.length_eq_zero_iff.1 h)
    · exact State.writeEntries_outside hindex hdrop (hcount ▸ firstOutside_past hlo hhi hout)
  case judged =>
    intro s b f i j t e row lo hi size k n bad h hp he hrow hk hn
    have hfalse {α : Type} {parse : Nat → List Byte → Option (Taken α)} {size : Nat}
        (hsome : ∀ k l, (parse k l).isSome = true) (k : Nat) (l : List Byte) :
        parse k (l.take size) = none ↔ False :=
      iff_false_intro (Option.isSome_iff_ne_none.1 (hsome k _))
    show s.JudgesWrite b f row lo hi size k n e bad
    rcases hrow with ⟨rfl, rfl, rfl, rfl, rfl, rfl⟩ | ⟨rfl, rfl, rfl, rfl, rfl, rfl⟩ |
      ⟨rfl, rfl, rfl, rfl, rfl, rfl⟩ | ⟨rfl, rfl, rfl, rfl, rfl, rfl⟩ | ⟨rfl, rfl, rfl, rfl, rfl, rfl⟩ |
      ⟨rfl, rfl, rfl, rfl, rfl, rfl⟩ | ⟨rfl, rfl, hroute, rfl, rfl, rfl, rfl⟩ | ⟨rfl, rfl, rfl, rfl, rfl, rfl⟩ |
      ⟨rfl, rfl, rfl, rfl, rfl, rfl⟩ | ⟨rfl, rfl, rfl, rfl, rfl, rfl⟩ | ⟨rfl, rfl, rfl, rfl, rfl, rfl⟩
    · exact writesBy_writeNode.judged h hp he rfl hk hn parseNode_eq_none
    · exact writesBy_writeClass.judged h hp he rfl hk hn parseClass_eq_none
    · exact writesBy_writeTagMap.judged h hp he rfl hk hn (hfalse fun _ _ => rfl)
    · exact writesBy_writeWeights.judged h hp he rfl hk hn (hfalse fun _ _ => rfl)
    · exact writesBy_writePortConfig.judged h hp he rfl hk hn parsePortConfig_eq_none
    · exact writesBy_writeQueueMap.judged h hp he rfl hk hn (hfalse fun _ _ => rfl)
    · exact (writesBy_writeRoute (by rw [hp]; exact hroute)).judged h hp he rfl hk hn parseRoute_eq_none
    · exact writesBy_writeProfile.judged h hp he rfl hk hn (hfalse fun _ _ => rfl)
    · exact writesBy_writeTone.judged h hp he rfl hk hn (hfalse fun _ _ => rfl)
    · exact writesBy_writeSoundMap.judged h hp he rfl hk hn (hfalse fun _ _ => rfl)
    · exact writesBy_writeAttributeConfig.judged h hp he rfl hk hn (hfalse fun _ _ => rfl)
  case rows =>
    intro s u b f a h h2 hl
    exact ⟨writesBy_writeNode.exec_eq h h2 hl, writesBy_writeClass.exec_eq h h2 hl,
      writesBy_writeTagMap.exec_eq h h2 hl, writesBy_writeWeights.exec_eq h h2 hl,
      writesBy_writePortConfig.exec_eq h h2 hl, writesBy_writeQueueMap.exec_eq h h2 hl,
      fun ht hroute => (writesBy_writeRoute hroute).exec_eq h h2 hl ht, writesBy_writeProfile.exec_eq h h2 hl,
      writesBy_writeTone.exec_eq h h2 hl, writesBy_writeSoundMap.exec_eq h h2 hl,
      writesBy_writeAttributeConfig.exec_eq h h2 hl⟩
  case pattern =>
    intro s b f i j n e h hp
    exact ⟨fun hout => exec_writePattern_refused h hp (hp ▸ State.writePattern_outside hout),
      fun hin hl => exec_writePattern_refused h hp (hp ▸ State.writePattern_length hin hl),
      fun hin hl hn => exec_writePattern_refused h hp (hp ▸ State.writePattern_steps_above hin hl hn)⟩

end Sys2Proof.Machine
end

section
/-! SUPPORT. The judgements of a CONTROL frame (R170, R178; log entries 1, 8, 10, 13): the frame that is not taken, the
one refused before its command's own checks, and the one that names no row, with the statement about them. -/

namespace Sys2Proof.Machine

variable {s : State} {b n : Nat} {f : Frame} {row : Instr} {act : Act}

/-! ### A frame not taken -/

/-- Every row that takes a CONTROL frame does so by an action of its own. -/
theorem exec_control_eq (h : row ∈ controlRows) :
    ∃ act : Act, ∀ s : State, exec row s = .next (s.control row act) := by
  unfold controlRows at h
  fin_cases h
  all_goals exact ⟨_, fun _ => rfl⟩

theorem State.control_untaken (h : s.headOfKind kindControl = some (b, f))
    (hnot : s.mgu.pendingReset.isSome = true ∨ rowOf f.payload ≠ row) : s.control row act = s := by
  simp only [State.control, h]
  exact if_pos hnot

/-! ### The judgements of R170 -/

theorem State.obey_stranger (h : addrOf f.src ≠ s.mgu.manager) :
    s.obey f act = (s, Answer.refused reasonNotManager 0) :=
  if_pos h

theorem State.obey_unknown (h : addrOf f.src = s.mgu.manager) (hk : knownCode f.payload = false) :
    s.obey f act = (s, Answer.refused reasonUnknownCommand 0) := by
  rw [State.obey, if_neg (not_not.2 h), if_pos hk]

theorem State.obey_length (h : addrOf f.src = s.mgu.manager) (hk : knownCode f.payload = true)
    (hl : lengthFits f.payload = false) : s.obey f act = (s, Answer.refused reasonLength 0) := by
  rw [State.obey, if_neg (not_not.2 h), if_neg (ne_false_of_eq_true hk), if_pos hl]

theorem knownCode_iff {l : List Byte} (he : l ≠ []) : knownCode l = true ↔ 1 ≤ num1 l 0 ∧ num1 l 0 ≤ 11 := by
  cases l with
  | nil => exact absurd rfl he
  | cons x l => exact decide_eq_true_iff

/-- A code that is not one of the eleven goes to UNKNOWN_COMMAND (log entry 8). -/
theorem rowOf_unknown {l : List Byte} (h : num1 l 0 = 0 ∨ 11 < num1 l 0) : rowOf l = .unknownCommand := by
  unfold rowOf
  rcases h with h | h
  · rw [h]
    rfl
  · obtain ⟨k, hk⟩ : ∃ k, num1 l 0 = k + 12 := ⟨num1 l 0 - 12, by omega⟩
    rw [hk]
    rfl

/-! ### A frame that names no row -/

theorem writeRow_unknown (h : n = 0 ∨ 12 < n) : writeRow n = .unknownCommand := by
  rcases h with rfl | h
  · rfl
  · obtain ⟨k, rfl⟩ : ∃ k, n = k + 13 := ⟨n - 13, by omega⟩
    rfl

theorem clearRow_unknown (h : n = 0 ∨ 4 < n) : clearRow n = .unknownCommand := by
  rcases h with rfl | h
  · rfl
  · obtain ⟨k, rfl⟩ : ∃ k, n = k + 5 := ⟨n - 5, by omega⟩
    rfl

theorem modeRow_unknown (h : n = 0 ∨ 7 < n) : modeRow n = .unknownCommand := by
  rcases h with rfl | h
  · rfl
  · obtain ⟨k, rfl⟩ : ∃ k, n = k + 8 := ⟨n - 8, by omega⟩
    rfl

/-- A table code that its command does not take is BAD_TABLE (R171, R172). -/
theorem exec_badTable (h : s.Commanded b f) (hr : rowOf f.payload = .unknownCommand)
    (hcode : num1 f.payload 0 = 2 ∨ num1 f.payload 0 = 3) (hk : knownCode f.payload = true)
    (hl : lengthFits f.payload = true) :
    exec .unknownCommand s = .next (s.takeHead.answered b f (Answer.refused reasonBadTable 0)) := by
  have hact : noRow s.takeHead f = (s.takeHead, Answer.refused reasonBadTable 0) := if_pos hcode
  exact congrArg _ (State.control_acts h hr hk hl hact rfl)

/-- A group or an action outside its set is BAD_INDEX, with a free value for its figure (R174, R175; log entry 10). -/
theorem exec_badGroup (h : s.Commanded b f) (hr : rowOf f.payload = .unknownCommand)
    (hcode : num1 f.payload 0 = 6 ∨ num1 f.payload 0 = 7) (hk : knownCode f.payload = true)
    (hl : lengthFits f.payload = true) :
    exec .unknownCommand s = .next (({ s.takeHead with free := s.free + 1 } : State).answered b f
      (Answer.refused reasonBadIndex (Config.figureWithoutIndex s.free).toNat)) := by
  have hact : noRow s.takeHead f = (({ s.takeHead with free := s.free + 1 } : State),
      Answer.refused reasonBadIndex (Config.figureWithoutIndex s.free).toNat) := if_neg (by omega)
  exact congrArg _ (State.control_acts h hr hk hl hact rfl)

theorem code_zero_or_above {x : Byte} {m : Nat} (h : x = 0 ∨ m < x.toNat) : x.toNat = 0 ∨ m < x.toNat :=
  h.imp_left fun hx => by rw [hx]; rfl

/-! ### The obligation -/

/-- Settles O48: the judgements in their order on any row, and the two refusals of a frame that names none. -/
theorem controlFramesAreJudged : Obligations.ControlFramesAreJudged := by
  refine ⟨fun row s b f hmem hf => ?judged, fun s b f x l h hp => ?table, fun s b f x n h hp => ?group⟩
  case judged =>
    obtain ⟨act, hexec⟩ := exec_control_eq hmem
    refine ⟨fun hpend => (hexec s).trans (congrArg _ (State.control_untaken hf (.inl hpend))),
      fun hrow => (hexec s).trans (congrArg _ (State.control_untaken hf (.inr hrow))), fun hnone hrow he => ?_⟩
    have hrefused {a : Answer} (ho : s.takeHead.obey f act = (s.takeHead, a)) :
        exec row s = .next (s.takeHead.answered b f a) :=
      (hexec s).trans (congrArg _ (State.control_refused hf hnone hrow he ho))
    refine ⟨fun hsrc => hrefused (State.obey_stranger hsrc), fun hsrc => ⟨fun hcode => ⟨?_, ?_⟩, fun h1 h11 hl => ?_⟩⟩
    · exact hrow.symm.trans (rowOf_unknown hcode)
    · refine hrefused (State.obey_unknown hsrc (eq_false_of_ne_true fun hk => ?_))
      have := (knownCode_iff he).1 hk
      omega
    · exact hrefused (State.obey_length hsrc ((knownCode_iff he).2 ⟨h1, h11⟩) hl)
  case table =>
    rcases hp with ⟨hp, hlen, hx⟩ | ⟨hp, h7, h8⟩
    · have hrow : rowOf f.payload = .unknownCommand := by
        rw [hp]
        exact writeRow_unknown (code_zero_or_above hx)
      have hl : lengthFits f.payload = true := by
        rw [hp]
        exact decide_eq_true (Nat.add_le_add_right hlen 2)
      exact ⟨hrow, exec_badTable h hrow (.inl (by rw [hp]; rfl)) (by rw [hp]; rfl) hl⟩
    · have hrow : rowOf f.payload = .unknownCommand := by
        rw [hp]
        exact (if_neg fun hx => h7 (BitVec.eq_of_toNat_eq hx)).trans
          (if_neg fun hx => h8 (BitVec.eq_of_toNat_eq hx))
      exact ⟨hrow, exec_badTable h hrow (.inr (by rw [hp]; rfl)) (by rw [hp]; rfl) (by rw [hp]; rfl)⟩
  case group =>
    rcases hp with ⟨hp, hx⟩ | ⟨hp, hx⟩
    · have hrow : rowOf f.payload = .unknownCommand := by
        rw [hp]
        exact clearRow_unknown (code_zero_or_above hx)
      exact ⟨hrow, _, exec_badGroup h hrow (.inl (by rw [hp]; rfl)) (by rw [hp]; rfl) (by rw [hp]; rfl)⟩
    · have hrow : rowOf f.payload = .unknownCommand := by
        rw [hp]
        exact modeRow_unknown (code_zero_or_above hx)
      exact ⟨hrow, _, exec_badGroup h hrow (.inr (by rw [hp]; rfl)) (by rw [hp]; rfl) (by rw [hp]; rfl)⟩

end Sys2Proof.Machine
end

section
/-! SUPPORT. READ_TABLE (R171, R183; log entries 27, 28, 49): what it answers to a range, and the octets of every entry
of every table. -/

namespace Sys2Proof

/-! ### Tables -/

variable {α : Type} {i : Nat}

theorem Tab.getElem?_data {m : Nat} (t : Tab α m) (d : α) (h : i < m) : t.data[i]? = some (t.get i d) := by
  rw [Tab.get, List.getD, List.getElem?_eq_getElem (t.size.symm ▸ h)]
  rfl

/-- A table is the list of its entries. -/
theorem Tab.data_eq {m : Nat} (t : Tab α m) (d : α) : t.data = (List.range m).map fun i => t.get i d := by
  refine List.ext_getElem? fun i => ?_
  by_cases h : i < m
  · rw [t.getElem?_data d h, List.getElem?_map, List.getElem?_range h]
    rfl
  · rw [List.getElem?_eq_none (by rw [t.size]; omega), List.getElem?_eq_none (by simpa using h)]

end Sys2Proof

namespace Sys2Proof.Machine

variable {α : Type} {s : State} {b i k n t : Nat} {f : Frame} {a : Answer}

/-! ### The range -/

theorem oct2_pair (x y : Byte) : oct2 (x.toNat + 256 * y.toNat) = [x, y] := by
  have hx := x.isLt
  have hy := y.isLt
  have hlow : BitVec.ofNat 8 (x.toNat + 256 * y.toNat) = x := by
    refine BitVec.eq_of_toNat_eq ?_
    rw [BitVec.toNat_ofNat]
    omega
  have hhigh : BitVec.ofNat 8 ((x.toNat + 256 * y.toNat) / 256) = y := by
    refine BitVec.eq_of_toNat_eq ?_
    rw [BitVec.toNat_ofNat]
    omega
  rw [oct2, hlow, hhigh]

theorem oct1_octet (x : Byte) : oct1 x.toNat = [x] := by
  rw [oct1, BitVec.ofNat_toNat, BitVec.setWidth_eq]

theorem State.readTable_absent (h : s.tableReadable t = false) :
    s.readTable t i n = Answer.refused reasonBadTable 0 :=
  if_pos h

/-- A range with an index outside its table names the first such index (log entry 28). -/
theorem State.readTable_outside (h : s.tableReadable t = true) (hk : k < n) (hnone : s.tableEntry t (i + k) = none)
    (hfirst : ∀ m, m < k → (s.tableEntry t (i + m)).isSome = true) :
    s.readTable t i n = Answer.refused reasonBadIndex (i + k) := by
  have hfind : ((List.range n).map fun k => s.tableEntry t (i + k)).findIdx? (fun e => e.isNone) = some k := by
    refine List.findIdx?_eq_some_iff_getElem.2 ⟨by simpa using hk, by simp [hnone], fun m hm => ?_⟩
    have := hfirst m hm
    simpa [Option.isSome_iff_ne_none] using this
  simp only [State.readTable, h, Bool.true_eq_false, if_false, hfind]

/-- The answer to a range inside its table. -/
theorem State.readTable_within {l : List (List Byte)} (h : s.tableReadable t = true)
    (hl : (List.range n).map (fun k => s.tableEntry t (i + k)) = l.map some) :
    s.readTable t i n = if 232 < l.flatten.length then Answer.refused reasonLength 0
      else Answer.ok (oct2 i ++ oct1 n ++ l.flatten) := by
  have hfind : (l.map some).findIdx? (fun e => e.isNone) = none :=
    List.findIdx?_eq_none_iff.2 fun x hx => by
      obtain ⟨y, -, rfl⟩ := List.mem_map.1 hx
      rfl
  have hvalues : (l.map some).filterMap id = l := by
    rw [List.filterMap_map]
    exact List.filterMap_some
  have hlength : (oct2 i ++ oct1 n ++ l.flatten).length = 3 + l.flatten.length := by
    rw [List.length_append]
    rfl
  simp only [State.readTable, h, Bool.true_eq_false, if_false, hl, hfind, hvalues, hlength]
  exact if_congr (by omega) rfl rfl

theorem exec_readTable {x i j n : Byte} (h : s.Commanded b f) (hp : f.payload = [1, x, i, j, n])
    (ha : s.readTable x.toNat (i.toNat + 256 * j.toNat) n.toNat = a) :
    exec .readTable s = .next (s.takeHead.answered b f a) := by
  have hact : answering (fun t l => t.readTable (num1 l 1) (num2 l 2) (num1 l 4)) s.takeHead f = (s.takeHead, a) := by
    rw [← ha, answering, hp]
    rfl
  exact congrArg _ (State.control_acts h (by rw [hp]; rfl) (by rw [hp]; rfl) (by rw [hp]; rfl) hact rfl)

theorem State.tableReadable_iff : s.tableReadable t = true ↔
    (1 ≤ t ∧ t ≤ 12) ∨ (t = 13 ∧ s.jcu.live.isSome = true) ∨ (t = 14 ∧ s.tdu.live.isSome = true) := by
  unfold State.tableReadable
  split
  · subst t; simp
  · split
    · subst t; simp
    · simp [*]

/-- A table code outside 1..14, and a live table that is not there (log entry 49). -/
theorem State.tableReadable_absent {x : Byte} (h : x = 0 ∨ 14 < x.toNat ∨ (x = 13 ∧ s.jcu.live = none) ∨
    (x = 14 ∧ s.tdu.live = none)) : s.tableReadable x.toNat = false := by
  refine eq_false_of_ne_true fun hread => ?_
  have htable := State.tableReadable_iff.1 hread
  rcases h with rfl | h | ⟨rfl, hl⟩ | ⟨rfl, hl⟩
  · simp at htable
  · omega
  · simp [hl] at htable
  · simp [hl] at htable

/-! ### The entry of a table -/

theorem entryOf_of_getElem? {l : List α} {x : α} {base : Nat} {lay : α → List Byte} (h : l[i]? = some x) :
    entryOf l base (i + base) lay = some (lay x) := by
  rw [entryOf, if_neg (by omega), Nat.add_sub_cancel, h]
  rfl

theorem entryOf_tab {m : Nat} (t : Tab α m) (d : α) {lay : α → List Byte} (h : i < m) :
    entryOf t.data 0 i lay = some (lay (t.get i d)) :=
  entryOf_of_getElem? (base := 0) (t.getElem?_data d h)

theorem entryOf_outside {l : List α} {base : Nat} {lay : α → List Byte} (h : i < base ∨ base + l.length ≤ i) :
    entryOf l base i lay = none := by
  unfold entryOf
  split
  · rfl
  · rw [List.getElem?_eq_none (by omega)]
    rfl

theorem routeOctets_entry {h : RouteHeader} {l : List RouteEntry} {e : RouteEntry} (he : l[i]? = some e) :
    routeOctets h l (i + 1) = some e.octets :=
  (if_neg (Nat.succ_ne_zero i)).trans (entryOf_of_getElem? he)

theorem routeOctets_outside {h : RouteHeader} {l : List RouteEntry} (hi : l.length < i) : routeOctets h l i = none :=
  (if_neg (by omega)).trans (entryOf_outside (by omega))

/-! ### The octets of an entry (R183) -/

theorem NodeEntry.octets_eq (w : Fsw) (x : Addr) : (w.node x).octets =
    [BitVec.ofNat 8 (codeNodeRole (w.node x).role), BitVec.ofNat 8 ((w.node x).priority.getD 255),
      BitVec.ofNat 8 (((w.side x).map codePort).getD 255), BitVec.ofNat 8 (w.node x).age] := by
  rw [Fsw.side, Option.map_map]
  rfl

theorem PortConfig.octets_eq (e : Egress) : e.config.octets =
    [BitVec.ofNat 8 e.config.queueCount, BitVec.ofNat 8 e.config.defaultPriority,
        if e.config.autoloop then 1 else 0] ++
      ([0, 1, 2, 3].map fun n => BitVec.ofNat 8 (codeQueueType (e.queueConfig n).type)) ++
      ([0, 1, 2, 3].map fun n => BitVec.ofNat 8 (e.queueConfig n).weight) ++
      ([0, 1, 2, 3].map fun n => BitVec.ofNat 8 (e.queueConfig n).depth) := by
  rw [PortConfig.octets, e.config.queues.data_eq { type := .strict, weight := 1, depth := 1 }, octFlag_eq]
  rfl

/-- The octets of a table of octets. -/
theorem flatMap_oct1 {m : Nat} (t : Tab Nat m) :
    t.data.flatMap oct1 = (List.range m).map fun n => BitVec.ofNat 8 (t.get n 0) := by
  rw [t.data_eq 0, List.flatMap_map]
  exact List.flatMap_pure_eq_map ..

/-! ### The tables (R171, R183) -/

theorem State.tableEntry_node (s : State) (hi : i < 63) :
    s.tableEntry 1 i = some (s.fsw.node (BitVec.ofNat 6 i)).octets := by
  have hnode : s.fsw.nodes.get i NodeEntry.powerOn = s.fsw.node (BitVec.ofNat 6 i) := by
    rw [Fsw.node, BitVec.toNat_ofNat, Nat.mod_eq_of_lt (by omega)]
  rw [← hnode]
  exact entryOf_tab _ _ hi

theorem State.tableEntry_portConfig (s : State) (p : Port) :
    s.tableEntry 5 (codePort p) = some (s.bqm.egress.get p).config.octets := by
  cases p <;> rfl

theorem State.tableEntry_queueMap (s : State) (hi : i < 4) : s.tableEntry 6 (i + 1) =
    some ((List.range 8).map fun n => BitVec.ofNat 8 ((s.bqm.maps.get i (Tab.fill 8 0)).get n 0)) := by
  rw [← flatMap_oct1]
  exact entryOf_of_getElem? (s.bqm.maps.getElem?_data _ hi)

theorem State.tableEntry_routeEntry {e : RouteEntry} (hi : i < 256) (he : e = s.jcu.shadow.get i e) :
    s.tableEntry 7 (i + 1) = some e.octets :=
  routeOctets_entry (by rw [s.jcu.shadow.getElem?_data e hi, ← he])

theorem State.tableEntry_soundMap (s : State) :
    s.tableEntry 11 0 = some ((List.range 7).map fun n => BitVec.ofNat 8 (s.snu.map.get n 0)) := by
  rw [← flatMap_oct1]
  rfl

theorem State.tableEntry_attribute (s : State) (x : Attr) :
    s.tableEntry 12 (attrIndex x + 1) = some (s.cmn.attrConfig x).octets :=
  entryOf_of_getElem? (s.cmn.config.getElem?_data _ (attrIndex_lt x))

theorem State.tableEntry_liveRoute {r : LiveRoute} (hr : s.jcu.live = some r) (i : Nat) :
    s.tableEntry 13 i = routeOctets r.header r.entries i := by
  show (s.jcu.live.bind fun t => routeOctets t.header t.entries i) = _
  rw [hr]
  rfl

theorem State.tableEntry_liveProfile {p : Profile} (hp : s.tdu.live = some p) (i : Nat) :
    s.tableEntry 14 i = entryOf p.fields 1 i octS2 := by
  show (s.tdu.live.bind fun p => entryOf p.fields 1 i octS2) = _
  rw [hp]
  rfl

theorem State.tableEntry_outside (s : State) (i : Nat) :
    (63 ≤ i → s.tableEntry 1 i = none) ∧ (256 ≤ i → s.tableEntry 2 i = none) ∧
      (8 ≤ i → s.tableEntry 3 i = none) ∧ (4 ≤ i → s.tableEntry 4 i = none) ∧
      ((i = 0 ∨ 2 < i) → s.tableEntry 5 i = none) ∧ ((i = 0 ∨ 4 < i) → s.tableEntry 6 i = none) ∧
      (256 < i → s.tableEntry 7 i = none) ∧ ((i = 0 ∨ 19 < i) → s.tableEntry 8 i = none) ∧
      (16 ≤ i → s.tableEntry 9 i = none) ∧ (8 ≤ i → s.tableEntry 10 i = none) ∧
      (i ≠ 0 → s.tableEntry 11 i = none) ∧ ((i = 0 ∨ 8 < i) → s.tableEntry 12 i = none) ∧
      (∀ r, s.jcu.live = some r → r.entries.length < i → s.tableEntry 13 i = none) ∧
      ((i = 0 ∨ 19 < i) → s.tableEntry 14 i = none) := by
  have hzero {α : Type} {m : Nat} (t : Tab α m) {lay : α → List Byte} (h : m ≤ i) : entryOf t.data 0 i lay = none :=
    entryOf_outside (.inr (by rw [t.size]; omega))
  have hone {α : Type} {l : List α} {m : Nat} (hm : l.length = m) {lay : α → List Byte} (h : i = 0 ∨ m < i) :
      entryOf l 1 i lay = none :=
    entryOf_outside (by omega)
  refine ⟨hzero _, hzero _, hzero _, hzero _, hone (m := 2) rfl,
    hone s.bqm.maps.size, fun h => ?_, hone (m := 19) rfl, hzero _, hzero _,
    fun h => entryOf_outside (.inr (Nat.pos_of_ne_zero h)), hone s.cmn.config.size, fun r hr h => ?_, fun h => ?_⟩
  · exact routeOctets_outside (by rw [s.jcu.shadow.size]; exact h)
  · exact (State.tableEntry_liveRoute hr i).trans (routeOctets_outside h)
  · cases hlive : s.tdu.live with
    | none => exact congrArg (·.bind fun p => entryOf p.fields 1 i octS2) hlive
    | some p => exact (State.tableEntry_liveProfile hlive i).trans (hone (m := 19) rfl h)

end Sys2Proof.Machine
end

section
/-! SUPPORT. READ_STATE and READ_LOG (R170, R173, R183; log entries 13, 17, 27, 36, 44): the octets of every item and of
a log entry, the newest entries, and the statement about what the part tells of itself. -/

namespace Sys2Proof.Machine

variable {α : Type} {s : State} {b n : Nat} {f : Frame} {a : Answer}

/-! ### The items (R173) -/

theorem octN_two (n : Nat) : octN 2 n = oct2 n := rfl

theorem octN_four (n : Nat) : octN 4 n = oct4 n := by
  simp only [octN, oct4, Nat.div_div_eq_div_mul, Nat.reduceMul]

theorem octN_eight (n : Nat) : octN 8 n = oct4 n ++ oct4 (n / 4294967296) := by
  simp only [octN, oct4, Nat.div_div_eq_div_mul, Nat.reduceMul, List.cons_append, List.nil_append]

theorem octOpt_eq (m : Nat) (x : Option α) (lay : α → List Byte) :
    octOpt m x lay = x.elim (List.replicate m 255) lay := by
  cases x <;> rfl

theorem Egress.occupancies_eq (e : Egress) :
    e.occupancies = [0, 1, 2, 3].map fun n => BitVec.ofNat 8 (e.queue n).entries.length := by
  rw [Egress.occupancies, e.queues.data_eq EgressQueue.empty]
  rfl

theorem Egress.dropCounts_eq (e : Egress) :
    e.dropCounts = [0, 1, 2, 3].flatMap fun n => oct4 (e.queue n).drops := by
  rw [Egress.dropCounts, e.queues.data_eq EgressQueue.empty]
  rfl

theorem Ciu.levels_eq (u : Ciu) : (u.inputs.data.flatMap fun x => octFlag x.level) =
    [Input.key, .deadman, .estop, .doorRelease, .horn, .bell, .routeLeft, .routeStraight, .routeRight].map
      fun i => BitVec.ofNat 8 (if (u.input i).level then 1 else 0) := by
  rw [u.inputs.data_eq { pin := false, level := false, stability := none }]
  rfl

theorem DepotTest.octets_eq (t : DepotTest) : t.octets =
    oct2 t.loop ++ oct1 (if t.inSync then 2 else 1) ++ oct4 t.checked ++ oct4 t.errors ++ oct1 t.delay.length ++
      oct4 (packBits t.delay) ++ oct1 t.history.length ++ oct2 (packBits t.history) ++ oct1 t.window.length ++
      oct4 (packBits t.window) ++ oct4 (packBits t.window / 4294967296) := by
  rw [DepotTest.octets, octN_four, octN_two, octN_eight]
  simp only [List.append_assoc]

theorem Snu.stepLeft_eq (u : Snu) (c : Channel) : u.stepLeft c =
    ((u.player c).playing.bind fun x => (u.patternOf x)[(u.player c).step]?).map
      fun y => y.duration * 10 - (u.player c).elapsed := by
  unfold Snu.stepLeft Snu.currentStep
  cases (u.player c).playing <;> rfl

theorem onlyZero_eq_none {l : List Byte} : onlyZero n l = none ↔ n ≠ 0 := by
  unfold onlyZero
  split <;> simp [*]

/-- The items and the indices that stand (R173). -/
theorem State.readItem_eq_none (s : State) (item index : Nat) : s.readItem item index = none ↔
    item = 0 ∨ 12 < item ∨ (item = 1 ∧ (index = 0 ∨ 2 < index)) ∨ (item = 6 ∧ (index = 0 ∨ 6 < index)) ∨
      (item = 8 ∧ s.jcu.contexts.length < index) ∨ (item = 11 ∧ (index = 0 ∨ 8 < index)) ∨
      (item ≠ 1 ∧ item ≠ 6 ∧ item ≠ 8 ∧ item ≠ 11 ∧ index ≠ 0) := by
  unfold State.readItem
  split
  case h_1 =>
    repeat' split
    all_goals (simp; omega)
  case h_6 | h_8 | h_11 => split <;> (simp; omega)
  case h_13 =>
    simp only [imp_false] at *
    refine iff_of_true trivial ?_
    omega
  all_goals simp [onlyZero_eq_none]

theorem State.readItem_slot (s : State) (h : n < 6) : s.readItem 6 (n + 1) =
    some (slotOctets (s.tdu.slots.get n none) s.cmn.partTime ++ octFlag s.tdu.inverterOverflow) :=
  if_pos ⟨by omega, by omega⟩

theorem State.readItem_attribute (s : State) (x : Attr) : s.readItem 11 (attrIndex x + 1) =
    some (oct1 (s.cmn.attr x).n ++ oct1 (s.cmn.attr x).worst ++ oct4 (s.cmn.attr x).raw ++
      octFlag (s.cmn.attr x).tripped ++ octOpt4 (s.cmn.attr x).recovery ++ oct4 s.cmn.partTime.toNat) := by
  have hitem : s.readItem 11 (attrIndex x + 1) = some (s.cmn.readout (attrIndex x + 1)) :=
    if_pos ⟨Nat.le_add_left 1 _, attrIndex_lt x⟩
  rw [hitem, Cmn.readout, attrOf_attrIndex]

theorem LogEntry.octets_eq (e : LogEntry) : e.octets = oct2 e.number ++ oct4 e.time.toNat ++
    [BitVec.ofNat 8 (codeLogKind e.info.kind), BitVec.ofNat 8 (codeBlock e.info.block)] ++
    oct2 (e.info.junction.getD 65535) ++
    [BitVec.ofNat 8 ((e.info.node.map fun x => x.toNat).getD 255),
      BitVec.ofNat 8 ((e.info.port.map codePort).getD 255), BitVec.ofNat 8 (if e.info.value.isSome then 1 else 0)] ++
    oct4 (e.info.value.elim 4294967295 fun v => (BitVec.ofInt 32 v).toNat) := by
  have hvalue : octOpt 4 e.info.value octS4 =
      oct4 (e.info.value.elim 4294967295 fun v => (BitVec.ofInt 32 v).toNat) := by
    cases e.info.value <;> rfl
  rw [LogEntry.octets, hvalue]
  rfl

/-! ### READ_STATE and READ_LOG (R173) -/

theorem exec_readState {x y : Byte} (h : s.Commanded b f) (hp : f.payload = [4, x, y])
    (ha : readState s.takeHead f = (s.takeHead, a)) : exec .readState s = .next (s.takeHead.answered b f a) :=
  congrArg _ (State.control_acts h (by rw [hp]; rfl) (by rw [hp]; rfl) (by rw [hp]; rfl) ha rfl)

theorem readState_item {x y : Byte} {l : List Byte} (hp : f.payload = [4, x, y])
    (h : s.readItem x.toNat y.toNat = some l) : readState s f = (s, Answer.ok l) := by
  have hitem : s.readItem (num1 f.payload 1) (num1 f.payload 2) = some l := by rw [hp]; exact h
  simp only [readState, answering, hitem]

theorem readState_outside {x y : Byte} (hp : f.payload = [4, x, y]) (h : s.readItem x.toNat y.toNat = none) :
    readState s f = (s, Answer.refused reasonBadIndex y.toNat) := by
  have hitem : s.readItem (num1 f.payload 1) (num1 f.payload 2) = none := by rw [hp]; exact h
  have hindex : num1 f.payload 2 = y.toNat := by rw [hp]; rfl
  simp only [readState, answering, hitem]
  rw [hindex]

/-- A count above 8 is clamped to 8 (R173). -/
theorem readLog_eq {x : Byte} (hp : f.payload = [5, x]) : readLog s f =
    (s, { status := if x.toNat ≤ 8 then 1 else 2, reason := 0, figure := if x.toNat ≤ 8 then 0 else 1
          data := s.cmn.log.readout (min 8 x.toNat) }) := by
  have hcount : num1 f.payload 1 = x.toNat := by rw [hp]; rfl
  simp only [readLog, answering, hcount, clampNat_zero, offRange_zero, Answer.clamped_eq]
  by_cases h : x.toNat ≤ 8
  · simp [h, not_lt.2 h]
  · simp [h, not_le.1 h]

theorem exec_readLog {x : Byte} (h : s.Commanded b f) (hp : f.payload = [5, x]) :
    exec .readLog s = .next (s.takeHead.answered b f
      { status := if x.toNat ≤ 8 then 1 else 2, reason := 0, figure := if x.toNat ≤ 8 then 0 else 1
        data := s.cmn.log.readout (min 8 x.toNat) }) :=
  congrArg _ (State.control_acts h (by rw [hp]; rfl) (by rw [hp]; rfl) (by rw [hp]; rfl)
    (readLog_eq (s := s.takeHead) hp) rfl)

/-- The newest entries are those counted back from the newest, where these all stand (R166, R173). -/
theorem FaultLog.map_some_newest {l : FaultLog} (h : ∀ k, k < l.held → (l.back k).isSome = true) :
    (l.newest n).map some = (List.range (min n l.held)).map fun k => l.back k := by
  rw [FaultLog.newest, List.map_filterMap_some_eq_filter_map_isSome, List.map_id, List.filter_eq_self]
  intro x hx
  obtain ⟨k, hk, rfl⟩ := List.mem_map.1 hx
  have := List.mem_range.1 hk
  exact h k (by omega)

theorem FaultLog.length_newest {l : FaultLog} (h : ∀ k, k < l.held → (l.back k).isSome = true) :
    (l.newest n).length = min n l.held := by
  simpa using congrArg List.length (FaultLog.map_some_newest (n := n) h)

theorem FaultLog.getElem?_newest {l : FaultLog} (h : ∀ k, k < l.held → (l.back k).isSome = true) {k : Nat}
    (hk : k < min n l.held) : (l.newest n)[k]? = l.back k := by
  obtain ⟨x, hx⟩ := Option.isSome_iff_exists.1 (h k (by omega))
  have hentry : ((l.newest n)[k]?).map some = some (l.back k) := by
    rw [← List.getElem?_map, FaultLog.map_some_newest h, List.getElem?_map, List.getElem?_range hk]
    rfl
  rw [hx] at hentry ⊢
  simpa using hentry

/-! ### The obligation -/

/-- Settles O49: the answers by their commands, the entries by the tables they stand in, and the items field by
field. -/
theorem readsAnswerAndChangeNothing : Obligations.ReadsAnswerAndChangeNothing := by
  refine ⟨fun s b f t i j n l h hp ht hl hshort => ?_, fun s b f t i j n l h hp ht hl hlong => ?_,
    fun s b f t i j n k h hp ht hk hnone hfirst => exec_readTable h hp (State.readTable_outside ht hk hnone hfirst),
    fun s b f t i j n h hp ht => exec_readTable h hp (State.readTable_absent (State.tableReadable_absent ht)),
    fun s i hi => ?_, fun s n => State.tableReadable_iff, fun s o w ho hw => ?tables,
    fun s o w d g ho hw hd hg => ?items, testBit_packBits, ?codes, ?places,
    fun s b f x y l h hp hl => exec_readState h hp (readState_item hp hl),
    fun s b f x y h hp hnone => exec_readState h hp (readState_outside hp hnone),
    fun s b f n h hp => exec_readLog h hp, fun l n _ hback =>
      ⟨FaultLog.length_newest hback, fun k hk => FaultLog.getElem?_newest hback hk⟩⟩
  · rw [exec_readTable h hp (State.readTable_within ht hl), if_neg (not_lt.2 hshort), oct2_pair, oct1_octet]
    rfl
  · rw [exec_readTable h hp (State.readTable_within ht hl), if_pos hlong]
    rfl
  · rw [s.tableEntry_node hi, NodeEntry.octets_eq]
  case tables =>
    obtain rfl : o = fun n => BitVec.ofNat 8 n := funext ho
    obtain rfl : w = oct2 := funext hw
    refine ⟨fun i hi e he => ?_, fun i hi => entryOf_tab _ _ hi, fun i hi => entryOf_tab _ _ hi, fun p c hc => ?_,
      fun i hi => s.tableEntry_queueMap hi, fun h l hl => ⟨fun hh => ?_, fun r hr hh => ?_⟩,
      fun e i l hl => ⟨fun hi he => hl ▸ State.tableEntry_routeEntry hi he, fun r hr he => hl ▸ ?_⟩,
      fun p i v hv => ⟨?_, fun hp => ?_⟩, fun i l hi hl => ?_, fun i hi => entryOf_tab _ _ hi, s.tableEntry_soundMap,
      fun a g hg => hg ▸ s.tableEntry_attribute a, s.tableEntry_outside⟩
    · subst he
      exact entryOf_tab _ _ hi
    · rw [s.tableEntry_portConfig, PortConfig.octets_eq, ← hc]
    · rw [hl, hh]
      rfl
    · rw [State.tableEntry_liveRoute hr, hl, hh]
      rfl
    · exact (State.tableEntry_liveRoute hr _).trans (routeOctets_entry he)
    · rintro rfl
      exact entryOf_of_getElem? hv
    · exact (State.tableEntry_liveProfile hp _).trans (entryOf_of_getElem? hv)
    · subst hl
      exact entryOf_tab _ _ hi
  case items =>
    obtain rfl : o = fun n => BitVec.ofNat 8 n := funext ho
    obtain rfl : w = oct2 := funext hw
    obtain rfl : d = oct4 := funext hd
    obtain rfl : g = fun x => BitVec.ofNat 8 (if x then 1 else 0) :=
      funext fun x => (hg x).trans (by cases x <;> rfl)
    refine ⟨?port, ?buffers, ?role, ?inputs, ?traction, ?inverters, ?loop, ?junctions, ?junction, ?stop, ?sound,
      ?monitor, ?management, s.readItem_eq_none, LogEntry.octets_eq⟩
    case port =>
      intro p
      cases p <;> rfl
    case buffers =>
      show some s.bqm.readout = _
      rw [Bqm.readout, Egress.occupancies_eq, Egress.occupancies_eq, Egress.dropCounts_eq, Egress.dropCounts_eq]
      rfl
    case role => rfl
    case inputs =>
      show some s.ciu.readout = _
      rw [Ciu.readout, Ciu.levels_eq]
      rfl
    case traction => rfl
    case inverters =>
      intro n hn
      rw [s.readItem_slot hn]
      exact ⟨fun h => by rw [h]; rfl, fun x h => by rw [h]; rfl⟩
    case loop =>
      show some s.llu.readout = _
      rw [Llu.readout, octOpt_eq, octOpt_eq, octOpt_eq, funext DepotTest.octets_eq]
      rfl
    case junctions => rfl
    case junction => exact fun n x hx => congrArg (Option.map Ctx.octets) hx
    case stop => rfl
    case sound =>
      show some s.snu.readout = _
      rw [Snu.readout, Snu.playerOctets, Snu.playerOctets, Snu.stepLeft_eq, Snu.stepLeft_eq]
      rfl
    case monitor => exact fun a => (s.readItem_attribute a).trans rfl
    case management => rfl
  case codes =>
    exact ⟨rfl, rfl, rfl, rfl, rfl, rfl, fun _ => rfl, fun _ => rfl, rfl, rfl, rfl, rfl, rfl, rfl⟩
  case places => decide

end Sys2Proof.Machine
end

section
/-! SUPPORT. A step as the command it takes, and as a bit time where none waits: what the bit time moves of each unit,
and what it finds and leaves due (R165; log entries 2, 3, 24, 38, 39 and 47). -/

namespace Sys2Proof.Machine

/-! ### The command at the front -/

/-- Settles O1: the step looks at nothing but the queue before it takes the command. -/
theorem stepTakesTheFrontCommand : Obligations.StepTakesTheFrontCommand := fun _ _ _ => rfl

/-! ### What a bit time moves of the part and of a port -/

/-- A bit time leaves the straps, the buffers and the count of free values (log entry 24). -/
theorem State.clock_eq (s : State) : s.clock = { s with
    ports := s.clock.ports, fsw := s.clock.fsw, cru := s.clock.cru, ciu := s.clock.ciu, tdu := s.clock.tdu
    llu := s.clock.llu, jcu := s.clock.jcu, sru := s.clock.sru, snu := s.clock.snu, cmn := s.clock.cmn
    mgu := s.clock.mgu, pending := s.clock.pending } := by
  obtain ⟨hown, hbqm, hfree⟩ := s.clock_keeps
  rw [← hown, ← hbqm, ← hfree]

/-- A port behind a bit time is what its receive side leaves, the line and the output moved on by one. -/
theorem State.clock_port (s : State) (p : Port) : s.clock.port p =
    { (s.receiveBit p).1 with
      line := (s.port p).line.tail, joined := (s.port p).nextJoined, pos := s.nextPos p } := by
  have hports : s.clock.ports = ((s.clockPort .A).clockPort .B).ports := by
    obtain ⟨-, hports, -⟩ :=
      State.countMicro_keeps (((s.clockPort .A).clockPort .B).clockLoop.onSnu Snu.clock)
    exact hports
  rw [State.port, hports]
  cases p <;> rfl

/-! ### The tone outputs and the time elapsed -/

/-- A bit time moves the waves alone (R150). -/
theorem Snu.clock_eq (u : Snu) : u.clock = { u with
    exterior := { u.exterior with wave := u.clock.exterior.wave }
    interior := { u.interior with wave := u.clock.interior.wave } } := rfl

/-- The end of a millisecond counts for a player with a playing source (R154). -/
theorem Player.tick_eq (x : Player) :
    x.tick = { x with elapsed := x.elapsed + if x.playing.isSome then 1 else 0 } := by
  rw [Player.tick]
  split <;> rfl

/-- A bit time that ends a millisecond moves the waves and counts for the players. -/
theorem Snu.tick_clock (u : Snu) : u.clock.tick = { u with
    exterior := { u.exterior with
      wave := u.clock.exterior.wave
      elapsed := u.exterior.elapsed + if u.exterior.playing.isSome then 1 else 0 }
    interior := { u.interior with
      wave := u.clock.interior.wave
      elapsed := u.interior.elapsed + if u.interior.playing.isSome then 1 else 0 } } := by
  rw [Snu.tick, Player.tick_eq, Player.tick_eq]
  rfl

/-! ### What is due as a millisecond ends -/

/-- What the thousandth bit time adds to the queue is what is due in the state behind it: the queue itself is not
judged. -/
theorem State.clock_due {s : State} (h : ¬ s.cmn.micros + 1 < 1000) : s.clock.due =
    ((((s.clockPort .A).clockPort .B).clockLoop.onSnu Snu.clock).onCmn
      fun c => { c with micros := 0 }).tick.due := by
  have hends : s.clock = ((((s.clockPort .A).clockPort .B).clockLoop.onSnu Snu.clock).onCmn
      fun c => { c with micros := 0 }).endMilli := if_neg h
  rw [hends]
  rfl

theorem State.clock_pending_due (s : State) : s.clock.pending =
    s.pending ++ s.portEvents .A ++ s.portEvents .B ++ s.loopEvents ++
      if s.cmn.micros + 1 < 1000 then [] else s.clock.due := by
  rw [State.clock_pending]
  split
  · rfl
  · next h => rw [State.clock_due h]

theorem mem_expired (c : Instr) : c ∈ expired (some 0) c := List.mem_singleton.2 rfl

/-- The expiries that a statement names one by one (R59, R64, R77, R95, R145, R177), with their timers. -/
def State.namedTimers (s : State) : List (Option Nat × Instr) :=
  [(s.cru.announceTimer, .announceTimerExpiry), (s.cru.claimWindow, .claimWindowExpiry),
    (s.tdu.periodTimer, .demandPeriod), (s.tdu.grace, .graceTimerExpiry),
    (s.sru.refreshTimer, .refreshTimerExpiry), (s.mgu.reportTimer, .reportTimerExpiry)]

/-- A timer with no time left makes its command due (log entry 2). -/
theorem State.mem_due {s : State} {c : Instr} (h : (some 0, c) ∈ s.namedTimers) : c ∈ s.due := by
  simp only [State.namedTimers, List.mem_cons, Prod.mk.injEq, List.not_mem_nil, or_false] at h
  rcases h with ⟨h, rfl⟩ | ⟨h, rfl⟩ | ⟨h, rfl⟩ | ⟨h, rfl⟩ | ⟨h, rfl⟩ | ⟨h, rfl⟩ <;>
    simp only [State.due, Cru.expiries, ← h, List.mem_append, mem_expired, true_or, or_true]

/-- The thousandth bit time takes one millisecond from each of these timers. -/
theorem State.namedTimers_clock {s : State} (h : 1000 ≤ s.cmn.micros + 1) :
    s.clock.namedTimers = s.namedTimers.map fun x => (down x.1, x.2) := by
  obtain ⟨-, -, hends⟩ := s.clock_units
  obtain ⟨-, -, hcru, -, htdu, -, hsru, -, hmgu⟩ := hends h
  rw [State.namedTimers, hcru, htdu, hsru, hmgu]
  rfl

/-- A timer with one millisecond left runs out in the thousandth bit time, and its command waits behind it. -/
theorem State.mem_clock_pending_of_last {s : State} {c : Instr} (h : 1000 ≤ s.cmn.micros + 1)
    (hc : (some 1, c) ∈ s.namedTimers) : c ∈ s.clock.pending := by
  have hdue : c ∈ s.clock.due := State.mem_due (by
    rw [State.namedTimers_clock h]
    exact List.mem_map_of_mem hc)
  rw [State.clock_pending_due, if_neg (Nat.not_lt.2 h)]
  exact List.mem_append_right _ hdue

/-! ### The obligation -/

/-- Settles O2: the queue by what the bit time finds, the frame unit by unit, and the units within a millisecond and
at its end. -/
theorem emptyQueuePassesABitTime : Obligations.EmptyQueuePassesABitTime := by
  intro s hp
  obtain ⟨hllu, hwithin, hends⟩ := s.clock_units
  refine ⟨s.clock, step_bitTime hp, ?pending, s.clock_eq, ?port, ?llu, fun hm => ?within, fun lose hlose hm => ?ends⟩
  case pending =>
    have hqueue := s.clock_pending_due
    rwa [hp, List.nil_append] at hqueue
  case port =>
    intro p
    obtain ⟨x, r, hreceive⟩ := s.receiveBit_cases p
    rw [State.clock_port, hreceive]
  case llu =>
    rw [hllu]
    rfl
  case within =>
    obtain ⟨hcmn, hfsw, hcru, hciu, htdu, hjcu, hsru, hsnu, hmgu⟩ := hwithin (by omega)
    rw [hsnu]
    exact ⟨hcmn, hcru, htdu, hsru, hmgu, hfsw, hjcu, hciu, s.snu.clock_eq⟩
  case ends =>
    obtain rfl : lose = down := funext hlose
    obtain ⟨hcmn, hfsw, hcru, hciu, htdu, hjcu, hsru, hsnu, hmgu⟩ := hends (by omega)
    rw [hsnu, hciu]
    refine ⟨hcmn, hfsw, hcru, rfl, htdu, hjcu, hsru, s.snu.tick_clock, hmgu, ?_, ?_, ?_, ?_, ?_, ?_⟩ <;>
      exact fun h => State.mem_clock_pending_of_last (by omega) (by simp [State.namedTimers, h])

end Sys2Proof.Machine
end
